-- ==== Sys2Proof/Word.lean ====
section
/-! DEFINITION. Words, the names of the station's parts (0.2 of 00_scope.md) and one small table per kind of part. -/

namespace Sys2Proof

/-- A byte of a link frame or of the settings image. -/
abbrev Byte := BitVec 8

/-- A wafer tag, an item id or a captured value of the time base (R2, R88, R48). -/
abbrev Word32 := BitVec 32

/-- The three platens (0.2). -/
inductive Platen where
  | p0 | p1 | p2
  deriving DecidableEq, Repr

/-- The four heads (0.2). -/
inductive Head where
  | h0 | h1 | h2 | h3
  deriving DecidableEq, Repr

/-- The three slurry feeds (0.2). -/
inductive Feed where
  | a | b | c
  deriving DecidableEq, Repr

/-- The four membrane zones of a head (0.2). -/
inductive Zone where
  | z0 | z1 | z2 | z3
  deriving DecidableEq, Repr

/-- The five pressure channels of a head: its zones and the retaining ring (0.2). -/
inductive Chan where
  | zone (z : Zone)
  | rr
  deriving DecidableEq, Repr

/-- One value for each platen. -/
structure PerPlaten (α : Type) where
  p0 : α
  p1 : α
  p2 : α
  deriving DecidableEq, Repr

/-- One value for each head. -/
structure PerHead (α : Type) where
  h0 : α
  h1 : α
  h2 : α
  h3 : α
  deriving DecidableEq, Repr

/-- One value for each feed. -/
structure PerFeed (α : Type) where
  a : α
  b : α
  c : α
  deriving DecidableEq, Repr

/-- One value for each zone of a head. -/
structure PerZone (α : Type) where
  z0 : α
  z1 : α
  z2 : α
  z3 : α
  deriving DecidableEq, Repr

/-- One value for each channel of a head. -/
structure PerChan (α : Type) where
  zones : PerZone α
  rr : α
  deriving DecidableEq, Repr

/-- The same value for every platen. -/
def PerPlaten.all {α : Type} (x : α) : PerPlaten α := ⟨x, x, x⟩

/-- The same value for every head. -/
def PerHead.all {α : Type} (x : α) : PerHead α := ⟨x, x, x, x⟩

/-- The same value for every feed. -/
def PerFeed.all {α : Type} (x : α) : PerFeed α := ⟨x, x, x⟩

/-- The same value for every zone. -/
def PerZone.all {α : Type} (x : α) : PerZone α := ⟨x, x, x, x⟩

/-- The same value for every channel of a head. -/
def PerChan.all {α : Type} (x : α) : PerChan α := ⟨PerZone.all x, x⟩

end Sys2Proof
end

