-- ==== Sys2Proof/Syntax.lean ====
section
/-! DEFINITION. The commands of the part: one constructor for each row of spec/opcode_table.json. -/

namespace Sys2Proof

/-- The levels of the part's input lines that a full reset reads: LRATE (R166), ESTOP (R152), CDONE and CPOS1:0 (R142),
IDX0-IDX2 (R48) and EPT0-EPT2 (R27). True is high, and for ESTOP true is active. -/
structure PinLevels where
  lrate : Bool
  estop : Bool
  cdone : Bool
  cpos : Fin 4
  index : PerPlaten Bool
  endpoint : PerPlaten Bool
  deriving DecidableEq, Repr

/-- One character as it stands on LRX after its start bit: eight data bits, the parity bit and the stop bit (R166). -/
structure LinkChar where
  data : Byte
  parity : Bool
  stop : Bool
  deriving DecidableEq, Repr

/-- The commands: what can happen at the part, each whole and indivisible.

A command that comes from outside the part's own timers carries `dt`, the microseconds since the step before it
(notes/assumptions/1.md). A timed event carries no time: it comes at the moment its timer or schedule holds. -/
inductive Instr where
  /-- POWER_ON_RESET (R180). `written`: how many bytes a save it cuts short had written (R184). -/
  | powerOnReset (pins : PinLevels) (written : Nat)
  /-- RESET_PIN (R180). -/
  | resetPin (pins : PinLevels) (written : Nat)
  /-- SETTINGS_LOAD (R181). `nack`: the first byte of the read that the EEPROM does not acknowledge, if any. -/
  | settingsLoad (dt : Nat) (nack : Option Nat)
  /-- SAVE_DONE (R183). -/
  | saveDone (dt : Nat)
  /-- SAVE_FAILED (R183). `written`: how many bytes were written before the byte that is not acknowledged. -/
  | saveFailed (dt : Nat) (written : Nat)
  /-- BREAK (R167): LRX returns high after `lowBits` bit times low. -/
  | lineBreak (dt : Nat) (lowBits : Nat)
  /-- STRAY_BYTE (R167). -/
  | strayByte (dt : Nat) (ch : LinkChar)
  /-- IDLE_LIMIT (R167). -/
  | idleLimit
  /-- FRAME_COMPLETE (R168). -/
  | frameComplete (dt : Nat) (ch : LinkChar)
  /-- RESPONSE_START (R171). -/
  | responseStart (dt : Nat)
  /-- RESPONSE_END (R170). -/
  | responseEnd (dt : Nat)
  /-- UNKNOWN (R173). -/
  | unknown (dt : Nat)
  /-- STATUS (R177). -/
  | status (dt : Nat)
  /-- IDENTIFY (R178). -/
  | identify (dt : Nat)
  /-- ATTN-ACK (R175). -/
  | attnAck (dt : Nat)
  /-- ATTN-MASK (R176). -/
  | attnMask (dt : Nat)
  /-- RESTART (R179). -/
  | restart (dt : Nat)
  /-- PASS-CREATE (R11). -/
  | passCreate (dt : Nat)
  /-- PASS-LOOKUP (R13). -/
  | passLookup (dt : Nat)
  /-- PASS-LIST (R14). -/
  | passList (dt : Nat)
  /-- PASS-BIND (R15). -/
  | passBind (dt : Nat)
  /-- PASS-AMEND (R17). -/
  | passAmend (dt : Nat)
  /-- PASS-ABORT (R22). -/
  | passAbort (dt : Nat)
  /-- PASS-RETIRE (R24). -/
  | passRetire (dt : Nat)
  /-- PASS-HOLD (R162). -/
  | passHold (dt : Nat)
  /-- PASS-RESUME (R163). -/
  | passResume (dt : Nat)
  /-- TRIP-CLEAR (R155). -/
  | tripClear (dt : Nat)
  /-- ITEM-REGISTER (R99). -/
  | itemRegister (dt : Nat)
  /-- ITEM-LOOKUP (R100). -/
  | itemLookup (dt : Nat)
  /-- ITEM-LIST (R100). -/
  | itemList (dt : Nat)
  /-- ITEM-MOUNT (R101). -/
  | itemMount (dt : Nat)
  /-- ITEM-DISMOUNT (R103). -/
  | itemDismount (dt : Nat)
  /-- ITEM-ADJUST (R104). -/
  | itemAdjust (dt : Nat)
  /-- ITEM-RETIRE (R105). -/
  | itemRetire (dt : Nat)
  /-- HEAD-WRITE (R84). -/
  | headWrite (dt : Nat)
  /-- HEAD-READ (R86). -/
  | headRead (dt : Nat)
  /-- BLEND-WRITE (R109). -/
  | blendWrite (dt : Nat)
  /-- FEED-WRITE (R110). -/
  | feedWrite (dt : Nat)
  /-- PHASE-WRITE (R118). -/
  | phaseWrite (dt : Nat)
  /-- PHASE-LOAD (R119). -/
  | phaseLoad (dt : Nat)
  /-- SLURRY-READ (R125). -/
  | slurryRead (dt : Nat)
  /-- PROFILE-WRITE (R139). -/
  | profileWrite (dt : Nat)
  /-- PLATEN-WRITE (R140). -/
  | platenWrite (dt : Nat)
  /-- CONDITIONING-READ (R141). -/
  | conditioningRead (dt : Nat)
  /-- CAROUSEL-INDEX (R144). -/
  | carouselIndex (dt : Nat)
  /-- CAROUSEL-SYNC (R150). `code`: the position code on CPOS1:0 when the request is taken. -/
  | carouselSync (dt : Nat) (code : Fin 4)
  /-- SETTINGS-SAVE (R183). -/
  | settingsSave (dt : Nat)
  /-- TRIP_EVENT (R153): ESTOP becomes active. -/
  | tripEvent (dt : Nat)
  /-- ESTOP_RELEASE (R154): ESTOP becomes released. -/
  | estopRelease (dt : Nat)
  /-- POLISH_TIME_ADVANCE (R36), at a head. -/
  | polishTimeAdvance (h : Head)
  /-- STEP_TIMER_EXPIRY (R37), at a head. -/
  | stepTimerExpiry (h : Head)
  /-- ENDPOINT_EDGE (R42): a platen's endpoint input goes high. -/
  | endpointEdge (dt : Nat) (p : Platen)
  /-- PLATEN_INDEX_EDGE (R49): a platen's index input goes high. -/
  | platenIndexEdge (dt : Nat) (p : Platen)
  /-- STALL_TIMER_EXPIRY (R53). -/
  | stallTimerExpiry (p : Platen)
  /-- PRESSURE_SAMPLE (R70): the converter's code for one channel. -/
  | pressureSample (h : Head) (c : Chan) (code : BitVec 12)
  /-- VALVE_PERIOD_START (R77). -/
  | valvePeriodStart (h : Head) (c : Chan)
  /-- DELAYED_PULSE_START (R78). -/
  | delayedPulseStart (h : Head) (c : Chan)
  /-- PULSE_END (R79). -/
  | pulseEnd (h : Head) (c : Chan)
  /-- VENT_OPEN (R75). -/
  | ventOpen (h : Head) (c : Chan)
  /-- STROKE_SLOT (R112). -/
  | strokeSlot (f : Feed)
  /-- PUMP_PULSE_END (R115). -/
  | pumpPulseEnd (dt : Nat) (f : Feed)
  /-- MINUTE_TICK (R91). -/
  | minuteTick
  /-- DWELL_EXPIRY (R128). -/
  | dwellExpiry (p : Platen)
  /-- CAROUSEL_INDEX_COMPLETION (R146): CDONE goes high; `code`: the position code then. -/
  | carouselIndexCompletion (dt : Nat) (code : Fin 4)
  /-- INDEX_TIMER_EXPIRY (R148). -/
  | indexTimerExpiry
  /-- BYTE_ARRIVES_RECEIVING (R167). -/
  | byteArrivesReceiving (dt : Nat) (ch : LinkChar)
  /-- INDEX_FALLING_EDGE (R49). -/
  | indexFallingEdge (dt : Nat) (p : Platen)
  /-- CDONE_FALLING_EDGE (R146). -/
  | cdoneFallingEdge (dt : Nat)
  /-- ENDPOINT_FALLING_EDGE (R27). -/
  | endpointFallingEdge (dt : Nat) (p : Platen)
  deriving DecidableEq, Repr

end Sys2Proof
end

