-- ==== Sys2Proof/Decode.lean ====
section
/-! DEFINITION. The table gives no row bits, so no word spells a command. -/

namespace Sys2Proof

/-- The command a word of `nbits` bits spells by the table's bits: none, since no row of spec/opcode_table.json gives bits
(notes/assumptions/25.md). -/
def decodeTableWord (nbits w : Nat) : Option Instr :=
  match nbits, w with
  | _, _ => none

end Sys2Proof
end

