-- ==== Sys2Proof/Config.lean ====
section
/-! DEFINITION. What the manual leaves open: uninterpreted constants. Nothing in Lean gives any of them a value. -/

namespace Sys2Proof.Config

/-- The level of an arm's direction line while the arm is PARKED (true for INWARD). R128 gives the line only while the arm
is SWEEPING. Free value (notes/assumptions/16.md). -/
opaque parkedDirectionLine : Platen → Bool

/-- The pad factor read when no live PAD record holds the captured id. R62 says the record is always at hand, so no run
reads it. Free value (notes/assumptions/18.md). -/
opaque missingPadFactor : Word32 → Nat

end Sys2Proof.Config
end

