-- ==== Sys2Proof/Machine/State.lean ====
section
/-! DEFINITION. The state of the part, block by block, as plain data, and the state right after a full reset. -/

namespace Sys2Proof.Machine

/-! ### Wafer passes (01_wafer_pass_records.md) -/

/-- Pass states (R2). -/
inductive PassState where
  | staged | waiting | polishing | held | ended
  deriving DecidableEq, Repr

/-- What ended a step (R7). -/
inductive StepEnd where
  | complete | timeout | aborted
  deriving DecidableEq, Repr

/-- What ended a pass (R2, R9). -/
inductive PassEnd where
  | complete | stepTimeout | aborted
  deriving DecidableEq, Repr

/-- The hold causes (R156). -/
inductive HoldCause where
  | host | trip | stall | sensor | supply
  deriving DecidableEq, Repr

/-- A hold-cause set: each cause at most once, in no order (R156). -/
structure HoldSet where
  host : Bool
  trip : Bool
  stall : Bool
  sensor : Bool
  supply : Bool
  deriving DecidableEq, Repr

/-- The empty hold-cause set. -/
def HoldSet.empty : HoldSet := ⟨false, false, false, false, false⟩

/-- The start-block reasons (R5, R30). -/
inductive StartBlock where
  | trip | carousel | fault | pad | ring | disk | conditioning | lot
  deriving DecidableEq, Repr

/-- Endpoint modes (R6). -/
inductive EndpointMode where
  | removal | time | external
  deriving DecidableEq, Repr

/-- The conditioning of a step (R6). With NONE the record carries profile 0 and sweep count 0, with IN_SITU sweep count 0. -/
inductive Conditioning where
  | none
  | inSitu (profile : Fin 4)
  | exSitu (profile : Fin 4) (sweeps : Nat)
  deriving DecidableEq, Repr

/-- What a step program says of one zone (R6). -/
structure ZoneProgram where
  base : Nat
  target : Nat
  path : Nat
  deriving DecidableEq, Repr

/-- A step program (R6). -/
structure StepProgram where
  platen : Platen
  mode : EndpointMode
  timeLimit : Nat
  preston : Nat
  blendRow : Fin 8
  conditioning : Conditioning
  ringPressure : Nat
  settle : Nat
  gain : Nat
  slew : Nat
  zones : PerZone ZoneProgram
  deriving DecidableEq, Repr

/-- A step result (R7). -/
structure StepResult where
  index : Nat
  cause : StepEnd
  revolutions : Nat
  polishTime : Nat
  removal : PerZone Nat
  pad : Word32
  lotA : Option Word32
  lotB : Option Word32
  ring : Word32
  supplyShort : Bool
  conditioningIncomplete : Bool
  deriving DecidableEq, Repr

/-- Live progress (R8) with the step timer of R27: while the pass is POLISHING the remainder is `remainder` plus the time
since `timerFrom`; while it is HELD it is `remainder`. -/
structure LiveProgress where
  acc : PerZone Nat
  complete : PerZone Bool
  revolutions : Nat
  polishTime : Nat
  remainder : Nat
  timerFrom : Nat
  settleLeft : Nat
  firstRevolution : Bool
  pad : Word32
  lotA : Option Word32
  lotB : Option Word32
  ring : Word32
  supplyShort : Bool
  conditioningIncomplete : Bool
  deriving DecidableEq, Repr

/-- A pass record (R2). Its slot is its index in the table; its step count n is the length of `steps`. -/
structure Pass where
  tag : Word32
  state : PassState
  head : Option Head
  endCause : Option PassEnd
  holds : HoldSet
  startBlock : Option StartBlock
  current : Nat
  steps : List StepProgram
  results : List StepResult
  live : Option LiveProgress
  deriving DecidableEq, Repr

/-- A slot of the Pass Table (R1). -/
abbrev PassSlot := Fin 24

/-! ### Removal integration (03_removal_integration.md) -/

/-- What the RI holds for a platen (R48). -/
structure Rotation where
  reference : Option Word32
  lastPeriod : Option Word32
  stallTimer : Option Nat
  stall : Bool
  level : Bool
  deriving DecidableEq, Repr

/-- The sample window of a zone channel and its last average (R48). -/
structure Window where
  sum : Nat
  count : Nat
  lastAverage : Option Nat
  deriving DecidableEq, Repr

/-! ### Zone pressure control (04_zone_pressure_control.md) -/

/-- Channel modes (R68). -/
inductive ChannelMode where
  | vent | drive
  deriving DecidableEq, Repr

/-- A valve: open or closed, with the moment it last closed; `none` is "closed long ago" (R68). -/
structure Valve where
  isOpen : Bool
  lastClosed : Option Nat
  deriving DecidableEq, Repr

/-- The two valves of a channel. -/
inductive ValveKind where
  | fill | vent
  deriving DecidableEq, Repr

/-- The valve pulse of a period: its valve, the width decided at the period start, its start and its end moment
(R68, R77, R78). -/
structure Pulse where
  valve : ValveKind
  width : Nat
  start : Nat
  stop : Nat
  deriving DecidableEq, Repr

/-- A pressure channel (R68), with the moments of its next sample (R70) and its next valve period start (R77), which is the
end of the present period. -/
structure Channel where
  mode : ChannelMode
  setpoint : Option Nat
  latest : Option Nat
  fault : Bool
  runCount : Nat
  fill : Valve
  vent : Valve
  pulse : Option Pulse
  nextSample : Nat
  nextPeriod : Nat
  deriving DecidableEq, Repr

/-- Calibration and limit settings of a channel (R69). -/
structure ChannelSettings where
  wmin : Nat
  wmax : Nat
  span : Nat
  zero : Nat
  deriving DecidableEq, Repr

/-- Drive settings of a head (R69). -/
structure DriveSettings where
  deadband : Nat
  kp : Nat
  pulseMax : Nat
  deadTime : Nat
  deriving DecidableEq, Repr

/-- The settings HEAD-WRITE replaces (R84). -/
structure HeadSettings where
  drive : DriveSettings
  chans : PerChan ChannelSettings
  deriving DecidableEq, Repr

/-! ### Items (05_consumable_item_records.md) -/

/-- Item kinds (R88). -/
inductive ItemKind where
  | pad | disk | lot | ring
  deriving DecidableEq, Repr

/-- Positions (R89). A feed position is A or B, since feed C takes no item. -/
inductive Position where
  | platen (p : Platen)
  | feedA
  | feedB
  | head (h : Head)
  deriving DecidableEq, Repr

/-- The condition flags of an item (R88). -/
structure ItemFlags where
  worn : Bool
  expired : Bool
  empty : Bool
  deriving DecidableEq, Repr

/-- An item record (R88); a field its kind does not have holds 0. Its slot is its index in the table. -/
structure Item where
  id : Word32
  kind : ItemKind
  position : Option Position
  usage : Nat
  limit : Nat
  flags : ItemFlags
  f0 : Nat
  slope : Nat
  volume : Nat
  age : Nat
  potLife : Nat
  deriving DecidableEq, Repr

/-- A slot of the Item Table (R87). -/
abbrev ItemSlot := Fin 16

/-! ### Slurry delivery (06_slurry_delivery.md) -/

/-- A blend row (R108). -/
structure BlendRow where
  flow : Nat
  partA : Nat
  partB : Nat
  partC : Nat
  deriving DecidableEq, Repr

/-- A phase table: its entries in order, `none` for IDLE; the cycle length is the count of entries (R107). -/
abbrev PhaseTable := List (Option Platen)

/-- What the SDU holds for a feed (R107), with the stroke pulse on its pump (R115) and the moment of its next slot (R112). -/
structure FeedUnit where
  volume : Nat
  active : PhaseTable
  pointer : Nat
  diverter : Platen
  pulse : Bool
  nextSlot : Nat
  deriving DecidableEq, Repr

/-- What the SDU holds for a platen (R107). -/
structure PlatenSupply where
  dispensing : Option (Fin 8)
  demand : PerFeed Nat
  strokes : PerFeed Nat
  demanded : Nat
  granted : Nat
  lastRatio : Nat
  shortRun : Nat
  short : Bool
  deriving DecidableEq, Repr

/-! ### Conditioning (07_pad_conditioning.md) -/

/-- The service of an arm (R126). -/
inductive Service where
  | none
  | inSitu (profile : Fin 4)
  | exSitu (profile : Fin 4)
  deriving DecidableEq, Repr

/-- The direction of a sweep (R126). -/
inductive Direction where
  | outward | inward
  deriving DecidableEq, Repr

/-- A conditioning arm (R126). The conditioning-busy flag is set exactly while `exSitu` is above 0. `advances` counts the
pulses given on the segment-advance line (R128; notes/assumptions/16.md). -/
structure Arm where
  sweeping : Bool
  service : Service
  segment : Nat
  direction : Direction
  dwell : Option Nat
  exSitu : Nat
  glaze : Nat
  advances : Nat
  deriving DecidableEq, Repr

/-- Glaze settings of a platen (R126). -/
structure GlazeSettings where
  rate : Nat
  floor : Nat
  deriving DecidableEq, Repr

/-- A segment of a sweep profile: dwell in ms, downforce in 0.1 N (R127). -/
structure Segment where
  dwell : Nat
  force : Nat
  deriving DecidableEq, Repr

/-- A sweep profile: its segments, centre first (R127). -/
abbrev Profile := List Segment

/-! ### Carousel (08_carousel_tracking.md) -/

/-- Carousel states (R142). -/
inductive CarouselState where
  | stopped | indexing | lost
  deriving DecidableEq, Repr

/-- What the CT holds (R142). -/
structure Carousel where
  state : CarouselState
  k : Fin 4
  drive : Bool
  timer : Option Nat
  cdone : Bool
  deriving DecidableEq, Repr

/-! ### Link (10_station_link.md) -/

/-- The receiver: hunting, or receiving a frame whose bytes so far are listed, idle since a moment (R167). -/
inductive Receiver where
  | hunting
  | receiving (bytes : List Byte) (idleFrom : Nat)
  deriving DecidableEq, Repr

/-- A good request as a buffer holds it (R168, R170). -/
structure Request where
  tag : Byte
  code : Byte
  payload : List Byte
  deriving DecidableEq, Repr

/-- Status codes (R173). -/
inductive Status where
  | ok | notReady | unknown | badLength | badParam | notFound | tableFull | duplicate | wrongState | busy | tooLate | tripped
  deriving DecidableEq, Repr

/-- A response as composed (R171 stage 3, R172). -/
structure Response where
  tag : Byte
  status : Status
  payload : List Byte
  deriving DecidableEq, Repr

/-- An occupied receive buffer (R170). A FREE buffer is one the list of buffers does not hold. -/
inductive Buffer where
  | held (r : Request)
  | taken (r : Response)
  | sending (r : Response)
  deriving DecidableEq, Repr

/-- A set of attention causes, bit by bit as R174 numbers them. -/
abbrev CauseSet := BitVec 9

/-- The nine attention causes (R174). -/
inductive Cause where
  | stepEnd | passEnd | trip | fault | item | supply | carousel | link | settings
  deriving DecidableEq, Repr

/-! ### Settings Loader (11_start_up_and_stored_settings.md) -/

/-- Start-up states (R180). -/
inductive StartUp where
  | loading | ready
  deriving DecidableEq, Repr

/-- Save states (R180); WRITING holds the image composed when the save was taken (R183). -/
inductive SaveState where
  | none
  | writing (image : List Byte)
  | done
  | failed
  deriving DecidableEq, Repr

/-! ### The whole part -/

/-- The state of the part. -/
structure State where
  clock : Nat
  passes : Vector (Option Pass) 24
  endpointLevel : PerPlaten Bool
  rotation : PerPlaten Rotation
  windows : PerHead (PerZone Window)
  channels : PerHead (PerChan Channel)
  headSettings : PerHead HeadSettings
  items : Vector (Option Item) 16
  nextMinute : Nat
  rows : Vector BlendRow 8
  feeds : PerFeed FeedUnit
  staged : PhaseTable
  load : Option (PerFeed Bool)
  supply : PerPlaten PlatenSupply
  arms : PerPlaten Arm
  glazeSettings : PerPlaten GlazeSettings
  profiles : Vector Profile 4
  carousel : Carousel
  tripLatch : Bool
  estop : Bool
  receiver : Receiver
  buffers : List Buffer
  corrupt : Bool
  overrun : Bool
  fastLink : Bool
  attnPending : CauseSet
  attnMask : CauseSet
  startUp : StartUp
  defaulted : Bool
  save : SaveState
  eeprom : List Host.Cell
  pending : List Instr
  deriving DecidableEq, Repr

/-- Why a step could stop with a fault: no command of this part does, so there is no constructor. Every event of the
opcode table has an effect the spec gives (safe: no run is cut short). -/
inductive Fault where
  deriving DecidableEq, Repr

/-- Why a command could be refused by the model. A request the part itself refuses is no refusal of the model: it is
answered with a status (R173). -/
inductive Refusal where
  /-- The interface's own: raised by an arm of exec whose command has no meaning yet. No arm raises it. Safe. -/
  | notModelled (mnemonic : String)
  deriving DecidableEq, Repr

/-! ### Reset values -/

/-- The default channel settings (R69). -/
def ChannelSettings.default : ChannelSettings := ⟨50, 480, 1000, 0⟩

/-- The default drive settings of a head (R69). -/
def DriveSettings.default : DriveSettings := ⟨2, 200, 15000, 2000⟩

/-- The default settings of a head (R69). -/
def HeadSettings.default : HeadSettings := ⟨DriveSettings.default, PerChan.all ChannelSettings.default⟩

/-- The default blend row (R107). -/
def BlendRow.default : BlendRow := ⟨0, 0, 0, 0⟩

/-- The default phase table (R107). -/
def defaultPhases : PhaseTable := [some .p0, some .p1, some .p2]

/-- The default stroke volume, µL (R107). -/
def defaultVolume : Nat := 100

/-- The default sweep profile (R127). -/
def defaultProfile : Profile := [⟨1000, 0⟩]

/-- The default glaze settings (R126). -/
def GlazeSettings.default : GlazeSettings := ⟨0, 4096⟩

/-- All nine causes (R174). -/
def CauseSet.all : CauseSet := 0x1FF#9

/-- A valve closed long ago (R68). -/
def Valve.rested : Valve := ⟨false, none⟩

/-- A channel after a full reset (R68, R70, R77). -/
def Channel.reset : Channel :=
  { mode := .vent, setpoint := none, latest := none, fault := false, runCount := 0, fill := Valve.rested,
    vent := Valve.rested, pulse := none, nextSample := 2000, nextPeriod := 20000 }

/-- A platen's rotation state after a full reset (R48). -/
def Rotation.reset (level : Bool) : Rotation :=
  { reference := none, lastPeriod := none, stallTimer := none, stall := false, level }

/-- A feed after a full reset, its first slot at the given moment (R107, R112). R107 has no row for the pulse: that a reset
leaves it off is the model's choice (notes/assumptions/15.md). -/
def FeedUnit.reset (firstSlot : Nat) : FeedUnit :=
  { volume := defaultVolume, active := defaultPhases, pointer := 0, diverter := .p0, pulse := false, nextSlot := firstSlot }

/-- A platen's supply state after a full reset (R107). -/
def PlatenSupply.reset : PlatenSupply :=
  { dispensing := none, demand := PerFeed.all 0, strokes := PerFeed.all 0, demanded := 0, granted := 0,
    lastRatio := 4096, shortRun := 0, short := false }

/-- An arm after a full reset (R126). -/
def Arm.reset : Arm :=
  { sweeping := false, service := .none, segment := 0, direction := .outward, dwell := none, exSitu := 0, glaze := 0,
    advances := 0 }

/-- The part at the end of a full reset (R180), with the levels its inputs then have; the EEPROM keeps its bytes (R184), and
the waiting commands are no part of the part. -/
def State.afterReset (pins : PinLevels) (eeprom : List Host.Cell) (pending : List Instr) : State :=
  { clock := 0
    passes := Vector.replicate 24 none
    endpointLevel := pins.endpoint
    rotation := ⟨Rotation.reset pins.index.p0, Rotation.reset pins.index.p1, Rotation.reset pins.index.p2⟩
    windows := PerHead.all (PerZone.all ⟨0, 0, none⟩)
    channels := PerHead.all (PerChan.all Channel.reset)
    headSettings := PerHead.all HeadSettings.default
    items := Vector.replicate 16 none
    nextMinute := 60000000
    rows := Vector.replicate 8 BlendRow.default
    feeds := ⟨FeedUnit.reset 5000, FeedUnit.reset 6250, FeedUnit.reset 7500⟩
    staged := defaultPhases
    load := none
    supply := PerPlaten.all PlatenSupply.reset
    arms := PerPlaten.all Arm.reset
    glazeSettings := PerPlaten.all GlazeSettings.default
    profiles := Vector.replicate 4 defaultProfile
    carousel := { state := .stopped, k := pins.cpos, drive := false, timer := none, cdone := pins.cdone }
    tripLatch := pins.estop
    estop := pins.estop
    receiver := .hunting
    buffers := []
    corrupt := false
    overrun := false
    fastLink := pins.lrate
    attnPending := 0
    attnMask := CauseSet.all
    startUp := .loading
    defaulted := false
    save := .none
    eeprom
    pending }

/-- The input levels State.reset takes: every input low, ESTOP released, position code 0. DESIGN CHOICE
(notes/assumptions/2.md): the levels are the machine's, and the reset commands carry any others. -/
def PinLevels.rest : PinLevels :=
  { lrate := false, estop := false, cdone := false, cpos := 0, index := PerPlaten.all false,
    endpoint := PerPlaten.all false }

/-- The part right after a power-on reset, with a blank EEPROM (R182; notes/assumptions/3.md). -/
def State.reset : State := State.afterReset PinLevels.rest [] []

end Sys2Proof.Machine
end

