-- ==== Sys2Proof/Machine/Banks.lean ====
section
/-! DEFINITION. Reading and writing one entry of a table: the tables of Word.lean, and the slot tables. -/

namespace Sys2Proof

def PerPlaten.get {α : Type} (t : PerPlaten α) : Platen → α
  | .p0 => t.p0
  | .p1 => t.p1
  | .p2 => t.p2

def PerPlaten.set {α : Type} (t : PerPlaten α) (p : Platen) (x : α) : PerPlaten α :=
  match p with
  | .p0 => { t with p0 := x }
  | .p1 => { t with p1 := x }
  | .p2 => { t with p2 := x }

def PerPlaten.map {α β : Type} (f : α → β) (t : PerPlaten α) : PerPlaten β := ⟨f t.p0, f t.p1, f t.p2⟩

def PerHead.get {α : Type} (t : PerHead α) : Head → α
  | .h0 => t.h0
  | .h1 => t.h1
  | .h2 => t.h2
  | .h3 => t.h3

def PerHead.set {α : Type} (t : PerHead α) (h : Head) (x : α) : PerHead α :=
  match h with
  | .h0 => { t with h0 := x }
  | .h1 => { t with h1 := x }
  | .h2 => { t with h2 := x }
  | .h3 => { t with h3 := x }

def PerFeed.get {α : Type} (t : PerFeed α) : Feed → α
  | .a => t.a
  | .b => t.b
  | .c => t.c

def PerFeed.set {α : Type} (t : PerFeed α) (f : Feed) (x : α) : PerFeed α :=
  match f with
  | .a => { t with a := x }
  | .b => { t with b := x }
  | .c => { t with c := x }

def PerZone.get {α : Type} (t : PerZone α) : Zone → α
  | .z0 => t.z0
  | .z1 => t.z1
  | .z2 => t.z2
  | .z3 => t.z3

def PerZone.set {α : Type} (t : PerZone α) (z : Zone) (x : α) : PerZone α :=
  match z with
  | .z0 => { t with z0 := x }
  | .z1 => { t with z1 := x }
  | .z2 => { t with z2 := x }
  | .z3 => { t with z3 := x }

/-- The table whose entry for each zone is given by a rule. -/
def PerZone.tabulate {α : Type} (f : Zone → α) : PerZone α := ⟨f .z0, f .z1, f .z2, f .z3⟩

def PerChan.get {α : Type} (t : PerChan α) : Chan → α
  | .zone z => t.zones.get z
  | .rr => t.rr

def PerChan.set {α : Type} (t : PerChan α) (c : Chan) (x : α) : PerChan α :=
  match c with
  | .zone z => { t with zones := t.zones.set z x }
  | .rr => { t with rr := x }

/-- The table whose entry for each channel is given by a rule. -/
def PerChan.tabulate {α : Type} (f : Chan → α) : PerChan α := ⟨PerZone.tabulate fun z => f (.zone z), f .rr⟩

def PerZone.toList {α : Type} (t : PerZone α) : List α := [t.z0, t.z1, t.z2, t.z3]

def PerChan.toList {α : Type} (t : PerChan α) : List α := t.zones.toList ++ [t.rr]

/-- The entry of a slot table at a slot. -/
def slotAt {α : Type} {n : Nat} (t : Vector α n) (i : Fin n) : α := t[i.val]

/-- A slot table with one slot's entry replaced. -/
def putAt {α : Type} {n : Nat} (t : Vector α n) (i : Fin n) (x : α) : Vector α n := t.set i.val x

/-- The platens in the order P0, P1, P2. -/
def platens : List Platen := [.p0, .p1, .p2]

/-- The heads in order. -/
def heads : List Head := [.h0, .h1, .h2, .h3]

/-- The zones in order. -/
def zones : List Zone := [.z0, .z1, .z2, .z3]

/-- The channels of a head in the order Z0, Z1, Z2, Z3, RR (R84). -/
def chans : List Chan := [.zone .z0, .zone .z1, .zone .z2, .zone .z3, .rr]

/-- The pass slots in ascending order. -/
def passSlots : List Machine.PassSlot :=
  [0, 1, 2, 3, 4, 5, 6, 7, 8, 9, 10, 11, 12, 13, 14, 15, 16, 17, 18, 19, 20, 21, 22, 23]

/-- The item slots in ascending order. -/
def itemSlots : List Machine.ItemSlot := [0, 1, 2, 3, 4, 5, 6, 7, 8, 9, 10, 11, 12, 13, 14, 15]

/-- A platen's number, which is its code on the link and on the diverter lines (R25, R115). -/
def Platen.number : Platen → Nat
  | .p0 => 0
  | .p1 => 1
  | .p2 => 2

/-- A head's number (0.2). -/
def Head.number : Head → Nat
  | .h0 => 0
  | .h1 => 1
  | .h2 => 2
  | .h3 => 3

/-- The platen of a number. -/
def Platen.ofNumber : Nat → Option Platen
  | 0 => some .p0
  | 1 => some .p1
  | 2 => some .p2
  | _ => none

/-- The head of a number. -/
def Head.ofNumber : Nat → Option Head
  | 0 => some .h0
  | 1 => some .h1
  | 2 => some .h2
  | 3 => some .h3
  | _ => none

/-- The feed of a number (R110). -/
def Feed.ofNumber : Nat → Option Feed
  | 0 => some .a
  | 1 => some .b
  | 2 => some .c
  | _ => none

end Sys2Proof
end

