-- ==== Sys2Proof/Machine/Flags.lean ====
section
/-! DEFINITION. Sets and flags: attention causes (R174), hold causes (R156), the condition flags of items (R90 to R93, R99),
and their codings on the link. -/

namespace Sys2Proof.Machine

/-- The bit of an attention cause (R174). -/
def Cause.bit : Cause → CauseSet
  | .stepEnd => 1#9
  | .passEnd => 2#9
  | .trip => 4#9
  | .fault => 8#9
  | .item => 16#9
  | .supply => 32#9
  | .carousel => 64#9
  | .link => 128#9
  | .settings => 256#9

/-- Whether a cause is in a set. -/
def CauseSet.has (s : CauseSet) (c : Cause) : Bool := s &&& c.bit != 0#9

/-- A set with a cause added (R174: a cause already pending is kept as it is). -/
def CauseSet.add (s : CauseSet) (c : Cause) : CauseSet := s ||| c.bit

/-- A set without the causes of another (R175). -/
def CauseSet.remove (s t : CauseSet) : CauseSet := s &&& ~~~t

/-- A hold-cause set with a cause added (R156: a cause already in the set is kept as it is). -/
def HoldSet.add (s : HoldSet) : HoldCause → HoldSet
  | .host => { s with host := true }
  | .trip => { s with trip := true }
  | .stall => { s with stall := true }
  | .sensor => { s with sensor := true }
  | .supply => { s with supply := true }

/-- Whether a cause is in a hold-cause set. -/
def HoldSet.has (s : HoldSet) : HoldCause → Bool
  | .host => s.host
  | .trip => s.trip
  | .stall => s.stall
  | .sensor => s.sensor
  | .supply => s.supply

/-- A bit of a byte. -/
def flagBit (b : Bool) (place : Nat) : Nat := if b then 2 ^ place else 0

/-- The hold-cause set as byte 8 of the lookup head (R26). -/
def HoldSet.code (s : HoldSet) : Nat :=
  flagBit s.host 0 + flagBit s.trip 1 + flagBit s.stall 2 + flagBit s.sensor 3 + flagBit s.supply 4

/-- No condition flag. -/
def ItemFlags.none : ItemFlags := ⟨false, false, false⟩

/-- Whether any condition flag is set. -/
def ItemFlags.any (f : ItemFlags) : Bool := f.worn || f.expired || f.empty

/-- The flags as R106 codes them. -/
def ItemFlags.code (f : ItemFlags) : Nat := flagBit f.worn 0 + flagBit f.expired 1 + flagBit f.empty 2

/-- Whether an item's own values make it WORN (R90, R99). -/
def Item.isWorn (i : Item) : Bool := decide (i.kind ≠ .lot ∧ 0 < i.limit ∧ i.limit ≤ i.usage)

/-- Whether a lot's own values make it EXPIRED (R91, R99). -/
def Item.isExpired (i : Item) : Bool := decide (i.kind = .lot ∧ 0 < i.potLife ∧ i.potLife ≤ i.age)

/-- Whether a lot's own values make it EMPTY (R92, R99). -/
def Item.isEmpty (i : Item) : Bool := decide (i.kind = .lot ∧ i.volume = 0)

/-- The flags worked out from the record's values, as at registration and at an adjust (R99, R104). -/
def Item.workedOutFlags (i : Item) : ItemFlags := ⟨i.isWorn, i.isExpired, i.isEmpty⟩

/-- How many flags a change of flags newly sets: each raises ITEM (R93). -/
def ItemFlags.newlySet (old new : ItemFlags) : Bool :=
  (new.worn && !old.worn) || (new.expired && !old.expired) || (new.empty && !old.empty)

/-- Whether a change of flags removes at least one (R104). -/
def ItemFlags.removes (old new : ItemFlags) : Bool :=
  (old.worn && !new.worn) || (old.expired && !new.expired) || (old.empty && !new.empty)

/-- Status codes as one byte (R173). -/
def Status.code : Status → Nat
  | .ok => 0
  | .notReady => 1
  | .unknown => 2
  | .badLength => 3
  | .badParam => 4
  | .notFound => 5
  | .tableFull => 6
  | .duplicate => 7
  | .wrongState => 8
  | .busy => 9
  | .tooLate => 10
  | .tripped => 11

end Sys2Proof.Machine
end

