-- ==== Sys2Proof/Machine/Operands.lean ====
section
/-! DEFINITION. Operand forms: byte order, the fields of payloads and of the settings image, and the records they spell. -/

namespace Sys2Proof.Machine

/-! ### Byte order (00_scope.md 0.5: least significant byte first) -/

/-- The value of bytes, least significant first. -/
def leValue : List Byte → Nat
  | [] => 0
  | b :: bs => b.toNat + 256 * leValue bs

/-- A value as `n` bytes, least significant first. -/
def leBytes : Nat → Nat → List Byte
  | 0, _ => []
  | n + 1, v => BitVec.ofNat 8 v :: leBytes n (v / 256)

/-- The field of `n` bytes at an offset. -/
def field (bs : List Byte) (offset n : Nat) : Nat := leValue ((bs.drop offset).take n)

/-- The 32-bit field at an offset: a tag or an item id. -/
def wordField (bs : List Byte) (offset : Nat) : Word32 := BitVec.ofNat 32 (field bs offset 4)

/-- A number as an index below `n`, when it is one. -/
def indexBelow (n : Nat) (v : Nat) : Option (Fin n) := if h : v < n then some ⟨v, h⟩ else none

/-- Limited to a range (0.5): below it becomes its low end, above it its high end. -/
def limited (lo hi x : Nat) : Nat := if x < lo then lo else if hi < x then hi else x

/-- Whether a number lies in a range, both ends included. -/
def within (lo hi x : Nat) : Bool := decide (lo ≤ x ∧ x ≤ hi)

/-- Whether a bit of a mask byte is set. -/
def maskBit (mask bit : Nat) : Bool := mask / 2 ^ bit % 2 == 1

/-- Bytes of a field when its mask bit is set. -/
def maskedBytes (mask bit n : Nat) : Nat := if maskBit mask bit then n else 0

/-! ### Step programs (R6, R25) -/

/-- Endpoint modes by their coding (R25). -/
def EndpointMode.ofCode : Nat → Option EndpointMode
  | 0 => some .removal
  | 1 => some .time
  | 2 => some .external
  | _ => none

/-- The coding of an endpoint mode (R25). -/
def EndpointMode.code : EndpointMode → Nat
  | .removal => 0
  | .time => 1
  | .external => 2

/-- The conditioning field: mode, profile and sweep count (R25), with the second check of R6. -/
def Conditioning.ofFields (mode profile sweeps : Nat) : Option Conditioning :=
  match mode, indexBelow 4 profile with
  | 0, some q => if q = 0 ∧ sweeps = 0 then some .none else Option.none
  | 1, some q => if sweeps = 0 then some (.inSitu q) else Option.none
  | 2, some q => if within 1 15 sweeps then some (.exSitu q sweeps) else Option.none
  | _, _ => Option.none

/-- The three bytes of the conditioning field (R25). -/
def Conditioning.fields : Conditioning → Nat × Nat × Nat
  | .none => (0, 0, 0)
  | .inSitu q => (1, q.val, 0)
  | .exSitu q n => (2, q.val, n)

/-- Zone fields within their ranges (R6). -/
def ZoneProgram.inRange (z : ZoneProgram) : Bool := within 0 700 z.base && within 0 60000 z.target && within 1 8000 z.path

/-- The sweep count of an EX_SITU step lies in 1-15 (R6). -/
def Conditioning.inRange : Conditioning → Bool
  | .none => true
  | .inSitu _ => true
  | .exSitu _ n => within 1 15 n

/-- The first check of R6: a REMOVAL step has at least one zone with a target above 0. -/
def StepProgram.hasTarget (s : StepProgram) : Bool :=
  match s.mode with
  | .removal => s.zones.toList.any fun z => decide (0 < z.target)
  | .time => true
  | .external => true

/-- A valid step program (R6). -/
def StepProgram.valid (s : StepProgram) : Bool :=
  within 1 6000 s.timeLimit && within 1 65535 s.preston && within 0 700 s.ringPressure && within 0 15 s.settle &&
    within 0 255 s.gain && within 1 100 s.slew && s.conditioning.inRange && s.zones.toList.all ZoneProgram.inRange &&
    s.hasTarget

/-- Zone `z` of a step program layout (R25). -/
def zoneAt (bs : List Byte) (z : Nat) : ZoneProgram :=
  { base := field bs (15 + 6 * z) 2, target := field bs (17 + 6 * z) 2, path := field bs (19 + 6 * z) 2 }

/-- The step program that 39 bytes in the layout of R25 spell, when it is valid by R6. -/
def readStep (bs : List Byte) : Option StepProgram :=
  match Platen.ofNumber (field bs 0 1), EndpointMode.ofCode (field bs 1 1), indexBelow 8 (field bs 6 1),
      Conditioning.ofFields (field bs 7 1) (field bs 8 1) (field bs 9 1) with
  | some platen, some mode, some blendRow, some conditioning =>
    let s : StepProgram :=
      { platen, mode, timeLimit := field bs 2 2, preston := field bs 4 2, blendRow, conditioning,
        ringPressure := field bs 10 2, settle := field bs 12 1, gain := field bs 13 1, slew := field bs 14 1,
        zones := ⟨zoneAt bs 0, zoneAt bs 1, zoneAt bs 2, zoneAt bs 3⟩ }
    if s.valid then some s else none
  | _, _, _, _ => none

/-- `n` step programs of 39 bytes each, in step order (R11). -/
def readSteps : Nat → List Byte → Option (List StepProgram)
  | 0, _ => some []
  | n + 1, bs =>
    match readStep (bs.take 39), readSteps n (bs.drop 39) with
    | some s, some rest => some (s :: rest)
    | _, _ => none

/-! ### Head settings (R69, R84) -/

/-- Channel settings in range (R69). -/
def ChannelSettings.inRange (c : ChannelSettings) : Bool :=
  within 0 700 c.wmin && within 0 700 c.wmax && decide (c.wmin ≤ c.wmax) && within 0 2000 c.span && within 0 200 c.zero

/-- Drive settings in range (R69). -/
def DriveSettings.inRange (d : DriveSettings) : Bool :=
  within 0 50 d.deadband && within 0 1000 d.kp && within 1000 18000 d.pulseMax && within 500 5000 d.deadTime

/-- Head settings in range (R69, R84). -/
def HeadSettings.inRange (h : HeadSettings) : Bool := h.drive.inRange && h.chans.toList.all ChannelSettings.inRange

/-- The settings of channel index `i` in bytes 1-42 of the HEAD-WRITE layout (R84). -/
def channelSettingsAt (bs : List Byte) (i : Nat) : ChannelSettings :=
  { wmin := field bs (7 + 7 * i) 2, wmax := field bs (9 + 7 * i) 2, span := field bs (11 + 7 * i) 2,
    zero := field bs (13 + 7 * i) 1 }

/-- Bytes 1-42 of the HEAD-WRITE layout (R84), which are also a head's part of the settings image (R182). -/
def readHeadSettings (bs : List Byte) : Option HeadSettings :=
  let h : HeadSettings :=
    { drive := { deadband := field bs 0 1, kp := field bs 1 2, pulseMax := field bs 3 2, deadTime := field bs 5 2 }
      chans := ⟨⟨channelSettingsAt bs 0, channelSettingsAt bs 1, channelSettingsAt bs 2, channelSettingsAt bs 3⟩,
        channelSettingsAt bs 4⟩ }
  if h.inRange then some h else none

/-! ### Slurry settings (R107, R109, R118) -/

/-- Part sum of a blend row (R108). -/
def BlendRow.partSum (r : BlendRow) : Nat := r.partA + r.partB + r.partC

/-- The parts of a feed in a blend row (R108). -/
def BlendRow.parts (r : BlendRow) : Feed → Nat
  | .a => r.partA
  | .b => r.partB
  | .c => r.partC

/-- A blend row BLEND-WRITE takes (R109). -/
def BlendRow.inRange (r : BlendRow) : Bool := within 0 500 r.flow && !(decide (0 < r.flow ∧ r.partSum = 0))

/-- The five bytes of a blend row: Q, parts A, B, C (R109). -/
def readRow (bs : List Byte) : Option BlendRow :=
  let r : BlendRow := { flow := field bs 0 2, partA := field bs 2 1, partB := field bs 3 1, partC := field bs 4 1 }
  if r.inRange then some r else none

/-- A phase table entry: 0-2 for P0-P2, 3 for IDLE (R118). -/
def readPhase (b : Byte) : Option (Option Platen) :=
  match b.toNat with
  | 0 => some (some .p0)
  | 1 => some (some .p1)
  | 2 => some (some .p2)
  | 3 => some none
  | _ => none

/-- The entries of a phase table, each 0-3 (R118). -/
def readPhases : List Byte → Option PhaseTable
  | [] => some []
  | b :: bs =>
    match readPhase b, readPhases bs with
    | some e, some rest => some (e :: rest)
    | _, _ => none

/-- A stroke volume in range (R110). -/
def volumeInRange (v : Nat) : Bool := within 10 2000 v

/-! ### Conditioning settings (R127, R139, R140) -/

/-- A segment in range (R139). -/
def Segment.inRange (s : Segment) : Bool := within 10 5000 s.dwell && within 0 500 s.force

/-- `n` segments of 4 bytes each, centre first, each in range (R139). -/
def readSegments : Nat → List Byte → Option Profile
  | 0, _ => some []
  | n + 1, bs =>
    let s : Segment := { dwell := field bs 0 2, force := field bs 2 2 }
    match readSegments n (bs.drop 4) with
    | some rest => if s.inRange then some (s :: rest) else none
    | none => none

/-- Glaze settings: rate and floor (R140). -/
def readGlaze (bs : List Byte) : Option GlazeSettings :=
  let g : GlazeSettings := { rate := field bs 0 1, floor := field bs 1 2 }
  if within 0 4096 g.floor then some g else none

/-! ### Items (R88, R99) -/

/-- Item kinds by their coding (R99). -/
def ItemKind.ofCode : Nat → Option ItemKind
  | 0 => some .pad
  | 1 => some .disk
  | 2 => some .lot
  | 3 => some .ring
  | _ => none

/-- The coding of an item kind (R99). -/
def ItemKind.code : ItemKind → Nat
  | .pad => 0
  | .disk => 1
  | .lot => 2
  | .ring => 3

/-- Kinds that have a limit (R88). -/
def ItemKind.hasLimit (k : ItemKind) : Bool := decide (k ≠ .lot)

/-- Kinds that have F0 and slope (R88). -/
def ItemKind.hasFactor (k : ItemKind) : Bool := decide (k = .pad ∨ k = .lot)

/-- Kinds that have volume remaining, age and pot life (R88). -/
def ItemKind.isLot (k : ItemKind) : Bool := decide (k = .lot)

/-- Positions by their code (R89). -/
def Position.ofCode : Nat → Option Position
  | 0 => some (.platen .p0)
  | 1 => some (.platen .p1)
  | 2 => some (.platen .p2)
  | 3 => some .feedA
  | 4 => some .feedB
  | 5 => some (.head .h0)
  | 6 => some (.head .h1)
  | 7 => some (.head .h2)
  | 8 => some (.head .h3)
  | _ => none

/-- The code of a position (R89). -/
def Position.code : Position → Nat
  | .platen p => p.number
  | .feedA => 3
  | .feedB => 4
  | .head h => 5 + h.number

/-- The kinds a position takes (R89). -/
def Position.takes (pos : Position) (k : ItemKind) : Bool :=
  match pos with
  | .platen _ => decide (k = .pad ∨ k = .disk)
  | .feedA => decide (k = .lot)
  | .feedB => decide (k = .lot)
  | .head _ => decide (k = .ring)

/-- Feeds that carry a lot, with their position (R89: feed C takes no item). -/
def feedPosition : Feed → Option Position
  | .a => some .feedA
  | .b => some .feedB
  | .c => none

/-- A new item record from the 25 bytes of ITEM-REGISTER, its flags worked out (R99), when check 2 of R99 holds. -/
def readItem (bs : List Byte) : Option Item :=
  match ItemKind.ofCode (field bs 4 1) with
  | none => none
  | some kind =>
    let i : Item :=
      { id := wordField bs 0, kind, position := none, usage := field bs 5 4, limit := field bs 9 4,
        flags := ItemFlags.none, f0 := field bs 13 2, slope := field bs 15 2, volume := field bs 17 4,
        age := field bs 21 2, potLife := field bs 23 2 }
    let fieldsOfKind := (kind.hasLimit || i.limit == 0) && (kind.hasFactor || (i.f0 == 0 && i.slope == 0)) &&
      (kind.isLot || (i.volume == 0 && i.age == 0 && i.potLife == 0))
    if i.id ≠ 0 ∧ i.f0 ≤ 8191 ∧ fieldsOfKind then some { i with flags := i.workedOutFlags } else none

end Sys2Proof.Machine
end

