-- ==== Sys2Proof/Machine/Ops.lean ====
section
/-! DEFINITION. Named operations over the state: time, attention, the tables, the station's geometry, the EEPROM. -/

namespace Sys2Proof.Machine

/-! ### Time (0.5; notes/assumptions/1.md) -/

/-- `dt` microseconds pass. -/
def State.elapse (s : State) (dt : Nat) : State := { s with clock := s.clock + dt }

/-- Time passes until a moment, when that moment is still to come. -/
def State.runTo (s : State) (moment : Nat) : State := { s with clock := max s.clock moment }

/-- The time base: 32 bits, wrapping (0.2, 0.5). -/
def State.timeBase (s : State) : Word32 := BitVec.ofNat 32 s.clock

/-! ### Attention (R174) -/

/-- A cause is raised: it is put in the pending set, whatever the mask (R174). -/
def State.raise (s : State) (c : Cause) : State := { s with attnPending := s.attnPending.add c }

/-- A cause is raised when a condition holds. -/
def State.raiseIf (s : State) (b : Bool) (c : Cause) : State := if b then s.raise c else s

/-- The attention output: active while a cause is both pending and in the mask (R174). -/
def State.attn (s : State) : Bool := s.attnPending &&& s.attnMask != 0#9

/-! ### Carousel geometry (R143) -/

/-- The platen under a station: S1, S2, S3 over P0, P1, P2, and none under S0 (R143). -/
def stationPlaten : Nat → Option Platen
  | 1 => some .p0
  | 2 => some .p1
  | 3 => some .p2
  | _ => none

/-- The station of a head at offset k: (h + k) mod 4 (R143). -/
def stationOf (k : Fin 4) (h : Head) : Nat := (h.number + k.val) % 4

/-- The platen a head stands over at offset k, if any (R143). -/
def platenUnder (k : Fin 4) (h : Head) : Option Platen := stationPlaten (stationOf k h)

/-- The head at station s at offset k: head (s − k) mod 4 (R143). -/
def headAt (k : Fin 4) (station : Nat) : Head :=
  match (station + (4 - k.val)) % 4 with
  | 0 => .h0
  | 1 => .h1
  | 2 => .h2
  | _ => .h3

/-- The head that stands over a platen at offset k (R143). -/
def headOver (k : Fin 4) (p : Platen) : Head := headAt k (p.number + 1)

/-! ### The Pass Table (R1 to R4) -/

/-- The record in a slot, if the slot is live. -/
def State.pass (s : State) (i : PassSlot) : Option Pass := slotAt s.passes i

/-- A slot of the Pass Table rewritten. -/
def State.setPass (s : State) (i : PassSlot) (r : Option Pass) : State := { s with passes := putAt s.passes i r }

/-- The step program of the current step c (R4). -/
def Pass.step (r : Pass) : Option StepProgram := r.steps[r.current]?

/-- Whether a pass has a running step: POLISHING or HELD (R4). -/
def Pass.running (r : Pass) : Bool := decide (r.state = .polishing ∨ r.state = .held)

/-- Whether a pass holds its head: WAITING, POLISHING or HELD (R3). -/
def Pass.holdsHead (r : Pass) : Bool := decide (r.state = .waiting ∨ r.state = .polishing ∨ r.state = .held)

/-- The platen of the pass's current step when its head stands over that platen (R28, R58). -/
def Pass.seat (k : Fin 4) (r : Pass) : Option Platen :=
  match r.head, r.step with
  | some h, some st => if platenUnder k h = some st.platen then some st.platen else none
  | _, _ => none

/-- Whether the record of a slot has a property; a free slot has none. -/
def State.passHas (s : State) (i : PassSlot) (f : Pass → Bool) : Bool :=
  match s.pass i with
  | some r => f r
  | none => false

/-- The first slot whose record has a property. -/
def State.findPass (s : State) (f : Pass → Bool) : Option PassSlot := passSlots.find? fun i => s.passHas i f

/-- Whether some live record has a property. -/
def State.anyPass (s : State) (f : Pass → Bool) : Bool := passSlots.any fun i => s.passHas i f

/-- The pass POLISHING or HELD on a platen: its head stands over the platen and its current step names it (R58, R158). -/
def State.runningOn (s : State) (p : Platen) : Option PassSlot :=
  s.findPass fun r => r.running && decide (r.seat s.carousel.k = some p)

/-- The pass POLISHING or HELD on a head (R159). -/
def State.runningAt (s : State) (h : Head) : Option PassSlot := s.findPass fun r => r.running && decide (r.head = some h)

/-- The pass a head holds: WAITING, POLISHING or HELD (R3). -/
def State.holderOf (s : State) (h : Head) : Option PassSlot := s.findPass fun r => r.holdsHead && decide (r.head = some h)

/-- The free slot with the lowest number (R1). -/
def State.freePassSlot (s : State) : Option PassSlot := passSlots.find? fun i => (s.pass i).isNone

/-- The step timer's remainder at a moment: it grows while the pass is POLISHING (R27, R36). -/
def Pass.remainderAt (r : Pass) (live : LiveProgress) (moment : Nat) : Nat :=
  if r.state = .polishing then live.remainder + (moment - live.timerFrom) else live.remainder

/-! ### Reported removal (R67) -/

/-- The greatest reported removal (R67). -/
def maxReported : Nat := 16777215

/-- Reported removal: the accumulator rounded to nearest nm, ties up, and limited (R67). -/
def reported (acc : Nat) : Nat := min maxReported ((acc + 32768) / 65536)

/-! ### The Item Table (R87 to R89) -/

/-- The record in an item slot, if it is live. -/
def State.item (s : State) (i : ItemSlot) : Option Item := slotAt s.items i

/-- A slot of the Item Table rewritten. -/
def State.setItem (s : State) (i : ItemSlot) (r : Option Item) : State := { s with items := putAt s.items i r }

/-- Whether the record of an item slot has a property. -/
def State.itemHas (s : State) (i : ItemSlot) (f : Item → Bool) : Bool :=
  match s.item i with
  | some r => f r
  | none => false

/-- The first item slot whose record has a property. -/
def State.findItem (s : State) (f : Item → Bool) : Option ItemSlot := itemSlots.find? fun i => s.itemHas i f

/-- The item with an id (R98). -/
def State.itemById (s : State) (id : Word32) : Option ItemSlot := s.findItem fun r => decide (r.id = id)

/-- The item of a kind mounted at a position (R89). -/
def State.mounted (s : State) (kind : ItemKind) (pos : Position) : Option ItemSlot :=
  s.findItem fun r => decide (r.kind = kind ∧ r.position = some pos)

/-- The record of the item of a kind mounted at a position. -/
def State.mountedItem (s : State) (kind : ItemKind) (pos : Position) : Option Item :=
  match s.mounted kind pos with
  | some i => s.item i
  | none => none

/-- The lot mounted on a feed (R89; feed C takes none). -/
def State.lotOn (s : State) (f : Feed) : Option ItemSlot :=
  match feedPosition f with
  | some pos => s.mounted .lot pos
  | none => none

/-- The free item slot with the lowest number (R87). -/
def State.freeItemSlot (s : State) : Option ItemSlot := itemSlots.find? fun i => (s.item i).isNone

/-! ### Channels, arms, feeds -/

/-- A channel of a head. -/
def State.channel (s : State) (h : Head) (c : Chan) : Channel := (s.channels.get h).get c

/-- A channel of a head rewritten. -/
def State.setChannel (s : State) (h : Head) (c : Chan) (x : Channel) : State :=
  { s with channels := s.channels.set h ((s.channels.get h).set c x) }

/-- Every channel of a head rewritten by a rule. -/
def State.updateHead (s : State) (h : Head) (f : Chan → Channel → Channel) : State :=
  { s with channels := s.channels.set h (PerChan.tabulate fun c => f c ((s.channels.get h).get c)) }

/-- Whether any of a head's five channels is in sensor fault (R30, R163). -/
def State.headFault (s : State) (h : Head) : Bool := (s.channels.get h).toList.any Channel.fault

/-- An arm rewritten. -/
def State.setArm (s : State) (p : Platen) (a : Arm) : State := { s with arms := s.arms.set p a }

/-- A platen's supply state rewritten. -/
def State.setSupply (s : State) (p : Platen) (x : PlatenSupply) : State := { s with supply := s.supply.set p x }

/-- A feed rewritten. -/
def State.setFeed (s : State) (f : Feed) (x : FeedUnit) : State := { s with feeds := s.feeds.set f x }

/-- A platen's rotation state rewritten. -/
def State.setRotation (s : State) (p : Platen) (x : Rotation) : State := { s with rotation := s.rotation.set p x }

/-- The conditioning-busy flag: set exactly while the ex-situ count is above 0 (R126). -/
def Arm.busy (a : Arm) : Bool := decide (0 < a.exSitu)

/-- A row of the blend table. -/
def State.row (s : State) (r : Fin 8) : BlendRow := slotAt s.rows r

/-- Whether a step's blend row uses a feed: its parts of the feed are above 0, whatever its flow (R108). -/
def State.stepUses (s : State) (st : StepProgram) (f : Feed) : Bool := decide (0 < (s.row st.blendRow).parts f)

/-! ### The EEPROM (R181 to R184): bytes by address, canonical -/

/-- What a byte nothing has written reads as: a blank EEPROM reads as 0xFF (R182). -/
def blankByte : Byte := 0xFF#8

/-- The byte at an address. -/
def readCell (addr : Nat) : List Host.Cell → Byte
  | [] => blankByte
  | (a, b) :: rest => if a = addr then b else readCell addr rest

/-- A byte written at an address, the form kept canonical: addresses rising, no cell equal to a blank byte. -/
def writeCell (addr : Nat) (b : Byte) : List Host.Cell → List Host.Cell
  | [] => if b = blankByte then [] else [(addr, b)]
  | (a, x) :: rest =>
    if addr < a then if b = blankByte then (a, x) :: rest else (addr, b) :: (a, x) :: rest
    else if addr = a then if b = blankByte then rest else (addr, b) :: rest
    else (a, x) :: writeCell addr b rest

/-- Bytes written in address order from an address on (R183). -/
def writeCells (addr : Nat) : List Byte → List Host.Cell → List Host.Cell
  | [], cells => cells
  | b :: bs, cells => writeCells (addr + 1) bs (writeCell addr b cells)

/-- `n` bytes from an address on (R181). -/
def readCells (addr : Nat) : Nat → List Host.Cell → List Byte
  | 0, _ => []
  | n + 1, cells => readCell addr cells :: readCells (addr + 1) n cells

/-- Addresses strictly rising above a bound and no cell blank. -/
def cellsFrom (bound : Nat) : List Host.Cell → Bool
  | [] => true
  | (a, b) :: rest => decide (bound ≤ a) && b != blankByte && cellsFrom (a + 1) rest

/-- The canonical form of the EEPROM's cells. -/
def Memory.wf (cells : List Host.Cell) : Bool := cellsFrom 0 cells

end Sys2Proof.Machine
end

