-- ==== Sys2Proof/Machine/Channels.lean ====
section
/-! DEFINITION. Operations on the pressure channels: valves, VENT and DRIVE, pulses, sampling, setpoints (R70 to R85). -/

namespace Sys2Proof.Machine

/-! ### Valves -/

/-- A valve closes now, if it is open, and records the moment (R79). -/
def Valve.shut (now : Nat) (v : Valve) : Valve := if v.isOpen then ⟨false, some now⟩ else v

/-- A valve opens. -/
def Valve.opened (v : Valve) : Valve := { v with isOpen := true }

/-- The moment from which the opposite valve may open, a dead time after this one closed; 0 when it closed long ago
(R68, R78). -/
def Valve.restedFrom (deadTime : Nat) (v : Valve) : Nat :=
  match v.lastClosed with
  | some t => t + deadTime
  | none => 0

/-- A valve of a channel. -/
def Channel.valve (c : Channel) : ValveKind → Valve
  | .fill => c.fill
  | .vent => c.vent

/-- A valve of a channel rewritten. -/
def Channel.setValve (c : Channel) (k : ValveKind) (v : Valve) : Channel :=
  match k with
  | .fill => { c with fill := v }
  | .vent => { c with vent := v }

/-- The opposite valve of a channel. -/
def ValveKind.other : ValveKind → ValveKind
  | .fill => .vent
  | .vent => .fill

/-- The present pulse ends and its valve closes (R79). -/
def Channel.endPulse (now : Nat) (c : Channel) : Channel :=
  match c.pulse with
  | some p => { c.setValve p.valve ((c.valve p.valve).shut now) with pulse := none }
  | none => c

/-! ### VENT and DRIVE (R74, R75) -/

/-- A VENT channel's vent valve opens once the dead time has passed since the fill valve closed (R75). -/
def Channel.openVentIfRested (now deadTime : Nat) (c : Channel) : Channel :=
  if c.mode = .vent ∧ c.vent.isOpen = false ∧ c.fill.restedFrom deadTime ≤ now then { c with vent := c.vent.opened } else c

/-- A channel enters VENT (R75): the setpoint goes, a fill pulse is cut, a pulse not begun is dropped, a vent pulse runs
into the open vent; the vent valve opens as soon as the dead time has passed (notes/assumptions/12.md). -/
def Channel.enterVent (now deadTime : Nat) (c : Channel) : Channel :=
  if c.mode = .vent then c
  else
    Channel.openVentIfRested now deadTime
      { c with mode := .vent, setpoint := none, fill := c.fill.shut now, pulse := none }

/-- A channel enters DRIVE with a starting setpoint (R74): the vent valve closes at once, and no valve opens before the next
period start. A channel in VENT has no pulse (R75), so there is none to end. -/
def Channel.enterDrive (now setpoint : Nat) (c : Channel) : Channel :=
  let rested := c.endPulse now
  { rested with mode := .drive, setpoint := some setpoint, vent := rested.vent.shut now }

/-- The five channels of a head enter VENT (R75). -/
def State.ventHead (s : State) (h : Head) : State :=
  s.updateHead h fun _ c => c.enterVent s.clock (s.headSettings.get h).drive.deadTime

/-- The setpoint limited to a channel's window (R74, R80, R81, R85). -/
def ChannelSettings.window (cs : ChannelSettings) (x : Nat) : Nat := limited cs.wmin cs.wmax x

/-- The starting setpoint of a channel (R74): the base pressure or ring pressure limited to the window, but Wmin for a zone
that is complete, as a resume finds it. -/
def startingSetpoint (cs : ChannelSettings) (st : StepProgram) (complete : PerZone Bool) : Chan → Nat
  | .zone z => if complete.get z then cs.wmin else cs.window (st.zones.get z).base
  | .rr => cs.window st.ringPressure

/-- The five channels of a head enter DRIVE for a step (R74). -/
def State.driveHead (s : State) (h : Head) (st : StepProgram) (complete : PerZone Bool) : State :=
  s.updateHead h fun c x => x.enterDrive s.clock (startingSetpoint ((s.headSettings.get h).chans.get c) st complete c)

/-! ### Pulses (R77 to R79) -/

/-- The pulse a period decides (R77): its valve and its width, if there is one. -/
def Channel.decision (d : DriveSettings) (c : Channel) : Option (ValveKind × Nat) :=
  match c.fault, c.latest, c.setpoint with
  | false, some pressure, some setpoint =>
    let error := max setpoint pressure - min setpoint pressure
    let width := min (error * d.kp) d.pulseMax
    if error ≤ d.deadband ∨ width = 0 then none
    else some (if pressure < setpoint then .fill else .vent, width)
  | _, _, _ => none

/-- A pulse placed in the present period: it starts when the dead time since the opposite valve closed has passed, keeps its
width, and ends by the period end; with no time left before the period end it is dropped (R78). -/
def Channel.placePulse (now deadTime : Nat) (c : Channel) (kind : ValveKind) (width : Nat) : Channel :=
  let start := max now ((c.valve kind.other).restedFrom deadTime)
  if c.nextPeriod ≤ start then { c with pulse := none }
  else
    let placed := { c with pulse := some ⟨kind, width, start, min (start + width) c.nextPeriod⟩ }
    if start ≤ now then placed.setValve kind (c.valve kind).opened else placed

/-- A valve period of a channel starts at `now` (R77): a pulse of the old period has ended (R78), and a channel in DRIVE
decides the new one. -/
def Channel.startPeriod (now : Nat) (d : DriveSettings) (c : Channel) : Channel :=
  let next := { c with nextPeriod := c.nextPeriod + 20000 }
  match c.mode with
  | .vent => next
  | .drive =>
    let ready := { next.endPulse now with pulse := none }
    match ready.decision d with
    | some (kind, width) => ready.placePulse now d.deadTime kind width
    | none => ready

/-- A pulse that has not begun: it is decided and its valve is still closed. -/
def Channel.waitingPulse (c : Channel) : Option Pulse :=
  match c.pulse with
  | some p => if (c.valve p.valve).isOpen then none else some p
  | none => none

/-- A pulse under way: its valve is open. -/
def Channel.runningPulse (c : Channel) : Option Pulse :=
  match c.pulse with
  | some p => if (c.valve p.valve).isOpen then some p else none
  | none => none

/-! ### Samples (R70 to R72) -/

/-- The greatest pressure (R70). -/
def maxPressure : Nat := 700

/-- A sample's pressure (R70): none for the end codes; otherwise code × span ÷ 4096 rounded down, minus zero, limited. -/
def samplePressure (cs : ChannelSettings) (code : BitVec 12) : Option Nat :=
  if code.toNat = 0 ∨ code.toNat = 4095 then none
  else some (min maxPressure (code.toNat * cs.span / 4096 - cs.zero))

/-- The sensor fault and its run count after a sample (R72). -/
def Channel.track (good : Bool) (c : Channel) : Channel :=
  if good == c.fault then
    if c.runCount + 1 = 8 then { c with fault := !c.fault, runCount := 0 } else { c with runCount := c.runCount + 1 }
  else { c with runCount := 0 }

/-- A channel takes a sample (R70 to R72). -/
def Channel.takeSample (pressure : Option Nat) (c : Channel) : Channel :=
  let kept := match pressure with
    | some p => { c with latest := some p }
    | none => c
  Channel.track pressure.isSome { kept with nextSample := c.nextSample + 2000 }

/-- The most good samples a window counts (R56). -/
def maxSamples : Nat := 65535

/-- A good sample is added to a zone channel's window, up to the cap (R56). -/
def Window.addSample (w : Window) (pressure : Nat) : Window :=
  if w.count < maxSamples then { w with sum := w.sum + pressure, count := w.count + 1 } else w

/-! ### Setpoints (R80, R81, R85) -/

/-- The channel's pressure for the revolution a closing ends (R57). -/
def Window.closingPressure (w : Window) : Nat :=
  if 0 < w.count then w.sum / w.count
  else match w.lastAverage with
    | some p => p
    | none => 0

/-- A window closed and restarted empty (R57). -/
def Window.close (w : Window) : Window :=
  { sum := 0, count := 0, lastAverage := if 0 < w.count then some (w.sum / w.count) else w.lastAverage }

/-- An active zone: targeted and not complete (R80). -/
def isActive (st : StepProgram) (live : LiveProgress) (z : Zone) : Bool :=
  decide (0 < (st.zones.get z).target) && !live.complete.get z

/-- A zone's progress f (R81). -/
def zoneProgress (st : StepProgram) (live : LiveProgress) (z : Zone) : Nat :=
  min 8191 (reported (live.acc.get z) * 4096 / (st.zones.get z).target)

/-- The mean progress of the active zones (R81). -/
def meanProgress (st : StepProgram) (live : LiveProgress) : Nat :=
  let active := zones.filter (isActive st live)
  (active.map (zoneProgress st live)).sum / active.length

/-- Whether the steering term acts (R81). -/
def steeringActs (st : StepProgram) (live : LiveProgress) : Bool :=
  decide (0 < st.gain ∧ live.settleLeft = 0 ∧ 2 ≤ (zones.filter (isActive st live)).length)

/-- The steering term of an active zone (R81): B × e × G ÷ 65,536, truncated toward zero. -/
def steeringTerm (st : StepProgram) (live : LiveProgress) (z : Zone) : Int :=
  if steeringActs st live then
    let lag : Int := (meanProgress st live : Int) - (zoneProgress st live z : Int)
    Int.tdiv (((st.zones.get z).base : Int) * lag * (st.gain : Int)) 65536
  else 0

/-- A whole number limited to a range. -/
def limitedInt (lo hi x : Int) : Int := if x < lo then lo else if hi < x then hi else x

/-- The new setpoint of an active zone (R81): the desired setpoint limited to the slew about the previous one, then to the
window. -/
def steeredSetpoint (cs : ChannelSettings) (st : StepProgram) (live : LiveProgress) (z : Zone) (previous : Nat) : Nat :=
  let desired : Int := ((st.zones.get z).base : Int) + steeringTerm st live z
  let slewed := limitedInt ((previous : Int) - (st.slew : Int)) ((previous : Int) + (st.slew : Int)) desired
  (limitedInt (cs.wmin : Int) (cs.wmax : Int) slewed).toNat

/-- The setpoint of a zone after a credited revolution, by its class (R80). -/
def updatedSetpoint (cs : ChannelSettings) (st : StepProgram) (live : LiveProgress) (z : Zone) (previous : Nat) : Nat :=
  if live.complete.get z then cs.wmin
  else if (st.zones.get z).target = 0 then cs.window (st.zones.get z).base
  else steeredSetpoint cs st live z previous

/-- The setpoint of a channel rewritten by a rule, when it has one. -/
def Channel.moveSetpoint (f : Nat → Nat) (c : Channel) : Channel := { c with setpoint := c.setpoint.map f }

/-- The zone setpoints of a head after a credited revolution of its POLISHING pass (R80); RR keeps its own. -/
def State.steerHead (s : State) (h : Head) (st : StepProgram) (live : LiveProgress) : State :=
  s.updateHead h fun c x =>
    match c with
    | .zone z => x.moveSetpoint (updatedSetpoint ((s.headSettings.get h).chans.get c) st live z)
    | .rr => x

/-- A dead time changed by HEAD-WRITE acts at once (R78): a delayed pulse start and a waiting vent opening that have not yet
come are moved to the moment the new dead time has passed (notes/assumptions/13.md). -/
def Channel.moveDelays (now deadTime : Nat) (c : Channel) : Channel :=
  match c.waitingPulse with
  | some p => c.placePulse now deadTime p.valve p.width
  | none => c.openVentIfRested now deadTime

/-- A channel after new settings of its head were written (R85): the setpoint limited to the new window, or the new Wmin for
a complete zone; a changed dead time acts at once. -/
def Channel.applySettings (now oldDeadTime : Nat) (d : DriveSettings) (cs : ChannelSettings) (complete : Bool)
    (c : Channel) : Channel :=
  let moved := c.moveSetpoint fun x => if complete then cs.wmin else cs.window x
  if oldDeadTime = d.deadTime then moved else moved.moveDelays now d.deadTime

end Sys2Proof.Machine
end

