-- ==== Sys2Proof/Machine/Arms.lean ====
section
/-! DEFINITION. Operations on the conditioning arms: sweeps, parking, glaze (R127 to R138). -/

namespace Sys2Proof.Machine

/-- The profile a service names (R126). -/
def Service.profile : Service → Option (Fin 4)
  | .none => Option.none
  | .inSitu q => some q
  | .exSitu q => some q

/-- Whether a service is IN_SITU. -/
def Service.isInSitu : Service → Bool
  | .inSitu _ => true
  | .exSitu _ => false
  | .none => false

/-- Whether a service is EX_SITU. -/
def Service.isExSitu : Service → Bool
  | .exSitu _ => true
  | .inSitu _ => false
  | .none => false

/-- A sweep profile of the table (R127). -/
def State.profile (s : State) (q : Fin 4) : Profile := slotAt s.profiles q

/-- The profile an arm sweeps by; an arm without a service has none. -/
def State.armProfile (s : State) (p : Platen) : Profile :=
  match (s.arms.get p).service.profile with
  | some q => s.profile q
  | none => []

/-- The segment at an index of a sweep (R127): list entry i OUTWARD, n − 1 − i INWARD; none beyond the last. -/
def sweepSegment (pr : Profile) (d : Direction) (i : Nat) : Option Segment :=
  match d with
  | .outward => pr[i]?
  | .inward => if i < pr.length then pr[pr.length - 1 - i]? else none

/-- The reversed direction (R129). -/
def Direction.reverse : Direction → Direction
  | .outward => .inward
  | .inward => .outward

/-- The arm enters the segment of its index: the dwell timer starts with its dwell, and one pulse goes out on the
segment-advance line (R128). -/
def Arm.enterSegment (now : Nat) (pr : Profile) (a : Arm) : Arm :=
  { a with
    dwell := (sweepSegment pr a.direction a.segment).map fun g => now + g.dwell * 1000
    advances := a.advances + 1 }

/-- The arm begins a sweep in the direction it holds (R128). -/
def Arm.beginSweep (now : Nat) (pr : Profile) (a : Arm) : Arm :=
  Arm.enterSegment now pr { a with sweeping := true, segment := 0 }

/-- The arm parks (R133): the dwell timer stops, the segment index goes to 0, direction, glaze and count are kept. -/
def Arm.park (a : Arm) : Arm := { a with sweeping := false, dwell := none, segment := 0 }

/-- The arm of a platen begins a sweep by the profile of its service (R128). -/
def State.beginSweep (s : State) (p : Platen) : State :=
  s.setArm p ((s.arms.get p).beginSweep s.clock (s.armProfile p))

/-- The arm of a platen parks if it sweeps in-situ: a hold of the step's pass (R133). -/
def State.parkInSitu (s : State) (p : Platen) : State :=
  let a := s.arms.get p
  if a.service.isInSitu && a.sweeping then s.setArm p a.park else s

/-- In-situ sweeping on a platen stops at the step end (R133, R44): the arm parks and the service becomes NONE. -/
def State.endInSitu (s : State) (p : Platen) : State :=
  let a := s.arms.get p
  if a.service.isInSitu then s.setArm p { a.park with service := .none } else s

/-- In-situ sweeping begins at a step start (R132): OUTWARD, with the step's profile. -/
def State.startInSitu (s : State) (p : Platen) (q : Fin 4) : State :=
  (s.setArm p { s.arms.get p with service := .inSitu q, direction := .outward }).beginSweep p

/-- The glaze factor of a platen (R130): the larger of the floor and 4096 − rate × count. -/
def glazeFactor (g : GlazeSettings) (count : Nat) : Nat := max g.floor (4096 - g.rate * count)

/-- The glaze count raised by an accepted edge (R130). -/
def Arm.raiseGlaze (a : Arm) : Arm := { a with glaze := min 65535 (a.glaze + 1) }

end Sys2Proof.Machine
end

