-- ==== Sys2Proof/Machine/Supply.lean ====
section
/-! DEFINITION. Operations of slurry delivery on one platen: dispensing, demand, the supply ratio (R111, R113, R122, R123). -/

namespace Sys2Proof.Machine

/-- Demand and pending strokes at 0 on all three feeds (R111, R120). -/
def PlatenSupply.clearDemand (x : PlatenSupply) : PlatenSupply :=
  { x with demand := PerFeed.all 0, strokes := PerFeed.all 0 }

/-- The platen dispenses with a blend row (R111). -/
def State.startDispensing (s : State) (p : Platen) (row : Fin 8) : State :=
  s.setSupply p { s.supply.get p with dispensing := some row }

/-- The platen stops dispensing and its demand is dropped (R111). -/
def State.stopDispensing (s : State) (p : Platen) : State :=
  s.setSupply p { (s.supply.get p).clearDemand with dispensing := none }

/-- Every demand accumulator and pending count at 0 (R120). -/
def State.clearAllDemand (s : State) : State := { s with supply := s.supply.map PlatenSupply.clearDemand }

/-- The greatest supply count (R122). -/
def maxCount : Nat := 65535

/-- The stroke threshold h = V × S × 12 of a feed for a row (R113). -/
def threshold (volume : Nat) (row : BlendRow) : Nat := volume * row.partSum * 12

/-- The demand of one slot of a feed on a dispensing platen (R113). -/
def PlatenSupply.addDemand (x : PlatenSupply) (f : Feed) (volume : Nat) (row : BlendRow) : PlatenSupply :=
  if 0 < row.flow ∧ 0 < row.parts f then
    let h := threshold volume row
    let d := x.demand.get f + row.flow * row.parts f
    let whole := d / h
    let fresh := whole - x.strokes.get f
    { x with
      demand := x.demand.set f (d - (whole - 4) * h)
      strokes := x.strokes.set f (min 4 whole)
      demanded := if f = .a then min maxCount (x.demanded + fresh) else x.demanded }
  else x

/-- A grant lowers the candidate's pending count by 1 and its accumulator by h; on feed A its granted count rises (R115). -/
def PlatenSupply.takeStroke (x : PlatenSupply) (f : Feed) (h : Nat) : PlatenSupply :=
  { x with
    demand := x.demand.set f (x.demand.get f - h)
    strokes := x.strokes.set f (x.strokes.get f - 1)
    granted := if f = .a then min maxCount (x.granted + 1) else x.granted }

/-- The supply ratio of the revolution an edge closes (R122). -/
def PlatenSupply.closingRatio (x : PlatenSupply) : Nat :=
  if x.demanded = 0 then 4096 else min 4096 (x.granted * 4096 / x.demanded)

/-- Ratios below this are short (R123). -/
def shortBelow : Nat := 3277

/-- A platen's supply counts closed at an accepted edge (R122), with the short run and SUPPLY_SHORT (R123). -/
def PlatenSupply.close (x : PlatenSupply) : PlatenSupply :=
  let ratio := x.closingRatio
  let run := if ratio < shortBelow then min 3 (x.shortRun + 1) else 0
  { x with
    demanded := 0
    granted := 0
    lastRatio := ratio
    shortRun := run
    short := if ratio < shortBelow then x.short || decide (run = 3) else false }

/-- A pass's live progress changed by a rule, if it has any. -/
def State.updateLive (s : State) (i : PassSlot) (f : LiveProgress → LiveProgress) : State :=
  match s.pass i with
  | some r => s.setPass i (some { r with live := r.live.map f })
  | none => s

/-- The live progress of the pass POLISHING or HELD on a platen changed by a rule, if there is one. -/
def State.updateLiveOn (s : State) (p : Platen) (f : LiveProgress → LiveProgress) : State :=
  match s.runningOn p with
  | some i => s.updateLive i f
  | none => s

/-- A platen's revolution closed in the SDU (R122, R123): SUPPLY is raised when SUPPLY_SHORT is newly set, and the
supply-short-seen flag is set at every short closing with the condition set. -/
def State.closeSupply (s : State) (p : Platen) : State :=
  let before := s.supply.get p
  let after := before.close
  let closed := (s.setSupply p after).raiseIf (after.short && !before.short) .supply
  if after.short then closed.updateLiveOn p fun l => { l with supplyShort := true } else closed

end Sys2Proof.Machine
end

