-- ==== Sys2Proof/Machine/Wear.lean ====
section
/-! DEFINITION. Operations of the Item Table on one record: usage, rate factors, the stroke debit (R90 to R96). -/

namespace Sys2Proof.Machine

/-- The greatest 32-bit count (R88). -/
def maxWord : Nat := 4294967295

/-- A usage rise (R90): usage stops at the top; WORN is set when the rise brings usage to a limit other than 0. -/
def Item.addUsage (n : Nat) (i : Item) : Item :=
  let used := { i with usage := min maxWord (i.usage + n) }
  { used with flags := { used.flags with worn := used.flags.worn || used.isWorn } }

/-- An item's record rewritten, ITEM raised when a flag is newly set (R93). -/
def State.rewriteItem (s : State) (i : ItemSlot) (old new : Item) : State :=
  (s.setItem i (some new)).raiseIf (old.flags.newlySet new.flags) .item

/-- The usage of the item in a slot rises (R90). -/
def State.addUsageAt (s : State) (i : ItemSlot) (n : Nat) : State :=
  match s.item i with
  | some r => s.rewriteItem i r (r.addUsage n)
  | none => s

/-- The usage of the item a lookup found rises, if it found one. -/
def State.addUsageOf (s : State) (found : Option ItemSlot) (n : Nat) : State :=
  match found with
  | some i => s.addUsageAt i n
  | none => s

/-- The greatest rate factor (0.5). -/
def maxFactor : Nat := 8191

/-- The pad factor (R94). -/
def Item.padFactor (i : Item) : Nat := min maxFactor (i.f0 - i.slope * i.usage / 65536)

/-- The lot factor (R95). -/
def Item.lotFactor (i : Item) : Nat := min maxFactor (i.f0 - i.slope * i.age / 256)

/-- The record of the item with an id. -/
def State.itemWithId (s : State) (id : Word32) : Option Item :=
  match s.itemById id with
  | some i => s.item i
  | none => none

/-- Fpad: the pad factor of the captured pad (R62). Its record is always at hand; a pad that is not is a free value
(notes/assumptions/18.md). -/
def State.fpad (s : State) (id : Word32) : Nat :=
  match s.itemWithId id with
  | some i => if i.kind = .pad then i.padFactor else min maxFactor (Config.missingPadFactor id)
  | none => min maxFactor (Config.missingPadFactor id)

/-- Flot: the lot factor of the lot captured as lot id A; 4096 when none was captured, or no live LOT holds the id
(R62, R95). -/
def State.flot (s : State) : Option Word32 → Nat
  | none => 4096
  | some id =>
    match s.itemWithId id with
    | some i => if i.kind = .lot then i.lotFactor else 4096
    | none => 4096

/-- What a stroke debit came to (R96). -/
structure Debit where
  state : State
  accepted : Bool
  supplyLoss : Bool

/-- A stroke debit of volume `v` on a feed (R96): accepted when the mounted lot holds enough; refused on a lot that does
not, which empties it; refused with no lot mounted. A supply loss is to be reported at every refusal, and when an accepted
debit newly sets EMPTY (R93, R160). -/
def State.debit (s : State) (f : Feed) (v : Nat) : Debit :=
  match s.lotOn f with
  | none => ⟨s, false, true⟩
  | some i =>
    match s.item i with
    | none => ⟨s, false, true⟩
    | some lot =>
      if v ≤ lot.volume then
        let taken := { lot.addUsage v with volume := lot.volume - v }
        let after := { taken with flags := { taken.flags with empty := taken.flags.empty || taken.isEmpty } }
        ⟨s.rewriteItem i lot after, true, after.flags.empty && !lot.flags.empty⟩
      else
        let after := { lot with volume := 0, flags := { lot.flags with empty := true } }
        ⟨s.rewriteItem i lot after, false, true⟩

/-- A lot ages by one minute (R91). -/
def Item.ageByMinute (i : Item) : Item :=
  if i.kind = .lot then
    let older := { i with age := min 65535 (i.age + 1) }
    { older with flags := { older.flags with expired := older.flags.expired || older.isExpired } }
  else i

end Sys2Proof.Machine
end

