-- ==== Sys2Proof/Machine/Steps.lean ====
section
/-! DEFINITION. Start attempts, step start, holds, supply losses, wear stops and step end: the operations that several blocks
act in (R28 to R35, R44 to R46, R93, R134 to R137, R156 to R160). -/

namespace Sys2Proof.Machine

/-! ### Start attempts (R28 to R31) -/

/-- Whether an item of a kind is mounted at a position without a condition flag (R30). -/
def State.sound (s : State) (kind : ItemKind) (pos : Position) : Bool :=
  match s.mountedItem kind pos with
  | some i => !i.flags.any
  | none => false

/-- The record of the lot mounted on a feed. -/
def State.lotRecordOn (s : State) (f : Feed) : Option Item :=
  match s.lotOn f with
  | some i => s.item i
  | none => none

/-- Whether a feed a step uses carries a lot with neither EXPIRED nor EMPTY (condition 8 of R30, condition 4 of R163). -/
def State.goodLot (s : State) (st : StepProgram) (f : Feed) : Bool :=
  !s.stepUses st f ||
    match s.lotRecordOn f with
    | some i => !(i.flags.expired || i.flags.empty)
    | none => false

/-- Whether a step is conditioned (condition 6 of R30). -/
def Conditioning.isNone : Conditioning → Bool
  | .none => true
  | .inSitu _ => false
  | .exSitu _ _ => false

/-- The reason of the first start condition that fails, in the order of R30; none when every condition holds. R134 says of the
attempt after a hand-off that it fails with CONDITIONING, also where an earlier condition fails; the order of R30 is the
model's choice there (notes/assumptions/28.md). -/
def State.startFailure (s : State) (h : Head) (st : StepProgram) : Option StartBlock :=
  if s.tripLatch then some .trip
  else if s.carousel.state ≠ .stopped then some .carousel
  else if (s.rotation.get st.platen).stall || s.headFault h then some .fault
  else if !s.sound .pad (.platen st.platen) then some .pad
  else if !s.sound .ring (.head h) then some .ring
  else if !st.conditioning.isNone && !s.sound .disk (.platen st.platen) then some .disk
  else if (s.arms.get st.platen).busy then some .conditioning
  else if !(s.goodLot st .a && s.goodLot st .b) then some .lot
  else none

/-- The id of the item of a kind mounted at a position; 0, which is no item's id, when there is none. -/
def State.mountedId (s : State) (kind : ItemKind) (pos : Position) : Word32 :=
  match s.mountedItem kind pos with
  | some i => i.id
  | none => 0

/-- The id of the lot on a feed captured at a step start when the blend uses the feed (R34). -/
def State.captureLot (s : State) (st : StepProgram) (f : Feed) : Option Word32 :=
  if s.stepUses st f then (s.lotRecordOn f).map Item.id else none

/-- The live progress at a step start (R8, R34). -/
def State.freshLive (s : State) (h : Head) (st : StepProgram) : LiveProgress :=
  { acc := PerZone.all 0, complete := PerZone.all false, revolutions := 0, polishTime := 0, remainder := 0,
    timerFrom := s.clock, settleLeft := st.settle, firstRevolution := true,
    pad := s.mountedId .pad (.platen st.platen), lotA := s.captureLot st .a, lotB := s.captureLot st .b,
    ring := s.mountedId .ring (.head h), supplyShort := false, conditioningIncomplete := false }

/-- The CU at a step start: in-situ sweeping begins when the step is IN_SITU (R35, R132). -/
def State.conditionStart (s : State) (st : StepProgram) : State :=
  match st.conditioning with
  | .inSitu q => s.startInSitu st.platen q
  | .exSitu _ _ => s
  | .none => s

/-- A step starts (R34, R35): the record, then the ZPC, the SDU, the CU and the ring's usage. -/
def State.startStep (s : State) (i : PassSlot) (r : Pass) (h : Head) (st : StepProgram) : State :=
  let started := s.setPass i
    (some { r with state := .polishing, startBlock := none, live := some (s.freshLive h st) })
  let served := ((started.driveHead h st (PerZone.all false)).startDispensing st.platen st.blendRow).conditionStart st
  served.addUsageOf (served.mounted .ring (.head h)) 1

/-- Whether a pass is eligible for a start attempt (R28). -/
def Pass.eligible (k : Fin 4) (r : Pass) : Bool := decide (r.state = .waiting) && (r.seat k).isSome

/-- A start attempt for the pass of a slot, when it is eligible (R28, R30, R31): the step starts, or the reason of the first
failing condition is written. -/
def State.attempt (s : State) (i : PassSlot) : State :=
  match s.pass i with
  | none => s
  | some r =>
    if r.eligible s.carousel.k then
      match r.head, r.step with
      | some h, some st =>
        match s.startFailure h st with
        | some reason => s.setPass i (some { r with startBlock := some reason })
        | none => s.startStep i r h st
      | _, _ => s
    else s

/-- Start attempts for the eligible passes that an event reaches, in slot order (R29). -/
def State.attemptEach (s : State) (reaches : Pass → Bool) : State :=
  passSlots.foldl (fun t i => if t.passHas i reaches then t.attempt i else t) s

/-- Start attempts for every eligible pass (R29). -/
def State.attemptAll (s : State) : State := s.attemptEach fun _ => true

/-- A start attempt for the eligible pass over a platen (R29). -/
def State.attemptOver (s : State) (p : Platen) : State :=
  s.attemptEach fun r => decide (r.seat s.carousel.k = some p)

/-- A start attempt for the eligible pass on a head (R29). -/
def State.attemptOn (s : State) (h : Head) : State := s.attemptEach fun r => decide (r.head = some h)

/-! ### Holds (R156, R157) -/

/-- The step timer stops where it stands (R36). R27 bounds the remainder at 99,999 µs: a hold taken in the very microsecond it
reaches 100,000, before the advance, freezes 100,000, and the advance comes after the resume: the model's choice
(notes/assumptions/27.md). -/
def Pass.freezeTimer (moment : Nat) (r : Pass) : Pass :=
  { r with live := r.live.map fun l => { l with remainder := r.remainderAt l moment, timerFrom := moment } }

/-- The blocks that serve a step act on the entry to HELD (R157): VENT, no dispensing, in-situ arm parked. -/
def State.suspendService (s : State) (r : Pass) : State :=
  match r.head, r.step with
  | some h, some st => ((s.ventHead h).stopDispensing st.platen).parkInSitu st.platen
  | _, _ => s

/-- A hold cause is added to the pass of a slot (R156, R157): a POLISHING pass becomes HELD and is reported; a HELD pass adds
the cause to its set; any other pass is not reached. -/
def State.addCause (s : State) (i : PassSlot) (c : HoldCause) : State :=
  match s.pass i with
  | none => s
  | some r =>
    match r.state with
    | .polishing =>
      (s.setPass i (some { r.freezeTimer s.clock with state := .held, holds := HoldSet.empty.add c })).suspendService r
    | .held => s.setPass i (some { r with holds := r.holds.add c })
    | .staged => s
    | .waiting => s
    | .ended => s

/-- A hold cause is added to the pass a lookup found, if it found one. -/
def State.addCauseOf (s : State) (found : Option PassSlot) (c : HoldCause) : State :=
  match found with
  | some i => s.addCause i c
  | none => s

/-- Whether a supply loss on a feed reaches a pass: it runs and its current step's blend row uses the feed (R160). -/
def State.reachedBy (s : State) (f : Feed) (r : Pass) : Bool :=
  r.running &&
    match r.step with
    | some st => s.stepUses st f
    | none => false

/-- A supply loss on a feed (R160): every running pass whose blend uses the feed gains SUPPLY; FAULT is raised when the loss
adds SUPPLY to at least one pass that did not hold it. -/
def State.supplyLoss (s : State) (f : Feed) : State :=
  let newly := s.anyPass fun r => s.reachedBy f r && !r.holds.supply
  (passSlots.foldl (fun t i => if t.passHas i (s.reachedBy f) then t.addCause i .supply else t) s).raiseIf newly .fault

/-! ### The end of an arm's service (R135, R137) -/

/-- The ex-situ service ends (R135): the arm parks, the service becomes NONE, the count goes to 0 so the busy flag clears,
and the eligible pass over the platen gets a start attempt. -/
def State.endExSitu (s : State) (p : Platen) : State :=
  (s.setArm p { (s.arms.get p).park with service := .none, exSitu := 0 }).attemptOver p

/-- The wear stop (R137). -/
def State.wearStop (s : State) (p : Platen) : State :=
  match (s.arms.get p).service with
  | .none => s
  | .inSitu _ =>
    (s.setArm p { (s.arms.get p).park with service := .none }).updateLiveOn p fun l =>
      { l with conditioningIncomplete := true }
  | .exSitu _ => s.endExSitu p

/-- The report that WORN is newly set on the disk of a platen (R93, R137): a SWEEPING arm acts at its next completion, a
PARKED one at once. -/
def State.reportWear (s : State) (p : Platen) : State := if (s.arms.get p).sweeping then s else s.wearStop p

/-- Whether the disk mounted on a platen holds WORN (R129, R132, R134). -/
def State.diskWorn (s : State) (p : Platen) : Bool :=
  match s.mountedItem .disk (.platen p) with
  | some i => i.flags.worn
  | none => false

/-! ### Step end (R44 to R46, R134) -/

/-- The hand-off of a platen for ex-situ sweeps, by the first case of R134 that applies. -/
def State.handOff (s : State) (p : Platen) (q : Fin 4) (sweeps : Nat) : State :=
  if s.tripLatch then s
  else if (s.mounted .disk (.platen p)).isNone || s.diskWorn p then s
  else
    let served := s.setArm p
      { s.arms.get p with service := .exSitu q, exSitu := sweeps, direction := .outward, segment := 0 }
    if (s.rotation.get p).stall then served else served.beginSweep p

/-- The end cause of a pass that a step end ends (R9, R45). -/
def StepEnd.passEnd : StepEnd → PassEnd
  | .complete => .complete
  | .timeout => .stepTimeout
  | .aborted => .aborted

/-- Entry to ENDED (R9): end cause written, head removed, c set by R4, start block, holds and live progress gone. -/
def Pass.enterEnded (r : Pass) (cause : PassEnd) : Pass :=
  { r with
    state := .ended, endCause := some cause, head := none, current := r.results.length - 1, startBlock := none,
    holds := HoldSet.empty, live := none }

/-- The result of a step (R7, R44). -/
def LiveProgress.result (l : LiveProgress) (index : Nat) (cause : StepEnd) : StepResult :=
  { index, cause, revolutions := l.revolutions, polishTime := l.polishTime,
    removal := PerZone.tabulate fun z => reported (l.acc.get z), pad := l.pad, lotA := l.lotA, lotB := l.lotB,
    ring := l.ring, supplyShort := l.supplyShort, conditioningIncomplete := l.conditioningIncomplete }

/-- Whether a step end moves the pass on to its next step: COMPLETE with steps remaining (R45). -/
def Pass.movesOn (r : Pass) (cause : StepEnd) : Bool := decide (cause = .complete ∧ r.current + 1 < r.steps.length)

/-- The record after a step end (R44, R45). -/
def Pass.closeStep (r : Pass) (l : LiveProgress) (cause : StepEnd) : Pass :=
  let closed := { r with results := r.results ++ [l.result r.current cause], live := none, holds := HoldSet.empty }
  if r.movesOn cause then { closed with state := .waiting, current := r.current + 1, startBlock := none }
  else closed.enterEnded cause.passEnd

/-- The blocks that served a step act on its end (R44): VENT, no dispensing, in-situ sweeping stopped. -/
def State.endService (s : State) (h : Head) (st : StepProgram) : State :=
  let stopped := (s.ventHead h).stopDispensing st.platen
  match st.conditioning with
  | .inSitu _ => stopped.endInSitu st.platen
  | .exSitu _ _ => stopped
  | .none => stopped

/-- The ex-situ hand-off of a step end, when the step is EX_SITU and did not end ABORTED (R46). -/
def State.handOffAfter (s : State) (st : StepProgram) (cause : StepEnd) : State :=
  match st.conditioning with
  | .exSitu q n => if cause = .aborted then s else s.handOff st.platen q n
  | .inSitu _ => s
  | .none => s

/-- The running step of the pass of a slot ends with a cause (R44 to R46). -/
def State.endStep (s : State) (i : PassSlot) (cause : StepEnd) : State :=
  match s.pass i with
  | none => s
  | some r =>
    match r.live, r.step, r.head with
    | some l, some st, some h =>
      let closed := ((s.setPass i (some (r.closeStep l cause))).raise .stepEnd).raiseIf (!r.movesOn cause) .passEnd
      let handed := (closed.endService h st).handOffAfter st cause
      if r.movesOn cause then handed.attempt i else handed
    | _, _, _ => s

/-- What the step timer ends a step with (R37, R20). -/
def EndpointMode.timerEnd : EndpointMode → StepEnd
  | .time => .complete
  | .removal => .timeout
  | .external => .timeout

end Sys2Proof.Machine
end

