-- ==== Sys2Proof/Machine/Removal.lean ====
section
/-! DEFINITION. Accepted index edges and credited revolutions (R52, R57 to R67, R38 to R41). -/

namespace Sys2Proof.Machine

/-- Two Q12 factors combined: the product ÷ 4096, rounded down, limited (R63). -/
def combine (x y : Nat) : Nat := min maxFactor (x * y / 4096)

/-- The combined factor F of a credited revolution (R63). -/
def combinedFactor (fpad flot fsup fgl : Nat) : Nat := combine (combine (combine fpad flot) fsup) fgl

/-- The base removal of a zone: P × L × K ÷ 65,536, rounded down (R64). -/
def baseRemoval (pressure path preston : Nat) : Nat := pressure * path * preston / 65536

/-- The increment of a zone: base × F to nearest, ties up (R65). -/
def increment (base factor : Nat) : Nat := (base * factor + 2048) / 4096

/-- The top of a zone accumulator (R66). -/
def maxAcc : Nat := 2 ^ 40 - 1

/-- Stages 1 and 2 of a crediting (R59): the increments and the revolution count. -/
def LiveProgress.credit (l : LiveProgress) (st : StepProgram) (pressures : PerZone Nat) (factor : Nat) : LiveProgress :=
  { l with
    acc := PerZone.tabulate fun z =>
      min maxAcc (l.acc.get z + increment (baseRemoval (pressures.get z) (st.zones.get z).path st.preston) factor)
    revolutions := min 65535 (l.revolutions + 1) }

/-- The zone-complete flags after an endpoint test (R39). -/
def LiveProgress.testZones (l : LiveProgress) (st : StepProgram) : LiveProgress :=
  { l with
    complete := PerZone.tabulate fun z =>
      l.complete.get z || decide (0 < (st.zones.get z).target ∧ (st.zones.get z).target ≤ reported (l.acc.get z)) }

/-- Whether every targeted zone is complete (R40). -/
def LiveProgress.allComplete (l : LiveProgress) (st : StepProgram) : Bool :=
  zones.all fun z => decide ((st.zones.get z).target = 0) || l.complete.get z

/-- Stages 4 and 5 of a crediting (R59): the endpoint test (R38 to R41), then the setpoint update when the step goes on
(R80). -/
def State.testAndSteer (s : State) (i : PassSlot) (r : Pass) (l : LiveProgress) (st : StepProgram) (h : Head) : State :=
  let tested := l.testZones st
  let written := s.setPass i (some { r with live := some tested })
  if st.mode = .removal ∧ tested.allComplete st then written.endStep i .complete else written.steerHead h st tested

/-- A normal edge credits the pass of a slot (R58 to R60), with the closed pressures, the supply ratio and the glaze factor of
the revolution. -/
def State.credit (s : State) (i : PassSlot) (pressures : PerZone Nat) (fsup fgl : Nat) : State :=
  match s.pass i with
  | none => s
  | some r =>
    match r.live, r.step, r.head with
    | some l, some st, some h =>
      if l.firstRevolution then s.setPass i (some { r with live := some { l with firstRevolution := false } })
      else
        let credited := l.credit st pressures (combinedFactor (s.fpad l.pad) (s.flot l.lotA) fsup fgl)
        if r.state = .held then s.setPass i (some { r with live := some credited })
        else
          let settled := { credited with settleLeft := credited.settleLeft - 1 }
          (s.addUsageOf (s.itemById l.pad) 1).testAndSteer i r settled st h
    | _, _, _ => s

/-- The windows of the head over a platen closed and restarted (R52, R57). -/
def State.closeWindows (s : State) (p : Platen) : State :=
  let h := headOver s.carousel.k p
  { s with windows := s.windows.set h (PerZone.tabulate fun z => ((s.windows.get h).get z).close) }

/-- The pressures of the revolution an edge of a platen ends (R57). -/
def State.closingPressures (s : State) (p : Platen) : PerZone Nat :=
  PerZone.tabulate fun z => ((s.windows.get (headOver s.carousel.k p)).get z).closingPressure

/-- The stall time (R52, R53). -/
def stallTime : Nat := 8000000

/-- The actions of every accepted edge (R52): reference, stall timer, windows, glaze count, supply revolution. -/
def State.acceptEdge (s : State) (p : Platen) : State :=
  let timed := s.setRotation p
    { s.rotation.get p with reference := some s.timeBase, stallTimer := some (s.clock + stallTime) }
  let closed := timed.closeWindows p
  (closed.setArm p (closed.arms.get p).raiseGlaze).closeSupply p

/-- The kinds of rising edge (R49 to R54). -/
inductive EdgeKind where
  | bounce
  | first
  | normal (period : Word32)
  | slow (period : Word32)
  | stallClearing (period : Word32)
  deriving DecidableEq, Repr

/-- The kind of a rising edge captured at a time-base value (R49 to R51, R54). -/
def edgeKind (x : Rotation) (capture : Word32) : EdgeKind :=
  match x.reference with
  | none => .first
  | some reference =>
    let period := capture - reference
    if x.stall then .stallClearing period
    else if period.toNat < 100000 then .bounce
    else if period.toNat ≤ 6000000 then .normal period
    else .slow period

/-- The period a stall-clearing edge writes: at least 8,000,000 (R54). -/
def stallPeriod (period : Word32) : Word32 := if period.toNat < 8000000 then 8000000#32 else period

/-- The last period of a platen written (R51, R54). -/
def State.writePeriod (s : State) (p : Platen) (period : Word32) : State :=
  s.setRotation p { s.rotation.get p with lastPeriod := some period }

/-- An EX_SITU arm paused by a stall sweeps again when the stall clears (R136). -/
def State.resumeSweeps (s : State) (p : Platen) : State :=
  let a := s.arms.get p
  if a.service.isExSitu && !a.sweeping then s.beginSweep p else s

/-- A rising edge of a platen's index input, captured now (R49 to R60). -/
def State.risingIndexEdge (s : State) (p : Platen) : State :=
  match edgeKind (s.rotation.get p) s.timeBase with
  | .bounce => s
  | .first => s.acceptEdge p
  | .slow period => (s.writePeriod p period).acceptEdge p
  | .stallClearing period =>
    let cleared := (s.writePeriod p (stallPeriod period)).setRotation p
      { (s.writePeriod p (stallPeriod period)).rotation.get p with stall := false }
    ((cleared.acceptEdge p).attemptOver p).resumeSweeps p
  | .normal period =>
    let accepted := (s.writePeriod p period).acceptEdge p
    match accepted.runningOn p with
    | some i =>
      accepted.credit i (s.closingPressures p) (s.supply.get p).closingRatio
        (glazeFactor (s.glazeSettings.get p) (s.arms.get p).glaze)
    | none => accepted

end Sys2Proof.Machine
end

