-- ==== Sys2Proof/Machine/Layouts.lean ====
section
/-! DEFINITION. The layouts of records and settings on the link and in the settings image (R25, R26, R84, R86, R106, R125,
R141, R177, R178, R182). -/

namespace Sys2Proof.Machine

/-- One byte. -/
def byte (v : Nat) : Byte := BitVec.ofNat 8 v

/-- A list brought to a length by cutting it or filling it with a byte. -/
def padTo (n : Nat) (fill : Byte) (bs : List Byte) : List Byte := (bs ++ List.replicate n fill).take n

/-- An id, 0 when absent (R25, R26). -/
def idBytes : Option Word32 → List Byte
  | some id => leBytes 4 id.toNat
  | none => leBytes 4 0

/-! ### Passes (R25, R26) -/

/-- A zone of a step program (R25). -/
def ZoneProgram.bytes (z : ZoneProgram) : List Byte := leBytes 2 z.base ++ leBytes 2 z.target ++ leBytes 2 z.path

/-- A step program in 39 bytes (R25). -/
def StepProgram.bytes (s : StepProgram) : List Byte :=
  [byte s.platen.number, byte s.mode.code] ++ leBytes 2 s.timeLimit ++ leBytes 2 s.preston ++ [byte s.blendRow.val] ++
    [byte s.conditioning.fields.1, byte s.conditioning.fields.2.1, byte s.conditioning.fields.2.2] ++
    leBytes 2 s.ringPressure ++ [byte s.settle, byte s.gain, byte s.slew] ++
    (s.zones.toList.map ZoneProgram.bytes).flatten

/-- End causes of a step (R25). -/
def StepEnd.code : StepEnd → Nat
  | .complete => 0
  | .timeout => 1
  | .aborted => 2

/-- A step result in 35 bytes (R25). -/
def StepResult.bytes (r : StepResult) : List Byte :=
  [byte r.index, byte r.cause.code] ++ leBytes 2 r.revolutions ++ leBytes 2 r.polishTime ++
    (r.removal.toList.map (leBytes 3)).flatten ++ leBytes 4 r.pad.toNat ++ idBytes r.lotA ++ idBytes r.lotB ++
    leBytes 4 r.ring.toNat ++ [byte (flagBit r.supplyShort 0 + flagBit r.conditioningIncomplete 1)]

/-- Pass states (R14, R26). -/
def PassState.code : PassState → Nat
  | .staged => 0
  | .waiting => 1
  | .polishing => 2
  | .held => 3
  | .ended => 4

/-- Pass end causes, 0xFF when absent (R26). -/
def passEndCode : Option PassEnd → Nat
  | none => 0xFF
  | some .complete => 0
  | some .stepTimeout => 1
  | some .aborted => 2

/-- A head, 0xFF when absent (R26). -/
def headCode : Option Head → Nat
  | none => 0xFF
  | some h => h.number

/-- Start blocks (R26). -/
def startBlockCode : Option StartBlock → Nat
  | none => 0
  | some .trip => 1
  | some .carousel => 2
  | some .fault => 3
  | some .pad => 4
  | some .ring => 5
  | some .disk => 6
  | some .conditioning => 7
  | some .lot => 8

/-- Live progress in 42 bytes (R26). -/
def LiveProgress.bytes (l : LiveProgress) : List Byte :=
  (l.acc.toList.map (leBytes 5)).flatten ++
    [byte (flagBit l.complete.z0 0 + flagBit l.complete.z1 1 + flagBit l.complete.z2 2 + flagBit l.complete.z3 3 +
      flagBit l.firstRevolution 4 + flagBit l.supplyShort 5 + flagBit l.conditioningIncomplete 6)] ++
    leBytes 2 l.revolutions ++ leBytes 2 l.polishTime ++ [byte l.settleLeft] ++ leBytes 4 l.pad.toNat ++ idBytes l.lotA ++
    idBytes l.lotB ++ leBytes 4 l.ring.toNat

/-- The 12-byte head of a lookup response (R26). -/
def Pass.headBytes (i : PassSlot) (r : Pass) : List Byte :=
  [byte i.val] ++ leBytes 4 r.tag.toNat ++
    [byte r.state.code, byte (headCode r.head), byte (passEndCode r.endCause), byte r.holds.code,
      byte (startBlockCode r.startBlock), byte r.steps.length, byte r.current]

/-- A lookup response (R26). -/
def Pass.bytes (i : PassSlot) (r : Pass) : List Byte :=
  r.headBytes i ++ (r.steps.map StepProgram.bytes).flatten ++ [byte r.results.length] ++
    (r.results.map StepResult.bytes).flatten ++
    match r.live with
    | some l => byte 1 :: l.bytes
    | none => [byte 0]

/-! ### Items (R106) -/

/-- A position code, 0xFF when absent (R100, R106). -/
def positionCode : Option Position → Nat
  | some p => p.code
  | none => 0xFF

/-- An item record in 28 bytes (R106). -/
def Item.bytes (j : ItemSlot) (i : Item) : List Byte :=
  [byte j.val] ++ leBytes 4 i.id.toNat ++ [byte i.kind.code, byte (positionCode i.position), byte i.flags.code] ++
    leBytes 4 i.usage ++ leBytes 4 i.limit ++ leBytes 2 i.f0 ++ leBytes 2 i.slope ++ leBytes 4 i.volume ++
    leBytes 2 i.age ++ leBytes 2 i.potLife

/-! ### Head settings (R84, R86) -/

/-- Channel settings in 7 bytes (R84). -/
def ChannelSettings.bytes (c : ChannelSettings) : List Byte :=
  leBytes 2 c.wmin ++ leBytes 2 c.wmax ++ leBytes 2 c.span ++ [byte c.zero]

/-- Head settings in 42 bytes (R84, R182). -/
def HeadSettings.bytes (h : HeadSettings) : List Byte :=
  [byte h.drive.deadband] ++ leBytes 2 h.drive.kp ++ leBytes 2 h.drive.pulseMax ++ leBytes 2 h.drive.deadTime ++
    (h.chans.toList.map ChannelSettings.bytes).flatten

/-- A pressure in 2 bytes, 0xFFFF when absent (R86). -/
def pressureBytes : Option Nat → List Byte
  | some p => leBytes 2 p
  | none => leBytes 2 0xFFFF

/-- The live state of a channel in 6 bytes (R86). -/
def Channel.bytes (c : Channel) : List Byte :=
  [byte (match c.mode with | .vent => 0 | .drive => 1)] ++ pressureBytes c.setpoint ++ pressureBytes c.latest ++
    [byte (flagBit c.fault 0 + flagBit c.fill.isOpen 1 + flagBit c.vent.isOpen 2)]

/-! ### Slurry (R109, R125) -/

/-- A blend row in 5 bytes (R109). -/
def BlendRow.bytes (r : BlendRow) : List Byte := leBytes 2 r.flow ++ [byte r.partA, byte r.partB, byte r.partC]

/-- A phase table entry (R118, R125). -/
def phaseCode : Option Platen → Nat
  | some p => p.number
  | none => 3

/-- The 32 entries of a phase table, 0xFF beyond its cycle length (R125, R182). -/
def phaseBytes (t : PhaseTable) : List Byte := padTo 32 0xFF#8 (t.map fun e => byte (phaseCode e))

/-- The load state (R125). -/
def loadCode : Option (PerFeed Bool) → Nat
  | none => 0
  | some taken => 1 + flagBit taken.a 1 + flagBit taken.b 2 + flagBit taken.c 3

/-- A feed in 34 bytes (R125). -/
def FeedUnit.bytes (f : FeedUnit) : List Byte := [byte f.active.length, byte f.pointer] ++ phaseBytes f.active

/-- A platen's supply in 12 bytes (R125). -/
def PlatenSupply.bytes (x : PlatenSupply) : List Byte :=
  (match x.dispensing with
    | some r => [byte 1, byte r.val]
    | none => [byte 0, byte 0xFF]) ++
    [byte x.strokes.a, byte x.strokes.b, byte x.strokes.c] ++ leBytes 2 x.demanded ++ leBytes 2 x.granted ++
    leBytes 2 x.lastRatio ++ [byte (x.shortRun + flagBit x.short 2)]

/-- The blend rows in order (R125, R182). -/
def State.rowsBytes (s : State) : List Byte := (s.rows.toList.map BlendRow.bytes).flatten

/-- The stroke volumes of feeds A, B, C (R125, R182). -/
def State.volumeBytes (s : State) : List Byte :=
  leBytes 2 s.feeds.a.volume ++ leBytes 2 s.feeds.b.volume ++ leBytes 2 s.feeds.c.volume

/-- The 218 bytes of SLURRY-READ (R125). -/
def State.slurryBytes (s : State) : List Byte :=
  s.rowsBytes ++ s.volumeBytes ++ [byte (loadCode s.load), byte s.staged.length] ++ phaseBytes s.staged ++
    s.feeds.a.bytes ++ s.feeds.b.bytes ++ s.feeds.c.bytes ++ s.supply.p0.bytes ++ s.supply.p1.bytes ++ s.supply.p2.bytes

/-! ### Conditioning (R139, R141) -/

/-- A segment in 4 bytes (R139). -/
def Segment.bytes (g : Segment) : List Byte := leBytes 2 g.dwell ++ leBytes 2 g.force

/-- A profile in 41 bytes, 0 beyond its segment count (R141, R182). -/
def profileBytes (pr : Profile) : List Byte :=
  byte pr.length :: padTo 40 0#8 (pr.map Segment.bytes).flatten

/-- The four profiles (R141, R182). -/
def State.profilesBytes (s : State) : List Byte := (s.profiles.toList.map profileBytes).flatten

/-- Glaze settings in 3 bytes (R141, R182). -/
def GlazeSettings.bytes (g : GlazeSettings) : List Byte := byte g.rate :: leBytes 2 g.floor

/-- The glaze settings of the three platens (R141, R182). -/
def State.glazeBytes (s : State) : List Byte :=
  s.glazeSettings.p0.bytes ++ s.glazeSettings.p1.bytes ++ s.glazeSettings.p2.bytes

/-- Service and its profile, 0xFF when the service is NONE (R141). -/
def Service.bytes : Service → List Byte
  | .none => [byte 0, byte 0xFF]
  | .inSitu q => [byte 1, byte q.val]
  | .exSitu q => [byte 2, byte q.val]

/-- An arm in 9 bytes (R141). -/
def Arm.bytes (a : Arm) : List Byte :=
  [byte (if a.sweeping then 1 else 0)] ++ a.service.bytes ++
    [byte a.segment, byte (match a.direction with | .outward => 0 | .inward => 1), byte a.exSitu] ++ leBytes 2 a.glaze ++
    [byte (flagBit a.busy 0)]

/-- The 200 bytes of CONDITIONING-READ (R141). -/
def State.conditioningBytes (s : State) : List Byte :=
  s.profilesBytes ++ s.glazeBytes ++ s.arms.p0.bytes ++ s.arms.p1.bytes ++ s.arms.p2.bytes

/-! ### STATUS and IDENTIFY (R177, R178) -/

/-- A cause set in 2 bytes (R174). -/
def causeBytes (c : CauseSet) : List Byte := leBytes 2 c.toNat

/-- Carousel states (R177). -/
def CarouselState.code : CarouselState → Nat
  | .stopped => 0
  | .indexing => 1
  | .lost => 2

/-- The five bytes of a platen in STATUS (R177). -/
def State.platenStatus (s : State) (p : Platen) : List Byte :=
  byte (flagBit (s.rotation.get p).stall 0 + flagBit (s.arms.get p).sweeping 1 + flagBit (s.supply.get p).short 2 +
      flagBit (s.arms.get p).busy 3) ::
    match (s.rotation.get p).lastPeriod with
    | some t => leBytes 4 t.toNat
    | none => leBytes 4 0

/-- The two bytes of a head in STATUS (R177). -/
def State.headStatus (s : State) (h : Head) : List Byte :=
  let ch := s.channels.get h
  [byte (match s.holderOf h with | some i => i.val | none => 0xFF),
    byte (flagBit ch.zones.z0.fault 0 + flagBit ch.zones.z1.fault 1 + flagBit ch.zones.z2.fault 2 +
      flagBit ch.zones.z3.fault 3 + flagBit ch.rr.fault 4)]

/-- Save states (R177). -/
def SaveState.code : SaveState → Nat
  | .none => 0
  | .writing _ => 1
  | .done => 2
  | .failed => 3

/-- The 33 bytes of STATUS (R177). -/
def State.statusBytes (s : State) : List Byte :=
  causeBytes s.attnPending ++ causeBytes s.attnMask ++
    [byte (flagBit s.tripLatch 0 + flagBit s.estop 1), byte s.carousel.state.code, byte s.carousel.k.val] ++
    s.platenStatus .p0 ++ s.platenStatus .p1 ++ s.platenStatus .p2 ++
    s.headStatus .h0 ++ s.headStatus .h1 ++ s.headStatus .h2 ++ s.headStatus .h3 ++
    [byte (flagBit s.corrupt 0 + flagBit s.overrun 1),
      byte (flagBit (decide (s.startUp = .ready)) 0 + flagBit s.defaulted 1), byte s.save.code]

/-- The 20 bytes of IDENTIFY (R178). -/
def State.identityBytes (s : State) : List Byte :=
  leBytes 2 0x0043 ++
    [byte 3, byte (if s.fastLink then 1 else 0), byte 4, byte 3, byte 24, byte 4, byte 16, byte 8, byte 32, byte 4,
      byte 10, byte 2] ++ leBytes 2 1020 ++ leBytes 2 2048 ++ leBytes 2 20

/-! ### The settings image (R182) -/

/-- The length of the image body (R182). -/
def bodyLength : Nat := 422

/-- The body of the image that holds the settings as they stand (R182, R183): its phase table is the staged one. -/
def State.imageBody (s : State) : List Byte :=
  s.headSettings.h0.bytes ++ s.headSettings.h1.bytes ++ s.headSettings.h2.bytes ++ s.headSettings.h3.bytes ++
    s.rowsBytes ++ (byte s.staged.length :: phaseBytes s.staged) ++ s.volumeBytes ++ s.profilesBytes ++ s.glazeBytes ++
    causeBytes s.attnMask

/-- The checksum of a body: the sum of its bytes modulo 65,536 (R181). -/
def bodySum (body : List Byte) : Nat := (body.map BitVec.toNat).sum % 65536

/-- The whole image: header and body (R182, R183). -/
def State.image (s : State) : List Byte :=
  leBytes 2 bodyLength ++ [byte 1] ++ leBytes 2 (bodySum s.imageBody) ++ s.imageBody

end Sys2Proof.Machine
end

