-- ==== Sys2Proof/Machine/Link.lean ====
section
/-! DEFINITION. The station link below the requests: characters, frames, CRC, buffers, the taking of a request and its
response (R166 to R173). -/

namespace Sys2Proof.Machine

/-! ### CRC (R168) -/

/-- One bit enters the CRC register: generator x^16 + x^12 + x^5 + 1 (R168). -/
def crcBit (reg : BitVec 16) : BitVec 16 := if reg.msb then (reg <<< 1) ^^^ 0x1021#16 else reg <<< 1

/-- `n` bits. -/
def crcBits : Nat → BitVec 16 → BitVec 16
  | 0, reg => reg
  | n + 1, reg => crcBits n (crcBit reg)

/-- One byte enters, most significant bit first (R168). -/
def crcByte (reg : BitVec 16) (b : Byte) : BitVec 16 := crcBits 8 (reg ^^^ (b.zeroExtend 16 <<< 8))

/-- The CRC of bytes: register preset to 0xFFFF, result not inverted (R168). -/
def crc (bs : List Byte) : BitVec 16 := bs.foldl crcByte 0xFFFF#16

/-! ### Characters (R166) -/

/-- The count of ones of a byte, as a parity. -/
def oddOnes (b : Byte) : Bool :=
  (b.getLsbD 0 ^^ b.getLsbD 1) ^^ (b.getLsbD 2 ^^ b.getLsbD 3) ^^ (b.getLsbD 4 ^^ b.getLsbD 5) ^^
    (b.getLsbD 6 ^^ b.getLsbD 7)

/-- A parity error: with even parity the parity bit makes the count of ones even (R166, R169). -/
def parityError (c : LinkChar) : Bool := oddOnes c.data != c.parity

/-- A character that arrived without a parity error and with its stop bit (R169). -/
def charGood (c : LinkChar) : Bool := !parityError c && c.stop

/-- A byte as a character without error (R166). -/
def charOf (b : Byte) : LinkChar := { data := b, parity := oddOnes b, stop := true }

/-- A byte on the line: start bit, eight data bits least significant first, even parity, stop bit (R166). -/
def charBits (b : Byte) : List Bool :=
  [false, b.getLsbD 0, b.getLsbD 1, b.getLsbD 2, b.getLsbD 3, b.getLsbD 4, b.getLsbD 5, b.getLsbD 6, b.getLsbD 7,
    oddOnes b, true]

/-! ### Frames (R168, R172) -/

/-- Bytes followed by their CRC, least significant byte first. -/
def withCrc (bs : List Byte) : List Byte := bs ++ leBytes 2 (crc bs).toNat

/-- A request frame (R168). -/
def Request.frame (r : Request) : List Byte :=
  withCrc (leBytes 2 (r.payload.length + 2) ++ [r.tag, r.code] ++ r.payload)

/-- A response frame (R172). -/
def Response.frame (r : Response) : List Byte :=
  withCrc (leBytes 2 (r.payload.length + 2) ++ [r.tag, byte r.status.code] ++ r.payload)

/-- A response as LTX shows it bit time by bit time: the break, 16 low and 2 high, then the bytes with no idle between
them (R172). -/
def Response.lineBits (r : Response) : List Bool :=
  List.replicate 16 false ++ [true, true] ++ (r.frame.map charBits).flatten

/-- LEN of the frame being received (R168). -/
def frameLength (bytes : List Byte) : Nat := field bytes 0 2

/-- A LEN below 2 or above 1022 (R169), known once both LEN bytes are there. -/
def badLength (bytes : List Byte) : Bool :=
  decide (2 ≤ bytes.length) && !within 2 1022 (frameLength bytes)

/-- The frame is complete: LEN + 4 bytes have arrived (R168). -/
def frameDone (bytes : List Byte) : Bool := decide (2 ≤ bytes.length ∧ frameLength bytes + 4 ≤ bytes.length)

/-- A complete frame's CRC equals the one computed over it (R168). -/
def crcGood (bytes : List Byte) : Bool :=
  decide (field bytes (frameLength bytes + 2) 2 = (crc (bytes.take (frameLength bytes + 2))).toNat)

/-- The request a good frame carries (R168). -/
def requestOf (bytes : List Byte) : Request :=
  { tag := byte (field bytes 2 1), code := byte (field bytes 3 1), payload := (bytes.drop 4).take (frameLength bytes - 2) }

/-! ### Receiving (R167, R169, R170) -/

/-- A damaged frame or a stray byte: CORRUPT is latched and LINK is raised (R167, R169). -/
def State.markCorrupt (s : State) : State := { s with corrupt := true }.raise .link

/-- A frame is discarded and the receiver hunts (R167, R169). -/
def State.discardFrame (s : State) : State := { s with receiver := .hunting }.markCorrupt

/-- A good frame takes a FREE buffer as HELD; with none FREE it is lost, OVERRUN latched and LINK raised (R170). -/
def State.storeRequest (s : State) (r : Request) : State :=
  if s.buffers.length < 2 then { s with buffers := s.buffers ++ [.held r] }
  else { s with overrun := true }.raise .link

/-- A complete frame is judged (R168). -/
def State.judgeFrame (s : State) (bytes : List Byte) : State :=
  if crcGood bytes then { s with receiver := .hunting }.storeRequest (requestOf bytes) else s.discardFrame

/-- A character arrives (R167 to R169): stray while HUNTING; in RECEIVING it is added to the frame, which a parity or
framing error or a bad LEN discards and which its last byte completes. -/
def State.receive (s : State) (ch : LinkChar) : State :=
  match s.receiver with
  | .hunting => s.markCorrupt
  | .receiving bytes _ =>
    let grown := bytes ++ [ch.data]
    if !charGood ch then s.discardFrame
    else if badLength grown then s.discardFrame
    else if frameDone grown then s.judgeFrame grown
    else { s with receiver := .receiving grown s.clock }

/-- The end of a break (R167): a frame under way with at least one byte is discarded (R169), and a new frame begins. -/
def State.receiveBreak (s : State) : State :=
  let ended := match s.receiver with
    | .hunting => s
    | .receiving bytes _ => if bytes.isEmpty then s else s.markCorrupt
  { ended with receiver := .receiving [] s.clock }

/-! ### Taking a request (R171, R173) -/

/-- Whether a buffer is TAKEN (R170). -/
def isTaken : Buffer → Bool
  | .taken _ => true
  | .held _ => false
  | .sending _ => false

/-- The HELD request that completed first (R170: the order of completion is kept). -/
def firstHeld : List Buffer → Option Request
  | [] => none
  | .held r :: _ => some r
  | .taken _ :: rest => firstHeld rest
  | .sending _ :: rest => firstHeld rest

/-- What a take finds in the buffers: the HELD request that completed first, when no buffer is TAKEN (R171). -/
def takeable (bs : List Buffer) : Option Request := if bs.any isTaken then none else firstHeld bs

/-- Whether a response is on LTX (R170). -/
def isSending : Buffer → Bool
  | .sending _ => true
  | .held _ => false
  | .taken _ => false

/-- The taken request's buffer gets its response (R171 stages 3 and 4): it starts at once when the transmitter is idle, and
waits TAKEN otherwise. -/
def answer (resp : Response) (busy : Bool) : List Buffer → List Buffer
  | [] => []
  | .held _ :: rest => (if busy then .taken resp else .sending resp) :: rest
  | b :: rest => b :: answer resp busy rest

/-- The response of the request just taken (R171 stages 3 and 4). -/
def State.respond (s : State) (resp : Response) : State :=
  { s with buffers := answer resp (s.buffers.any isSending) s.buffers }

/-- The requests of the request table (10.7), UNKNOWN left out. -/
inductive RequestName where
  | status | identify | attnAck | attnMask | restart
  | passCreate | passLookup | passList | passBind | passAmend | passAbort | passRetire | passHold | passResume | tripClear
  | itemRegister | itemLookup | itemList | itemMount | itemDismount | itemAdjust | itemRetire
  | headWrite | headRead
  | blendWrite | feedWrite | phaseWrite | phaseLoad | slurryRead
  | profileWrite | platenWrite | conditioningRead
  | carouselIndex | carouselSync
  | settingsSave
  deriving DecidableEq, Repr

/-- The request a CODE names (10.7). -/
def RequestName.ofCode : Nat → Option RequestName
  | 0x01 => some .status
  | 0x02 => some .identify
  | 0x03 => some .attnAck
  | 0x04 => some .attnMask
  | 0x05 => some .restart
  | 0x10 => some .passCreate
  | 0x11 => some .passLookup
  | 0x12 => some .passList
  | 0x13 => some .passBind
  | 0x14 => some .passAmend
  | 0x15 => some .passAbort
  | 0x16 => some .passRetire
  | 0x17 => some .passHold
  | 0x18 => some .passResume
  | 0x19 => some .tripClear
  | 0x20 => some .itemRegister
  | 0x21 => some .itemLookup
  | 0x22 => some .itemList
  | 0x23 => some .itemMount
  | 0x24 => some .itemDismount
  | 0x25 => some .itemAdjust
  | 0x26 => some .itemRetire
  | 0x30 => some .headWrite
  | 0x31 => some .headRead
  | 0x38 => some .blendWrite
  | 0x39 => some .feedWrite
  | 0x3A => some .phaseWrite
  | 0x3B => some .phaseLoad
  | 0x3C => some .slurryRead
  | 0x40 => some .profileWrite
  | 0x41 => some .platenWrite
  | 0x42 => some .conditioningRead
  | 0x48 => some .carouselIndex
  | 0x49 => some .carouselSync
  | 0x58 => some .settingsSave
  | _ => none

/-- A request's own rule: its checks on the payload, then its action and response payload. A check that fails gives the
status (R173). -/
structure Handler (α : Type) where
  check : List Byte → State → Except Status α
  act : α → State → State × List Byte

/-- The taking of a request by its owner (R171, R173): the request is the one the buffers offer and its CODE names this
request; while LOADING it is answered NOT_READY; a check that fails answers its status with no payload and changes nothing;
otherwise it is acted on whole and answered OK. When the buffers offer no such request, nothing is taken
(notes/assumptions/4.md). -/
def State.serve {α : Type} (s : State) (name : RequestName) (rule : Handler α) : State :=
  match takeable s.buffers with
  | none => s
  | some req =>
    if RequestName.ofCode req.code.toNat = some name then
      if s.startUp = .loading then s.respond ⟨req.tag, .notReady, []⟩
      else
        match rule.check req.payload s with
        | .error status => s.respond ⟨req.tag, status, []⟩
        | .ok a => (rule.act a s).1.respond ⟨req.tag, .ok, (rule.act a s).2⟩
    else s

/-- The taking of a request whose CODE names no request: UNKNOWN, whatever the start-up state (R173). -/
def State.serveUnknown (s : State) : State :=
  match takeable s.buffers with
  | none => s
  | some req =>
    if RequestName.ofCode req.code.toNat = none then s.respond ⟨req.tag, .unknown, []⟩ else s

/-- The checks of a request whose payload is empty (R119, R125, R141, R144, R150, R155, R177 to R179, R183). -/
def emptyPayload (payload : List Byte) (rest : Except Status Unit) : Except Status Unit :=
  if payload.length ≠ 0 then .error .badLength else rest

/-! ### Sending (R170 to R172) -/

/-- A ready response starts once the transmitter is free (R171). -/
def startResponse : List Buffer → List Buffer
  | [] => []
  | .taken r :: rest => .sending r :: rest
  | .held r :: rest => .held r :: startResponse rest
  | .sending r :: rest => .sending r :: startResponse rest

/-- The last byte of the response on the line leaves, and its buffer becomes FREE (R170). -/
def endResponse (bs : List Buffer) : List Buffer := bs.filter fun b => !isSending b

/-- The last byte of the response on the line leaves: its buffer becomes FREE (R170), and the response ready behind it starts
in the same event (R171, 10.9 point 6). With no response on the line there is no such byte. -/
def nextResponse (bs : List Buffer) : List Buffer := if bs.any isSending then startResponse (endResponse bs) else bs

/-- The response on LTX, if the transmitter is not idle (R170, R172). -/
def sendingResponse : List Buffer → Option Response
  | [] => none
  | .sending r :: _ => some r
  | .held _ :: rest => sendingResponse rest
  | .taken _ :: rest => sendingResponse rest

end Sys2Proof.Machine
end

