-- ==== Sys2Proof/Machine/PassRequests.lean ====
section
/-! DEFINITION. The seven requests of the Pass Table (R10 to R24). -/

namespace Sys2Proof.Machine

/-- A live record in a slot named by a number below 24. -/
def State.liveSlot (s : State) (n : Nat) : Option (PassSlot × Pass) :=
  match indexBelow 24 n with
  | some i => (s.pass i).map fun r => (i, r)
  | none => none

/-- The checks of R10 for a payload of `length` bytes whose first is the slot: length, slot range and the rest of the range
checks, NOT_FOUND; then the request's own. -/
def slotChecks {α : Type} (length : Nat) (inRange : Bool) (payload : List Byte) (s : State)
    (own : PassSlot → Pass → Except Status α) : Except Status α :=
  if payload.length ≠ length then .error .badLength
  else if 23 < field payload 0 1 ∨ inRange = false then .error .badParam
  else match s.liveSlot (field payload 0 1) with
    | none => .error .notFound
    | some (i, r) => own i r

/-! ### PASS-CREATE (R11, R12) -/

/-- Whether a live record holds a wafer tag (R1, R11). -/
def State.tagLive (s : State) (tag : Word32) : Bool := s.anyPass fun r => decide (r.tag = tag)

/-- A new record (R12). -/
def freshPass (tag : Word32) (steps : List StepProgram) : Pass :=
  { tag, state := .staged, head := none, endCause := none, holds := HoldSet.empty, startBlock := none, current := 0,
    steps, results := [], live := none }

/-- The checks of PASS-CREATE, in order (R11). -/
def passCreateCheck (payload : List Byte) (s : State) : Except Status (PassSlot × Pass) :=
  let n := field payload 4 1
  let tag := wordField payload 0
  if payload.length < 5 then .error .badLength
  else if !within 1 4 n then .error .badParam
  else if payload.length ≠ 5 + 39 * n then .error .badLength
  else match readSteps n (payload.drop 5) with
    | none => .error .badParam
    | some steps =>
      if tag = 0 then .error .badParam
      else if s.tagLive tag then .error .duplicate
      else match s.freePassSlot with
        | none => .error .tableFull
        | some i => .ok (i, freshPass tag steps)

/-- PASS-CREATE (R11, R12). -/
def passCreateRule : Handler (PassSlot × Pass) :=
  { check := passCreateCheck
    act := fun a s => (s.setPass a.1 (some a.2), [byte a.1.val]) }

/-- PASS_CREATE (R11). -/
def execPassCreate (dt : Nat) (s : State) : Host.Outcome State Fault Refusal :=
  .next ((s.elapse dt).serve .passCreate passCreateRule)

/-! ### PASS-LOOKUP (R13) -/

/-- The checks of PASS-LOOKUP (R13). -/
def passLookupCheck (payload : List Byte) (s : State) : Except Status (PassSlot × Pass) :=
  if payload.length = 0 then .error .badLength
  else if field payload 0 1 = 0 then
    if payload.length ≠ 2 then .error .badLength
    else if 23 < field payload 1 1 then .error .badParam
    else match s.liveSlot (field payload 1 1) with
      | some a => .ok a
      | none => .error .notFound
  else if field payload 0 1 = 1 then
    if payload.length ≠ 5 then .error .badLength
    else if wordField payload 1 = 0 then .error .badParam
    else match s.findPass fun r => decide (r.tag = wordField payload 1) with
      | some i => match s.pass i with
        | some r => .ok (i, r)
        | none => .error .notFound
      | none => .error .notFound
  else .error .badParam

/-- PASS-LOOKUP (R13, R26). -/
def passLookupRule : Handler (PassSlot × Pass) :=
  { check := passLookupCheck, act := fun a s => (s, a.2.bytes a.1) }

/-- PASS_LOOKUP (R13). -/
def execPassLookup (dt : Nat) (s : State) : Host.Outcome State Fault Refusal :=
  .next ((s.elapse dt).serve .passLookup passLookupRule)

/-! ### PASS-LIST (R14) -/

/-- The entry of a listed record: slot, tag, state (R14). -/
def passEntry (i : PassSlot) (r : Pass) : List Byte := [byte i.val] ++ leBytes 4 r.tag.toNat ++ [byte r.state.code]

/-- The entries of the live records of a state, or of all (R14). -/
def State.passEntries (s : State) (filter : Option Nat) : List (List Byte) :=
  passSlots.filterMap fun i =>
    match s.pass i with
    | some r => if filter = none ∨ filter = some r.state.code then some (passEntry i r) else none
    | none => none

/-- The checks of PASS-LIST (R14): the filter. -/
def passListCheck (payload : List Byte) (_ : State) : Except Status (Option Nat) :=
  if payload.length = 0 then .ok none
  else if 1 < payload.length then .error .badLength
  else if 4 < field payload 0 1 then .error .badParam
  else .ok (some (field payload 0 1))

/-- PASS-LIST (R14). -/
def passListRule : Handler (Option Nat) :=
  { check := passListCheck
    act := fun filter s => (s, byte (s.passEntries filter).length :: (s.passEntries filter).flatten) }

/-- PASS_LIST (R14). -/
def execPassList (dt : Nat) (s : State) : Host.Outcome State Fault Refusal :=
  .next ((s.elapse dt).serve .passList passListRule)

/-! ### PASS-BIND (R15, R16) -/

/-- The checks of PASS-BIND after those of R10, in order (R15). -/
def bindChecks (h : Head) (s : State) (i : PassSlot) (r : Pass) : Except Status (PassSlot × Pass) :=
  if s.tripLatch then .error .tripped
  else if r.state ≠ .staged then .error .wrongState
  else if s.carousel.state ≠ .stopped then .error .busy
  else if stationOf s.carousel.k h ≠ 0 then .error .wrongState
  else if (s.holderOf h).isSome then .error .busy
  else .ok (i, { r with state := .waiting, head := some h, startBlock := none })

/-- The checks of PASS-BIND (R10, R15). -/
def passBindCheck (payload : List Byte) (s : State) : Except Status (PassSlot × Pass) :=
  slotChecks 2 (Head.ofNumber (field payload 1 1)).isSome payload s fun i r =>
    match Head.ofNumber (field payload 1 1) with
    | none => .error .badParam
    | some h => bindChecks h s i r

/-- PASS-BIND (R15, R16). -/
def passBindRule : Handler (PassSlot × Pass) :=
  { check := passBindCheck, act := fun a s => (s.setPass a.1 (some a.2), []) }

/-- PASS_BIND (R15). -/
def execPassBind (dt : Nat) (s : State) : Host.Outcome State Fault Refusal :=
  .next ((s.elapse dt).serve .passBind passBindRule)

/-! ### PASS-AMEND (R17 to R21) -/

/-- The new values an amend names (R17). -/
structure Amend where
  targets : Option (PerZone Nat)
  bases : Option (PerZone Nat)
  timeLimit : Option Nat
  gain : Option Nat

/-- The length the mask of an amend gives (R17). -/
def amendLength (mask : Nat) : Nat := 3 + maskedBytes mask 0 8 + maskedBytes mask 1 8 + maskedBytes mask 2 2 + maskedBytes mask 3 1

/-- Four two-byte values from an offset on. -/
def fourAt (payload : List Byte) (at_ : Nat) : PerZone Nat :=
  ⟨field payload at_ 2, field payload (at_ + 2) 2, field payload (at_ + 4) 2, field payload (at_ + 6) 2⟩

/-- The values of an amend payload, in the order of R17. -/
def readAmend (payload : List Byte) (mask : Nat) : Amend :=
  let baseAt := 3 + maskedBytes mask 0 8
  let timeAt := baseAt + maskedBytes mask 1 8
  let gainAt := timeAt + maskedBytes mask 2 2
  { targets := if maskBit mask 0 then some (fourAt payload 3) else none
    bases := if maskBit mask 1 then some (fourAt payload baseAt) else none
    timeLimit := if maskBit mask 2 then some (field payload timeAt 2) else none
    gain := if maskBit mask 3 then some (field payload gainAt 1) else none }

/-- Whether an optional value lies in its range. -/
def inRangeIfAny {α : Type} (f : α → Bool) : Option α → Bool
  | some x => f x
  | none => true

/-- The ranges of R17. -/
def Amend.inRange (a : Amend) : Bool :=
  inRangeIfAny (fun t => t.toList.all (within 0 60000)) a.targets && inRangeIfAny (fun b => b.toList.all (within 0 700)) a.bases &&
    inRangeIfAny (within 1 6000) a.timeLimit && inRangeIfAny (within 0 255) a.gain

/-- A step program with the named fields rewritten (R17, R18). -/
def Amend.apply (a : Amend) (st : StepProgram) : StepProgram :=
  { st with
    zones := PerZone.tabulate fun z =>
      { st.zones.get z with
        target := match a.targets with | some t => t.get z | none => (st.zones.get z).target
        base := match a.bases with | some b => b.get z | none => (st.zones.get z).base }
    timeLimit := match a.timeLimit with | some t => t | none => st.timeLimit
    gain := match a.gain with | some g => g | none => st.gain }

/-- A step program of the list rewritten. -/
def Pass.setStep (r : Pass) (n : Nat) (st : StepProgram) : Pass := { r with steps := r.steps.set n st }

/-- An accepted amend: its slot, the record with the step program rewritten, and whether the amended step is the current one
and gets a time limit. -/
structure AcceptedAmend where
  slot : PassSlot
  record : Pass
  newLimit : Option Nat

/-- The checks of PASS-AMEND after those of R10, in order (R17). -/
def amendChecks (step : Nat) (a : Amend) (i : PassSlot) (r : Pass) : Except Status AcceptedAmend :=
  match r.steps[step]? with
  | none => .error .badParam
  | some st =>
    if r.state = .ended ∨ step < r.current then .error .tooLate
    else if !(a.apply st).valid then .error .badParam
    else .ok { slot := i, record := r.setStep step (a.apply st), newLimit := if step = r.current then a.timeLimit else none }

/-- The checks of PASS-AMEND (R10, R17). -/
def passAmendCheck (payload : List Byte) (s : State) : Except Status AcceptedAmend :=
  let mask := field payload 2 1
  if payload.length < 3 then .error .badLength
  else
    slotChecks (amendLength mask)
      (decide (mask < 16 ∧ field payload 1 1 ≤ 3) && (readAmend payload mask).inRange) payload s
      (amendChecks (field payload 1 1) (readAmend payload mask))

/-- Whether a new time limit ends the running step of a record at once: it is at or below the polish time (R20). -/
def Pass.limitReached (r : Pass) : Option Nat → Bool
  | none => false
  | some limit =>
    match r.running, r.live with
    | true, some l => decide (limit ≤ l.polishTime)
    | _, _ => false

/-- The end a step's timer gives it (R37). -/
def Pass.timerEnd (r : Pass) : StepEnd :=
  match r.step with
  | some st => st.mode.timerEnd
  | none => .timeout

/-- The two bytes of an accepted amend's response: the state of the pass and its c, as the amend left them (R17). -/
def State.amendReply (s : State) (i : PassSlot) : List Byte :=
  match s.pass i with
  | some r => [byte r.state.code, byte r.current]
  | none => []

/-- An accepted amend acts (R18 to R20). -/
def State.amend (s : State) (a : AcceptedAmend) : State :=
  let written := s.setPass a.slot (some a.record)
  if a.record.limitReached a.newLimit then written.endStep a.slot a.record.timerEnd else written

/-- PASS-AMEND (R17 to R20). -/
def passAmendRule : Handler AcceptedAmend :=
  { check := passAmendCheck, act := fun a s => (s.amend a, (s.amend a).amendReply a.slot) }

/-- PASS_AMEND (R17). -/
def execPassAmend (dt : Nat) (s : State) : Host.Outcome State Fault Refusal :=
  .next ((s.elapse dt).serve .passAmend passAmendRule)

/-! ### PASS-ABORT (R22, R23) -/

/-- The checks of PASS-ABORT (R10, R22). -/
def passAbortCheck (payload : List Byte) (s : State) : Except Status (PassSlot × Pass) :=
  slotChecks 1 true payload s fun i r => if r.state = .ended then .error .wrongState else .ok (i, r)

/-- An abort acts (R22, R23): a running step ends ABORTED; a pass without one enters ENDED, raising PASS_END. -/
def State.abort (s : State) (i : PassSlot) (r : Pass) : State :=
  if r.running then s.endStep i .aborted else (s.setPass i (some (r.enterEnded .aborted))).raise .passEnd

/-- PASS-ABORT (R22, R23). -/
def passAbortRule : Handler (PassSlot × Pass) :=
  { check := passAbortCheck, act := fun a s => (s.abort a.1 a.2, []) }

/-- PASS_ABORT (R22). -/
def execPassAbort (dt : Nat) (s : State) : Host.Outcome State Fault Refusal :=
  .next ((s.elapse dt).serve .passAbort passAbortRule)

/-! ### PASS-RETIRE (R24) -/

/-- The checks of PASS-RETIRE (R10, R24). -/
def passRetireCheck (payload : List Byte) (s : State) : Except Status PassSlot :=
  slotChecks 1 true payload s fun i r => if r.state = .ended then .ok i else .error .wrongState

/-- PASS-RETIRE (R24). -/
def passRetireRule : Handler PassSlot :=
  { check := passRetireCheck, act := fun i s => (s.setPass i none, []) }

/-- PASS_RETIRE (R24). -/
def execPassRetire (dt : Nat) (s : State) : Host.Outcome State Fault Refusal :=
  .next ((s.elapse dt).serve .passRetire passRetireRule)

end Sys2Proof.Machine
end

