-- ==== Sys2Proof/Machine/HoldRequests.lean ====
section
/-! DEFINITION. The emergency stop and the requests of the Trip and Hold Logic (R152 to R165). -/

namespace Sys2Proof.Machine

/-! ### PASS-HOLD (R161, R162) -/

/-- The checks of PASS-HOLD (R161, R162). -/
def passHoldCheck (payload : List Byte) (s : State) : Except Status PassSlot :=
  slotChecks 1 true payload s fun i r => if r.running then .ok i else .error .wrongState

/-- The byte an accepted hold answers: the hold-cause set as the request left it (R162). -/
def State.holdReply (s : State) (i : PassSlot) : List Byte :=
  match s.pass i with
  | some r => [byte r.holds.code]
  | none => []

/-- PASS-HOLD (R162). -/
def passHoldRule : Handler PassSlot :=
  { check := passHoldCheck, act := fun i s => (s.addCause i .host, (s.addCause i .host).holdReply i) }

/-- PASS_HOLD (R162). -/
def execPassHold (dt : Nat) (s : State) : Host.Outcome State Fault Refusal :=
  .next ((s.elapse dt).serve .passHold passHoldRule)

/-! ### PASS-RESUME (R161, R163, R164) -/

/-- Whether one of the conditions of R163 stands for a pass on head h whose current step is `st`. -/
def State.resumeBlocked (s : State) (h : Head) (st : StepProgram) : Bool :=
  s.tripLatch || (s.rotation.get st.platen).stall || s.headFault h || !(s.goodLot st .a && s.goodLot st .b)

/-- What a resume acts on. -/
structure Resume where
  slot : PassSlot
  record : Pass
  head : Head
  step : StepProgram

/-- The checks of PASS-RESUME (R161, R163). -/
def passResumeCheck (payload : List Byte) (s : State) : Except Status Resume :=
  slotChecks 1 true payload s fun i r =>
    if r.state ≠ .held then .error .wrongState
    else match r.head, r.step with
      | some h, some st => if s.resumeBlocked h st then .error .busy else .ok ⟨i, r, h, st⟩
      | _, _ => .error .wrongState

/-- The live progress at a resume (R164): the settle revolutions are reloaded and the step timer runs again (R36). -/
def LiveProgress.resumed (l : LiveProgress) (settle now : Nat) : LiveProgress :=
  { l with settleLeft := settle, timerFrom := now }

/-- The record at a resume (R164). -/
def Pass.resumed (r : Pass) (st : StepProgram) (now : Nat) : Pass :=
  { r with state := .polishing, holds := HoldSet.empty, live := r.live.map fun l => l.resumed st.settle now }

/-- The zone-complete flags of a record; none is set when it has no live progress. -/
def Pass.completeFlags (r : Pass) : PerZone Bool :=
  match r.live with
  | some l => l.complete
  | none => PerZone.all false

/-- The CU at a resume (R132): it sweeps again when the service still is IN_SITU, or the wear stop is applied. -/
def State.conditionResume (s : State) (st : StepProgram) : State :=
  match st.conditioning with
  | .inSitu _ =>
    if (s.arms.get st.platen).service.isInSitu then
      if s.diskWorn st.platen then s.wearStop st.platen else s.beginSweep st.platen
    else s
  | .exSitu _ _ => s
  | .none => s

/-- An accepted resume acts (R164): the record, then the ZPC, the SDU and the CU. -/
def State.resume (s : State) (a : Resume) : State :=
  let polishing := s.setPass a.slot (some (a.record.resumed a.step s.clock))
  ((polishing.driveHead a.head a.step a.record.completeFlags).startDispensing a.step.platen a.step.blendRow).conditionResume
    a.step

/-- PASS-RESUME (R163, R164). -/
def passResumeRule : Handler Resume :=
  { check := passResumeCheck, act := fun a s => (s.resume a, []) }

/-- PASS_RESUME (R163). -/
def execPassResume (dt : Nat) (s : State) : Host.Outcome State Fault Refusal :=
  .next ((s.elapse dt).serve .passResume passResumeRule)

/-! ### TRIP-CLEAR (R155) -/

/-- TRIP-CLEAR (R155). -/
def tripClearRule : Handler Unit :=
  { check := fun payload s => emptyPayload payload (if s.estop then .error .busy else .ok ())
    act := fun _ s => (if s.tripLatch then { s with tripLatch := false }.attemptAll else s, []) }

/-- TRIP_CLEAR (R155). -/
def execTripClear (dt : Nat) (s : State) : Host.Outcome State Fault Refusal :=
  .next ((s.elapse dt).serve .tripClear tripClearRule)

/-! ### ESTOP (R153, R154) -/

/-- Stages 2 and 3 of the trip event (R153): every POLISHING pass is held with TRIP, every HELD pass adds it. -/
def State.holdAll (s : State) : State := passSlots.foldl (fun t i => t.addCause i .trip) s

/-- Every channel of the station enters VENT (R76). -/
def State.ventAll (s : State) : State := (((s.ventHead .h0).ventHead .h1).ventHead .h2).ventHead .h3

/-- The arm of a platen at the setting of the trip latch (R138): an EX_SITU service ends, any other sweep is parked. -/
def State.tripArm (s : State) (p : Platen) : State :=
  let a := s.arms.get p
  if a.service.isExSitu then s.endExSitu p else if a.sweeping then s.setArm p a.park else s

/-- The three arms at the setting of the trip latch (R138). -/
def State.tripArms (s : State) : State := ((s.tripArm .p0).tripArm .p1).tripArm .p2

/-- The carousel gives up a move: LOST, drive inactive, timer stopped, k kept, CAROUSEL raised (R148). -/
def State.loseCarousel (s : State) : State :=
  { s with carousel := { s.carousel with state := .lost, drive := false, timer := none } }.raise .carousel

/-- The CT at the setting of the trip latch (R148). -/
def State.tripCarousel (s : State) : State := if s.carousel.state = .indexing then s.loseCarousel else s

/-- The trip latch is set (R153) and the blocks that read it act (R76, R120, R138, R148). -/
def State.trip (s : State) : State :=
  ((((({ s with tripLatch := true }.raise .trip).holdAll).ventAll).clearAllDemand).tripArms).tripCarousel

/-- A change of ESTOP from released to active (R153, R154): the trip event when the latch is clear. -/
def State.estopActive (s : State) : State :=
  let seen := { s with estop := true }
  if s.tripLatch then seen else seen.trip

/-- TRIP_EVENT (R153): ESTOP becomes active; an input that is active already makes no change. -/
def execTripEvent (dt : Nat) (s : State) : Host.Outcome State Fault Refusal :=
  .next (if s.estop then s.elapse dt else (s.elapse dt).estopActive)

/-- ESTOP_RELEASE (R154): the last level is updated. -/
def execEstopRelease (dt : Nat) (s : State) : Host.Outcome State Fault Refusal :=
  .next { s.elapse dt with estop := false }

end Sys2Proof.Machine
end

