-- ==== Sys2Proof/Machine/CarouselEvents.lean ====
section
/-! DEFINITION. The carousel: indexing, its completion and loss, and the sync (R142 to R151). -/

namespace Sys2Proof.Machine

/-- Whether a pass is POLISHING or HELD (R144, R150). -/
def State.anyRunning (s : State) : Bool := s.anyPass Pass.running

/-- Whether an arm is SWEEPING (R144). -/
def State.anySweeping (s : State) : Bool := platens.any fun p => (s.arms.get p).sweeping

/-! ### CAROUSEL-INDEX (R144, R145) -/

/-- The index time, in microseconds (R145). -/
def indexTime : Nat := 20000000

/-- The checks of CAROUSEL-INDEX after the length, in order (R144). -/
def State.indexChecks (s : State) : Except Status Unit :=
  if s.tripLatch then .error .tripped
  else if s.anyRunning || s.anySweeping then .error .busy
  else if s.carousel.state ≠ .stopped then .error .wrongState
  else .ok ()

/-- An accepted index begins (R145). -/
def State.beginIndex (s : State) : State :=
  { s with carousel := { s.carousel with state := .indexing, drive := true, timer := some (s.clock + indexTime) } }

/-- CAROUSEL-INDEX (R144, R145). -/
def carouselIndexRule : Handler Unit :=
  { check := fun payload s => emptyPayload payload s.indexChecks, act := fun _ s => (s.beginIndex, []) }

/-- CAROUSEL_INDEX (R144). -/
def execCarouselIndex (dt : Nat) (s : State) : Host.Outcome State Fault Refusal :=
  .next ((s.elapse dt).serve .carouselIndex carouselIndexRule)

/-! ### Completion and expiry (R146 to R148) -/

/-- One quarter turn on (R146). -/
def nextOffset (k : Fin 4) : Fin 4 := k + 1

/-- The carousel stands STOPPED at an offset. -/
def State.stopCarousel (s : State) (k : Fin 4) : State :=
  { s with carousel := { s.carousel with state := .stopped, k, drive := false, timer := none } }

/-- A completion of the index with a position code (R146). -/
def State.completeIndex (s : State) (code : Fin 4) : State :=
  ((s.raiseIf (decide (code ≠ nextOffset s.carousel.k)) .carousel).stopCarousel code).attemptAll

/-- The last CDONE level written (R142). -/
def State.setCdone (s : State) (level : Bool) : State := { s with carousel := { s.carousel with cdone := level } }

/-- A rising edge of CDONE (R146): it completes an index, and is ignored in STOPPED and LOST. -/
def State.cdoneRises (s : State) (code : Fin 4) : State :=
  if s.carousel.state = .indexing then s.completeIndex code else s

/-- CAROUSEL_INDEX_COMPLETION (R146): CDONE goes high; one that is high already makes no edge. -/
def execCarouselIndexCompletion (dt : Nat) (code : Fin 4) (s : State) : Host.Outcome State Fault Refusal :=
  .next (if s.carousel.cdone then s.elapse dt else ((s.elapse dt).setCdone true).cdoneRises code)

/-- CDONE_FALLING_EDGE (R146). -/
def execCdoneFallingEdge (dt : Nat) (s : State) : Host.Outcome State Fault Refusal :=
  .next ((s.elapse dt).setCdone false)

/-- INDEX_TIMER_EXPIRY (R148): a stopped timer does not expire. -/
def execIndexTimerExpiry (s : State) : Host.Outcome State Fault Refusal :=
  .next
    (match s.carousel.timer with
    | none => s
    | some moment => (s.runTo moment).loseCarousel)

/-! ### CAROUSEL-SYNC (R150) -/

/-- The checks of CAROUSEL-SYNC after the length, in order (R150). -/
def State.syncChecks (s : State) : Except Status Unit :=
  if s.tripLatch then .error .tripped
  else if s.carousel.state = .indexing then .error .wrongState
  else if s.anyRunning then .error .busy
  else .ok ()

/-- CAROUSEL-SYNC with the position code read (R150). -/
def carouselSyncRule (code : Fin 4) : Handler Unit :=
  { check := fun payload s => emptyPayload payload s.syncChecks
    act := fun _ s => ((s.stopCarousel code).attemptAll, [byte s.carousel.k.val, byte code.val]) }

/-- CAROUSEL_SYNC (R150). -/
def execCarouselSync (dt : Nat) (code : Fin 4) (s : State) : Host.Outcome State Fault Refusal :=
  .next ((s.elapse dt).serve .carouselSync (carouselSyncRule code))

end Sys2Proof.Machine
end

