-- ==== Sys2Proof/Machine/ConditioningEvents.lean ====
section
/-! DEFINITION. Sweeps and the requests of the Conditioning Unit (R126 to R141). -/

namespace Sys2Proof.Machine

/-! ### The dwell timer (R128, R129) -/

/-- How an arm goes on after stages 1 to 4 of a completion (stage 5 of R129). -/
def State.goOnSweeping (s : State) (p : Platen) : State :=
  let a := s.arms.get p
  if s.diskWorn p then s.wearStop p
  else if a.service.isExSitu && decide (a.exSitu = 0) then s.endExSitu p
  else s.beginSweep p

/-- An arm after stages 2 to 4 of a completion (R129): glaze 0, direction reversed, the ex-situ count lowered. -/
def Arm.completed (a : Arm) : Arm :=
  { a with
    glaze := 0
    direction := a.direction.reverse
    exSitu := if a.service.isExSitu then a.exSitu - 1 else a.exSitu }

/-- A sweep completes (R129): the usage of the platen's disk rises, then the arm's own stages follow. -/
def State.completeSweep (s : State) (p : Platen) : State :=
  let worn := s.addUsageOf (s.mounted .disk (.platen p)) 1
  (worn.setArm p (worn.arms.get p).completed).goOnSweeping p

/-- The dwell timer of a platen's arm expires (R128): the next segment, or the completion of the sweep. -/
def State.dwellExpires (s : State) (p : Platen) : State :=
  let a := s.arms.get p
  if a.segment + 1 < (s.armProfile p).length then
    s.setArm p (Arm.enterSegment s.clock (s.armProfile p) { a with segment := a.segment + 1 })
  else s.completeSweep p

/-- DWELL_EXPIRY (R128): a stopped timer does not expire. -/
def execDwellExpiry (p : Platen) (s : State) : Host.Outcome State Fault Refusal :=
  .next
    (match (s.arms.get p).dwell with
    | none => s
    | some moment => (s.runTo moment).dwellExpires p)

/-! ### PROFILE-WRITE (R139) -/

/-- Whether the service of any arm names a profile (R139). -/
def State.profileInUse (s : State) (q : Fin 4) : Bool :=
  platens.any fun p => decide ((s.arms.get p).service.profile = some q)

/-- The checks of PROFILE-WRITE, in order (R139). -/
def profileWriteCheck (payload : List Byte) (s : State) : Except Status (Fin 4 × Profile) :=
  let n := field payload 1 1
  if payload.length < 2 then .error .badLength
  else match indexBelow 4 (field payload 0 1) with
    | none => .error .badParam
    | some q =>
      if !within 1 10 n then .error .badParam
      else if payload.length ≠ 2 + 4 * n then .error .badLength
      else match readSegments n (payload.drop 2) with
        | none => .error .badParam
        | some pr => if s.profileInUse q then .error .busy else .ok (q, pr)

/-- PROFILE-WRITE (R139). -/
def profileWriteRule : Handler (Fin 4 × Profile) :=
  { check := profileWriteCheck, act := fun a s => ({ s with profiles := putAt s.profiles a.1 a.2 }, []) }

/-- PROFILE_WRITE (R139). -/
def execProfileWrite (dt : Nat) (s : State) : Host.Outcome State Fault Refusal :=
  .next ((s.elapse dt).serve .profileWrite profileWriteRule)

/-! ### PLATEN-WRITE (R140) -/

/-- The checks of PLATEN-WRITE, in order (R140). -/
def platenWriteCheck (payload : List Byte) (_ : State) : Except Status (Platen × GlazeSettings) :=
  if payload.length ≠ 4 then .error .badLength
  else match Platen.ofNumber (field payload 0 1), readGlaze (payload.drop 1) with
    | some p, some g => .ok (p, g)
    | _, _ => .error .badParam

/-- PLATEN-WRITE (R140). -/
def platenWriteRule : Handler (Platen × GlazeSettings) :=
  { check := platenWriteCheck
    act := fun a s => ({ s with glazeSettings := s.glazeSettings.set a.1 a.2 }, []) }

/-- PLATEN_WRITE (R140). -/
def execPlatenWrite (dt : Nat) (s : State) : Host.Outcome State Fault Refusal :=
  .next ((s.elapse dt).serve .platenWrite platenWriteRule)

/-! ### CONDITIONING-READ (R141) -/

/-- CONDITIONING-READ (R141). -/
def conditioningReadRule : Handler Unit :=
  { check := fun payload _ => emptyPayload payload (.ok ()), act := fun _ s => (s, s.conditioningBytes) }

/-- CONDITIONING_READ (R141). -/
def execConditioningRead (dt : Nat) (s : State) : Host.Outcome State Fault Refusal :=
  .next ((s.elapse dt).serve .conditioningRead conditioningReadRule)

end Sys2Proof.Machine
end

