-- ==== Sys2Proof/Machine/IndexEvents.lean ====
section
/-! DEFINITION. Platen index edges and the stall timer (R49 to R60). -/

namespace Sys2Proof.Machine

/-- The last level of a platen's index input written (R48). -/
def State.setIndexLevel (s : State) (p : Platen) (level : Bool) : State :=
  s.setRotation p { s.rotation.get p with level }

/-- PLATEN_INDEX_EDGE (R49): the input goes high; one that is high already makes no edge. -/
def execPlatenIndexEdge (dt : Nat) (p : Platen) (s : State) : Host.Outcome State Fault Refusal :=
  .next
    (if (s.rotation.get p).level then s.elapse dt
    else ((s.elapse dt).setIndexLevel p true).risingIndexEdge p)

/-- INDEX_FALLING_EDGE (R49). -/
def execIndexFallingEdge (dt : Nat) (p : Platen) (s : State) : Host.Outcome State Fault Refusal :=
  .next ((s.elapse dt).setIndexLevel p false)

/-- An EX_SITU arm that sweeps parks when STALL is set (R136). -/
def State.pauseSweeps (s : State) (p : Platen) : State :=
  let a := s.arms.get p
  if a.service.isExSitu && a.sweeping then s.setArm p a.park else s

/-- STALL is set on a platen (R53): the timer stops, the pass on the platen gains STALL and FAULT is raised (R158), the CU
pauses ex-situ sweeps (R136). -/
def State.stallSet (s : State) (p : Platen) : State :=
  let set := s.setRotation p { s.rotation.get p with stall := true, stallTimer := none }
  ((set.addCauseOf (set.runningOn p) .stall).raise .fault).pauseSweeps p

/-- STALL_TIMER_EXPIRY (R53): a stopped timer does not expire. -/
def execStallTimerExpiry (p : Platen) (s : State) : Host.Outcome State Fault Refusal :=
  .next
    (match (s.rotation.get p).stallTimer with
    | none => s
    | some moment => (s.runTo moment).stallSet p)

end Sys2Proof.Machine
end

