-- ==== Sys2Proof/Machine/ItemRequests.lean ====
section
/-! DEFINITION. The seven requests of the Item Table and the minute tick (R87 to R106). -/

namespace Sys2Proof.Machine

/-- The checks of R98 for a payload of a length whose first four bytes are an item id: length, id and ranges, NOT_FOUND; then
the request's own. -/
def itemChecks {α : Type} (length : Nat) (inRange : Bool) (payload : List Byte) (s : State)
    (own : ItemSlot → Item → Except Status α) : Except Status α :=
  if payload.length ≠ length then .error .badLength
  else if wordField payload 0 = 0 ∨ inRange = false then .error .badParam
  else match s.itemById (wordField payload 0) with
    | none => .error .notFound
    | some j => match s.item j with
      | some i => own j i
      | none => .error .notFound

/-- Whether a position is in use for an item of a kind (R101). -/
def State.positionInUse (s : State) (kind : ItemKind) (pos : Position) : Bool :=
  match kind, pos with
  | .lot, _ => false
  | _, .platen p => (s.runningOn p).isSome || (s.arms.get p).sweeping || (s.arms.get p).busy
  | _, .head h => (s.holderOf h).isSome
  | _, .feedA => false
  | _, .feedB => false

/-- The feed of a feed position. -/
def Position.feed : Position → Option Feed
  | .feedA => some .a
  | .feedB => some .b
  | .platen _ => none
  | .head _ => none

/-- A supply loss on the feed an optional position is, when the item there is a lot (R93, R103). -/
def State.supplyLossAt (s : State) (pos : Option Position) : State :=
  match pos.bind Position.feed with
  | some f => s.supplyLoss f
  | none => s

/-! ### ITEM-REGISTER (R99) -/

/-- The checks of ITEM-REGISTER, in order (R99). -/
def itemRegisterCheck (payload : List Byte) (s : State) : Except Status (ItemSlot × Item) :=
  if payload.length ≠ 25 then .error .badLength
  else match readItem payload with
    | none => .error .badParam
    | some i =>
      if (s.itemById i.id).isSome then .error .duplicate
      else match s.freeItemSlot with
        | none => .error .tableFull
        | some j => .ok (j, i)

/-- ITEM-REGISTER (R99): each flag set raises ITEM. -/
def itemRegisterRule : Handler (ItemSlot × Item) :=
  { check := itemRegisterCheck
    act := fun a s => ((s.setItem a.1 (some a.2)).raiseIf a.2.flags.any .item, [byte a.1.val]) }

/-- ITEM_REGISTER (R99). -/
def execItemRegister (dt : Nat) (s : State) : Host.Outcome State Fault Refusal :=
  .next ((s.elapse dt).serve .itemRegister itemRegisterRule)

/-! ### ITEM-LOOKUP and ITEM-LIST (R100) -/

/-- A live item in a slot named by a number below 16. -/
def State.liveItem (s : State) (n : Nat) : Option (ItemSlot × Item) :=
  match indexBelow 16 n with
  | some j => (s.item j).map fun i => (j, i)
  | none => none

/-- The checks of ITEM-LOOKUP, in order (R100). -/
def itemLookupCheck (payload : List Byte) (s : State) : Except Status (ItemSlot × Item) :=
  if payload.length = 0 then .error .badLength
  else if field payload 0 1 = 0 then
    if payload.length ≠ 2 then .error .badLength
    else if 15 < field payload 1 1 then .error .badParam
    else match s.liveItem (field payload 1 1) with
      | some a => .ok a
      | none => .error .notFound
  else if field payload 0 1 = 1 then
    if payload.length ≠ 5 then .error .badLength
    else if wordField payload 1 = 0 then .error .badParam
    else match s.itemById (wordField payload 1) with
      | none => .error .notFound
      | some j => match s.item j with
        | some i => .ok (j, i)
        | none => .error .notFound
  else .error .badParam

/-- ITEM-LOOKUP (R100, R106). -/
def itemLookupRule : Handler (ItemSlot × Item) :=
  { check := itemLookupCheck, act := fun a s => (s, a.2.bytes a.1) }

/-- ITEM_LOOKUP (R100). -/
def execItemLookup (dt : Nat) (s : State) : Host.Outcome State Fault Refusal :=
  .next ((s.elapse dt).serve .itemLookup itemLookupRule)

/-- The entry of a listed item (R100). -/
def itemEntry (j : ItemSlot) (i : Item) : List Byte :=
  [byte j.val] ++ leBytes 4 i.id.toNat ++ [byte i.kind.code, byte (positionCode i.position), byte i.flags.code]

/-- The entries of the live items of a kind, or of all (R100). -/
def State.itemEntries (s : State) (filter : Option ItemKind) : List (List Byte) :=
  itemSlots.filterMap fun j =>
    match s.item j with
    | some i => if filter = none ∨ filter = some i.kind then some (itemEntry j i) else none
    | none => none

/-- The checks of ITEM-LIST (R100): the filter. -/
def itemListCheck (payload : List Byte) (_ : State) : Except Status (Option ItemKind) :=
  if payload.length = 0 then .ok none
  else if 1 < payload.length then .error .badLength
  else match ItemKind.ofCode (field payload 0 1) with
    | some k => .ok (some k)
    | none => .error .badParam

/-- ITEM-LIST (R100). -/
def itemListRule : Handler (Option ItemKind) :=
  { check := itemListCheck
    act := fun k s => (s, byte (s.itemEntries k).length :: (s.itemEntries k).flatten) }

/-- ITEM_LIST (R100). -/
def execItemList (dt : Nat) (s : State) : Host.Outcome State Fault Refusal :=
  .next ((s.elapse dt).serve .itemList itemListRule)

/-! ### ITEM-MOUNT (R101, R102) -/

/-- What a mount acts on. -/
structure Mount where
  slot : ItemSlot
  record : Item
  position : Position

/-- The checks of ITEM-MOUNT after those of R98, in order (R101). -/
def mountChecks (s : State) (pos : Position) (j : ItemSlot) (i : Item) : Except Status Mount :=
  if pos.takes i.kind = false then .error .badParam
  else if i.position.isSome ∨ i.flags.any then .error .wrongState
  else if s.positionInUse i.kind pos then .error .busy
  else .ok ⟨j, i, pos⟩

/-- The checks of ITEM-MOUNT (R98, R101). -/
def itemMountCheck (payload : List Byte) (s : State) : Except Status Mount :=
  match Position.ofCode (field payload 4 1) with
  | some pos => itemChecks 5 true payload s (mountChecks s pos)
  | none => itemChecks 5 false payload s fun _ _ => .error .badParam

/-- The item of the same kind at a position loses it (R102). -/
def State.displace (s : State) (kind : ItemKind) (pos : Position) : State :=
  match s.mounted kind pos with
  | none => s
  | some j => match s.item j with
    | some i => s.setItem j (some { i with position := none })
    | none => s

/-- The id of the item a mount displaces, 0 when the position was empty (R102). -/
def State.displacedId (s : State) (m : Mount) : List Byte :=
  leBytes 4 (s.mountedId m.record.kind m.position).toNat

/-- An accepted mount acts (R102). -/
def State.mount (s : State) (m : Mount) : State :=
  ((s.displace m.record.kind m.position).setItem m.slot (some { m.record with position := some m.position })).attemptAll

/-- ITEM-MOUNT (R101, R102). -/
def itemMountRule : Handler Mount :=
  { check := itemMountCheck, act := fun m s => (s.mount m, s.displacedId m) }

/-- ITEM_MOUNT (R101). -/
def execItemMount (dt : Nat) (s : State) : Host.Outcome State Fault Refusal :=
  .next ((s.elapse dt).serve .itemMount itemMountRule)

/-! ### ITEM-DISMOUNT (R103) -/

/-- The checks of ITEM-DISMOUNT (R98, R103). -/
def itemDismountCheck (payload : List Byte) (s : State) : Except Status (ItemSlot × Item) :=
  itemChecks 4 true payload s fun j i =>
    match i.position with
    | none => .error .wrongState
    | some pos => if s.positionInUse i.kind pos then .error .busy else .ok (j, i)

/-- An accepted dismount acts (R103): a lot off its feed is a supply loss. -/
def State.dismount (s : State) (j : ItemSlot) (i : Item) : State :=
  (s.setItem j (some { i with position := none })).supplyLossAt i.position

/-- ITEM-DISMOUNT (R103). -/
def itemDismountRule : Handler (ItemSlot × Item) :=
  { check := itemDismountCheck, act := fun a s => (s.dismount a.1 a.2, []) }

/-- ITEM_DISMOUNT (R103). -/
def execItemDismount (dt : Nat) (s : State) : Host.Outcome State Fault Refusal :=
  .next ((s.elapse dt).serve .itemDismount itemDismountRule)

/-! ### ITEM-ADJUST (R104) -/

/-- The fields an adjust names, each with its value. -/
structure Adjust where
  limit : Option Nat
  f0 : Option Nat
  slope : Option Nat
  potLife : Option Nat
  volume : Option Nat
  age : Option Nat

/-- The bytes the named fields take (R104); bits 6 and 7 name no field (notes/assumptions/19.md). -/
def adjustBytes (mask : Nat) : Nat :=
  maskedBytes mask 0 4 + maskedBytes mask 1 2 + maskedBytes mask 2 2 + maskedBytes mask 3 2 + maskedBytes mask 4 4 +
    maskedBytes mask 5 2

/-- The value of the field of mask bit `bit`, `n` bytes wide, in the payload of an adjust: the fields named by lower bits
stand before it (R104). -/
def adjustField (payload : List Byte) (mask bit n : Nat) : Option Nat :=
  if maskBit mask bit then some (field payload (5 + adjustBytes (mask % 2 ^ bit)) n) else none

/-- The fields an ITEM-ADJUST payload names (R104). -/
def readAdjust (payload : List Byte) (mask : Nat) : Adjust :=
  { limit := adjustField payload mask 0 4, f0 := adjustField payload mask 1 2, slope := adjustField payload mask 2 2,
    potLife := adjustField payload mask 3 2, volume := adjustField payload mask 4 4, age := adjustField payload mask 5 2 }

/-- F0 within its range (R104). -/
def Adjust.inRange (a : Adjust) : Bool :=
  match a.f0 with
  | some v => decide (v ≤ maxFactor)
  | none => true

/-- Whether a kind has every field an adjust names (R104, R88). -/
def Adjust.fits (a : Adjust) (k : ItemKind) : Bool :=
  (k.hasLimit || a.limit.isNone) && (k.hasFactor || (a.f0.isNone && a.slope.isNone)) &&
    (k.isLot || (a.potLife.isNone && a.volume.isNone && a.age.isNone))

/-- A record after an adjust: the named fields written, the flags worked out again (R104). -/
def Adjust.apply (a : Adjust) (i : Item) : Item :=
  let written :=
    { i with
      limit := a.limit.getD i.limit, f0 := a.f0.getD i.f0, slope := a.slope.getD i.slope,
      potLife := a.potLife.getD i.potLife, volume := a.volume.getD i.volume, age := a.age.getD i.age }
  { written with flags := written.workedOutFlags }

/-- What an accepted adjust acts on. -/
structure AcceptedAdjust where
  slot : ItemSlot
  old : Item
  new : Item

/-- The checks of ITEM-ADJUST (R98, R104). -/
def itemAdjustCheck (payload : List Byte) (s : State) : Except Status AcceptedAdjust :=
  let mask := field payload 4 1
  let a := readAdjust payload mask
  if payload.length < 5 then .error .badLength
  else
    itemChecks (5 + adjustBytes mask) (decide (mask < 64) && a.inRange) payload s fun j i =>
      if a.fits i.kind then .ok ⟨j, i, a.apply i⟩ else .error .badParam

/-- EMPTY newly set on a mounted lot is a supply loss on its feed (R93, R160). -/
def State.reportEmpty (s : State) (old new : Item) : State :=
  if new.flags.empty && !old.flags.empty then s.supplyLossAt new.position else s

/-- WORN newly set on a mounted disk is reported to the CU (R93, R137). -/
def State.reportDisk (s : State) (old new : Item) : State :=
  match new.kind, new.position with
  | .disk, some (.platen p) => if new.flags.worn && !old.flags.worn then s.reportWear p else s
  | _, _ => s

/-- An accepted adjust acts (R104). -/
def State.adjust (s : State) (a : AcceptedAdjust) : State :=
  let reported := ((s.rewriteItem a.slot a.old a.new).reportEmpty a.old a.new).reportDisk a.old a.new
  if a.old.flags.removes a.new.flags then reported.attemptAll else reported

/-- ITEM-ADJUST (R104). The reply gives the flags as the adjust worked them out, before its start attempts: a step that starts on
the adjusted ring can set WORN again by its usage rise, and the reply then does not show it, which R104 and R171 leave open. The
model's choice (notes/assumptions/29.md). -/
def itemAdjustRule : Handler AcceptedAdjust :=
  { check := itemAdjustCheck, act := fun a s => (s.adjust a, [byte a.new.flags.code]) }

/-- ITEM_ADJUST (R104). -/
def execItemAdjust (dt : Nat) (s : State) : Host.Outcome State Fault Refusal :=
  .next ((s.elapse dt).serve .itemAdjust itemAdjustRule)

/-! ### ITEM-RETIRE (R105) -/

/-- The checks of ITEM-RETIRE (R98, R105). -/
def itemRetireCheck (payload : List Byte) (s : State) : Except Status ItemSlot :=
  itemChecks 4 true payload s fun j i => if i.position.isSome then .error .wrongState else .ok j

/-- ITEM-RETIRE (R105). -/
def itemRetireRule : Handler ItemSlot :=
  { check := itemRetireCheck, act := fun j s => (s.setItem j none, []) }

/-- ITEM_RETIRE (R105). -/
def execItemRetire (dt : Nat) (s : State) : Host.Outcome State Fault Refusal :=
  .next ((s.elapse dt).serve .itemRetire itemRetireRule)

/-! ### The minute tick (R91) -/

/-- The minute, in microseconds (R91). -/
def minute : Nat := 60000000

/-- The item of a slot ages by one minute, ITEM raised when EXPIRED is newly set (R91, R93). -/
def State.ageItem (s : State) (j : ItemSlot) : State :=
  match s.item j with
  | some i => s.rewriteItem j i i.ageByMinute
  | none => s

/-- MINUTE_TICK (R91). -/
def execMinuteTick (s : State) : Host.Outcome State Fault Refusal :=
  let t := s.runTo s.nextMinute
  .next (itemSlots.foldl State.ageItem { t with nextMinute := t.nextMinute + minute })

end Sys2Proof.Machine
end

