-- ==== Sys2Proof/WellFormed.lean ====
section
/-! DEFINITION. The checks on a command's operands that the part's lines and the settings image put on them. -/

namespace Sys2Proof

/-- The settings image is 427 bytes long: header 5, body 422 (R182). -/
def imageBytes : Nat := 427

/-- A break is LRX low for at least 11 bit times (R167). -/
def breakBits : Nat := 11

/-- A well-formed command: a break is a break (R167); a save that ends early has written fewer than the 427 bytes of its
image (R183, R184: a byte is not acknowledged, or a reset ends the writing); a byte not acknowledged is one the load reads
(R181). -/
def Instr.wf : Instr → Bool
  | .lineBreak _ lowBits => decide (breakBits ≤ lowBits)
  | .saveFailed _ written => decide (written < imageBytes)
  | .powerOnReset _ written => decide (written < imageBytes)
  | .resetPin _ written => decide (written < imageBytes)
  | .settingsLoad _ (some n) => decide (n < imageBytes)
  | _ => true

end Sys2Proof
end

