-- ==== Sys2Proof/Machine/LinkEvents.lean ====
section
/-! DEFINITION. The events of the link and its own requests (R167 to R179). -/

namespace Sys2Proof.Machine

/-! ### Receiving (R167 to R170) -/

/-- BREAK (R167): LRX low for fewer than 11 bit times is no break (notes/assumptions/23.md). -/
def execLineBreak (dt : Nat) (lowBits : Nat) (s : State) : Host.Outcome State Fault Refusal :=
  .next (if breakBits ≤ lowBits then (s.elapse dt).receiveBreak else s.elapse dt)

/-- STRAY_BYTE (R167): a character arrives (notes/assumptions/6.md). -/
def execStrayByte (dt : Nat) (ch : LinkChar) (s : State) : Host.Outcome State Fault Refusal :=
  .next ((s.elapse dt).receive ch)

/-- BYTE_ARRIVES_RECEIVING (R167, R169): a character arrives (notes/assumptions/6.md). -/
def execByteArrivesReceiving (dt : Nat) (ch : LinkChar) (s : State) : Host.Outcome State Fault Refusal :=
  .next ((s.elapse dt).receive ch)

/-- FRAME_COMPLETE (R168): a character arrives (notes/assumptions/6.md). -/
def execFrameComplete (dt : Nat) (ch : LinkChar) (s : State) : Host.Outcome State Fault Refusal :=
  .next ((s.elapse dt).receive ch)

/-- The idle limit, in microseconds (R167). -/
def idleTime : Nat := 2000

/-- The idle limit ends a frame (R167): one with at least one byte is discarded, one without was a line rest. -/
def State.idleEnds (s : State) (bytes : List Byte) : State :=
  if bytes.isEmpty then { s with receiver := .hunting } else s.discardFrame

/-- IDLE_LIMIT (R167): more than 2,000 µs have passed since the line went idle; a HUNTING receiver has no limit. -/
def execIdleLimit (s : State) : Host.Outcome State Fault Refusal :=
  .next
    (match s.receiver with
    | .hunting => s
    | .receiving bytes idleFrom => (s.runTo (idleFrom + idleTime + 1)).idleEnds bytes)

/-! ### Sending (R170 to R172) -/

/-- RESPONSE_START (R171): a ready response starts when the transmitter is idle; behind a response on the line it has started
with RESPONSE_END already (notes/assumptions/7.md). -/
def execResponseStart (dt : Nat) (s : State) : Host.Outcome State Fault Refusal :=
  .next
    (if s.buffers.any isSending then s.elapse dt
    else { s.elapse dt with buffers := startResponse s.buffers })

/-- RESPONSE_END (R170, R171): the last byte of the response on the line leaves. -/
def execResponseEnd (dt : Nat) (s : State) : Host.Outcome State Fault Refusal :=
  .next { s.elapse dt with buffers := nextResponse s.buffers }

/-! ### Requests of the link (R173 to R179) -/

/-- UNKNOWN (R173). -/
def execUnknown (dt : Nat) (s : State) : Host.Outcome State Fault Refusal := .next (s.elapse dt).serveUnknown

/-- STATUS (R177). -/
def statusRule : Handler Unit :=
  { check := fun payload _ => emptyPayload payload (.ok ()), act := fun _ s => (s, s.statusBytes) }

/-- STATUS (R177). -/
def execStatus (dt : Nat) (s : State) : Host.Outcome State Fault Refusal :=
  .next ((s.elapse dt).serve .status statusRule)

/-- IDENTIFY (R178). -/
def identifyRule : Handler Unit :=
  { check := fun payload _ => emptyPayload payload (.ok ()), act := fun _ s => (s, s.identityBytes) }

/-- IDENTIFY (R178). -/
def execIdentify (dt : Nat) (s : State) : Host.Outcome State Fault Refusal :=
  .next ((s.elapse dt).serve .identify identifyRule)

/-- The cause set a payload of two bytes spells: bits 9 to 15 are 0 (R175, R176). -/
def causeSetCheck (payload : List Byte) (_ : State) : Except Status CauseSet :=
  if payload.length ≠ 2 then .error .badLength
  else if 512 ≤ field payload 0 2 then .error .badParam
  else .ok (BitVec.ofNat 9 (field payload 0 2))

/-- The link flags cleared (R175, R179). -/
def State.clearLinkFlags (s : State) : State := { s with corrupt := false, overrun := false }

/-- An accepted ATTN-ACK acts (R175). -/
def State.acknowledge (s : State) (set : CauseSet) : State :=
  let removed := { s with attnPending := s.attnPending.remove set }
  if set.has .link then removed.clearLinkFlags else removed

/-- ATTN-ACK (R175). -/
def attnAckRule : Handler CauseSet :=
  { check := causeSetCheck, act := fun set s => (s.acknowledge set, causeBytes (s.attnPending.remove set)) }

/-- ATTN_ACK (R175). -/
def execAttnAck (dt : Nat) (s : State) : Host.Outcome State Fault Refusal :=
  .next ((s.elapse dt).serve .attnAck attnAckRule)

/-- ATTN-MASK (R176). -/
def attnMaskRule : Handler CauseSet :=
  { check := causeSetCheck
    act := fun set s => ({ s with attnMask := set }, causeBytes s.attnPending ++ causeBytes set) }

/-- ATTN_MASK (R176). -/
def execAttnMask (dt : Nat) (s : State) : Host.Outcome State Fault Refusal :=
  .next ((s.elapse dt).serve .attnMask attnMaskRule)

/-- Whether a buffer is HELD (R170). -/
def isHeld : Buffer → Bool
  | .held _ => true
  | .taken _ => false
  | .sending _ => false

/-- The buffers at a RESTART (R179): the RESTART's own, which is the first HELD one, is kept, and a HELD one beside it is
dropped. -/
def dropOtherHeld : List Buffer → List Buffer
  | [] => []
  | .held r :: rest => .held r :: rest.filter fun b => !isHeld b
  | .taken r :: rest => .taken r :: dropOtherHeld rest
  | .sending r :: rest => .sending r :: dropOtherHeld rest

/-- RESTART acts on the link and its attention (R179). -/
def State.restartLink (s : State) : State :=
  { s with
    buffers := dropOtherHeld s.buffers, corrupt := false, overrun := false, attnPending := 0, attnMask := CauseSet.all }

/-- RESTART (R179). -/
def restartRule : Handler Unit :=
  { check := fun payload _ => emptyPayload payload (.ok ()), act := fun _ s => (s.restartLink, []) }

/-- RESTART (R179). -/
def execRestart (dt : Nat) (s : State) : Host.Outcome State Fault Refusal :=
  .next ((s.elapse dt).serve .restart restartRule)

end Sys2Proof.Machine
end

