-- ==== Sys2Proof/Machine/PressureEvents.lean ====
section
/-! DEFINITION. The events of the pressure channels and the two head requests (R70 to R86). -/

namespace Sys2Proof.Machine

/-! ### Samples (R70 to R73) -/

/-- A good sample of a zone channel is handed to the RI (R71, R56); a ring's sample and a bad one are not. -/
def State.handSample (s : State) (h : Head) (c : Chan) (pressure : Option Nat) : State :=
  match c, pressure with
  | .zone z, some p =>
    { s with windows := s.windows.set h ((s.windows.get h).set z (((s.windows.get h).get z).addSample p)) }
  | .zone _, none => s
  | .rr, _ => s

/-- A change of a channel's sensor fault is reported (R73, R159): a fault set adds SENSOR to the pass on the head and raises
FAULT; a fault cleared that leaves none on the head calls a start attempt. -/
def State.reportFault (s : State) (h : Head) (before after : Bool) : State :=
  if after && !before then (s.addCauseOf (s.runningAt h) .sensor).raise .fault
  else if before && !after && !s.headFault h then s.attemptOn h
  else s

/-- A sample of a channel is taken (R70 to R73). -/
def State.sample (s : State) (h : Head) (c : Chan) (code : BitVec 12) : State :=
  let pressure := samplePressure ((s.headSettings.get h).chans.get c) code
  let before := s.channel h c
  let after := before.takeSample pressure
  ((s.setChannel h c after).handSample h c pressure).reportFault h before.fault after.fault

/-- PRESSURE_SAMPLE (R70), at the moment the channel's next sample is due. -/
def execPressureSample (h : Head) (c : Chan) (code : BitVec 12) (s : State) : Host.Outcome State Fault Refusal :=
  .next ((s.runTo (s.channel h c).nextSample).sample h c code)

/-! ### Valves (R75, R77 to R79) -/

/-- VALVE_PERIOD_START (R77). -/
def execValvePeriodStart (h : Head) (c : Chan) (s : State) : Host.Outcome State Fault Refusal :=
  let t := s.runTo (s.channel h c).nextPeriod
  .next (t.setChannel h c ((t.channel h c).startPeriod t.clock (t.headSettings.get h).drive))

/-- A delayed pulse begins (R78): its valve opens. -/
def Channel.beginPulse (p : Pulse) (c : Channel) : Channel := c.setValve p.valve (c.valve p.valve).opened

/-- DELAYED_PULSE_START (R78): a channel without a pulse that waits has nothing to begin. -/
def execDelayedPulseStart (h : Head) (c : Chan) (s : State) : Host.Outcome State Fault Refusal :=
  .next
    (match (s.channel h c).waitingPulse with
    | none => s
    | some p => (s.runTo p.start).setChannel h c ((s.channel h c).beginPulse p))

/-- PULSE_END (R79): a channel without a pulse under way has nothing to end. -/
def execPulseEnd (h : Head) (c : Chan) (s : State) : Host.Outcome State Fault Refusal :=
  .next
    (match (s.channel h c).runningPulse with
    | none => s
    | some p => (s.runTo p.stop).setChannel h c ((s.channel h c).endPulse (s.runTo p.stop).clock))

/-- VENT_OPEN (R75): the vent valve of a VENT channel opens once the dead time has passed since the fill valve closed. -/
def execVentOpen (h : Head) (c : Chan) (s : State) : Host.Outcome State Fault Refusal :=
  let deadTime := (s.headSettings.get h).drive.deadTime
  let x := s.channel h c
  .next
    (if x.mode = .vent ∧ x.vent.isOpen = false then
      let t := s.runTo (x.fill.restedFrom deadTime)
      t.setChannel h c (x.openVentIfRested t.clock deadTime)
    else s)

/-! ### HEAD-WRITE (R84, R85) -/

/-- A head's settings for one head, as HEAD-WRITE carries them. -/
structure HeadWrite where
  head : Head
  settings : HeadSettings

/-- The checks of HEAD-WRITE, in order (R84). -/
def headWriteCheck (payload : List Byte) (_ : State) : Except Status HeadWrite :=
  if payload.length ≠ 43 then .error .badLength
  else match Head.ofNumber (field payload 0 1), readHeadSettings (payload.drop 1) with
    | some h, some x => .ok ⟨h, x⟩
    | _, _ => .error .badParam

/-- The zone-complete flag of a zone channel in the live progress of the pass running on a head (R85). -/
def State.zoneComplete (s : State) (h : Head) (c : Chan) : Bool :=
  match c, s.runningAt h with
  | .zone z, some i => s.passHas i fun r => match r.live with
    | some l => l.complete.get z
    | none => false
  | _, _ => false

/-- An accepted HEAD-WRITE acts (R85). -/
def State.writeHead (s : State) (w : HeadWrite) : State :=
  let oldDeadTime := (s.headSettings.get w.head).drive.deadTime
  let written := { s with headSettings := s.headSettings.set w.head w.settings }
  written.updateHead w.head fun c x =>
    x.applySettings s.clock oldDeadTime w.settings.drive (w.settings.chans.get c) (s.zoneComplete w.head c)

/-- HEAD-WRITE (R84, R85). -/
def headWriteRule : Handler HeadWrite :=
  { check := headWriteCheck, act := fun w s => (s.writeHead w, []) }

/-- HEAD_WRITE (R84). -/
def execHeadWrite (dt : Nat) (s : State) : Host.Outcome State Fault Refusal :=
  .next ((s.elapse dt).serve .headWrite headWriteRule)

/-! ### HEAD-READ (R86) -/

/-- The checks of HEAD-READ, in order (R86). -/
def headReadCheck (payload : List Byte) (_ : State) : Except Status Head :=
  if payload.length ≠ 1 then .error .badLength
  else match Head.ofNumber (field payload 0 1) with
    | some h => .ok h
    | none => .error .badParam

/-- The 73 bytes of HEAD-READ (R86). -/
def State.headBytes (s : State) (h : Head) : List Byte :=
  byte h.number :: (s.headSettings.get h).bytes ++ ((s.channels.get h).toList.map Channel.bytes).flatten

/-- HEAD-READ (R86). -/
def headReadRule : Handler Head :=
  { check := headReadCheck, act := fun h s => (s, s.headBytes h) }

/-- HEAD_READ (R86). -/
def execHeadRead (dt : Nat) (s : State) : Host.Outcome State Fault Refusal :=
  .next ((s.elapse dt).serve .headRead headReadRule)

end Sys2Proof.Machine
end

