-- ==== Sys2Proof/Machine/SettingsEvents.lean ====
section
/-! DEFINITION. The settings load and the settings save (R180 to R184). -/

namespace Sys2Proof.Machine

/-- The settings an image stores (R181, R182). -/
structure StoredSettings where
  heads : PerHead HeadSettings
  rows : List BlendRow
  phases : PhaseTable
  volumes : PerFeed Nat
  profiles : List Profile
  glaze : PerPlaten GlazeSettings
  mask : CauseSet

/-- The defaults (R69, R107, R126, R127, R174). -/
def StoredSettings.default : StoredSettings :=
  { heads := PerHead.all HeadSettings.default, rows := List.replicate 8 BlendRow.default, phases := defaultPhases,
    volumes := PerFeed.all defaultVolume, profiles := List.replicate 4 defaultProfile,
    glaze := PerPlaten.all GlazeSettings.default, mask := CauseSet.all }

/-- The offset in the body of the image of an offset in the image (R182). -/
def bodyOffset (imageOffset : Nat) : Nat := imageOffset - 5

/-- The heads of a body, each field in its range (R181, R182). -/
def readHeads (body : List Byte) : Option (PerHead HeadSettings) :=
  match readHeadSettings body, readHeadSettings (body.drop 42), readHeadSettings (body.drop 84),
      readHeadSettings (body.drop 126) with
  | some a, some b, some c, some d => some ⟨a, b, c, d⟩
  | _, _, _, _ => none

/-- `n` blend rows of 5 bytes each (R182). -/
def readRows : Nat → List Byte → Option (List BlendRow)
  | 0, _ => some []
  | n + 1, bs =>
    match readRow bs, readRows n (bs.drop 5) with
    | some r, some rest => some (r :: rest)
    | _, _ => none

/-- The phase table of a body: N and the first N entries (R182). -/
def readPhaseTable (bs : List Byte) : Option PhaseTable :=
  let n := field bs 0 1
  if within 1 32 n then readPhases ((bs.drop 1).take n) else none

/-- The stroke volumes of a body (R182). -/
def readVolumes (bs : List Byte) : Option (PerFeed Nat) :=
  let v : PerFeed Nat := ⟨field bs 0 2, field bs 2 2, field bs 4 2⟩
  if volumeInRange v.a && volumeInRange v.b && volumeInRange v.c then some v else none

/-- `n` profiles of 41 bytes each: the segments beyond the count are ignored (R182). -/
def readProfiles : Nat → List Byte → Option (List Profile)
  | 0, _ => some []
  | n + 1, bs =>
    if within 1 10 (field bs 0 1) then
      match readSegments (field bs 0 1) (bs.drop 1), readProfiles n (bs.drop 41) with
      | some p, some rest => some (p :: rest)
      | _, _ => none
    else none

/-- The glaze settings of a body (R182). -/
def readGlazes (bs : List Byte) : Option (PerPlaten GlazeSettings) :=
  match readGlaze bs, readGlaze (bs.drop 3), readGlaze (bs.drop 6) with
  | some a, some b, some c => some ⟨a, b, c⟩
  | _, _, _ => none

/-- The attention mask of a body: bits 9 to 15 are 0 (R176, R181). -/
def readMask (bs : List Byte) : Option CauseSet :=
  if field bs 0 2 < 512 then some (BitVec.ofNat 9 (field bs 0 2)) else none

/-- The settings a body spells, when every field lies in its range (check 5 of R181). -/
def readBody (body : List Byte) : Option StoredSettings :=
  match readHeads body, readRows 8 (body.drop (bodyOffset 173)), readPhaseTable (body.drop (bodyOffset 213)),
      readVolumes (body.drop (bodyOffset 246)), readProfiles 4 (body.drop (bodyOffset 252)),
      readGlazes (body.drop (bodyOffset 416)), readMask (body.drop (bodyOffset 425)) with
  | some heads, some rows, some phases, some volumes, some profiles, some glaze, some mask =>
    some { heads, rows, phases, volumes, profiles, glaze, mask }
  | _, _, _, _, _, _, _ => none

/-- Whether the EEPROM acknowledged every byte the load reads (check 1 of R181); `nack` is the first byte it did not
acknowledge. -/
def allAcknowledged : Option Nat → Bool
  | none => true
  | some n => decide (imageBytes ≤ n)

/-- The settings of an image that is good by R181; none for an image that fails a check. -/
def judgeImage (nack : Option Nat) (bytes : List Byte) : Option StoredSettings :=
  let body := bytes.drop 5
  if allAcknowledged nack && decide (field bytes 2 1 = 1) && decide (field bytes 0 2 = bodyLength) &&
      decide (field bytes 3 2 = bodySum body) then readBody body
  else none

/-- A feed with a stroke volume and a phase table applied: the pointer at 0 (R121, R181). -/
def FeedUnit.apply (x : FeedUnit) (volume : Nat) (phases : PhaseTable) : FeedUnit :=
  { x with volume, active := phases, pointer := 0 }

/-- Settings applied whole (R181). -/
def State.applySettings (s : State) (x : StoredSettings) : State :=
  { s with
    headSettings := x.heads
    rows := Vector.ofFn fun i => x.rows.getD i.val BlendRow.default
    feeds := ⟨s.feeds.a.apply x.volumes.a x.phases, s.feeds.b.apply x.volumes.b x.phases,
      s.feeds.c.apply x.volumes.c x.phases⟩
    staged := x.phases
    profiles := Vector.ofFn fun i => x.profiles.getD i.val defaultProfile
    glazeSettings := x.glaze
    attnMask := x.mask }

/-- The end of the load (R181): the image or the defaults are applied whole, and the part is READY. -/
def State.endLoad (s : State) (nack : Option Nat) : State :=
  match judgeImage nack (readCells 0 imageBytes s.eeprom) with
  | some x => { s.applySettings x with startUp := .ready }
  | none => { s.applySettings StoredSettings.default with startUp := .ready, defaulted := true }.raise .settings

/-- SETTINGS_LOAD (R181): the EEPROM read ends; a part that is READY reads nothing. -/
def execSettingsLoad (dt : Nat) (nack : Option Nat) (s : State) : Host.Outcome State Fault Refusal :=
  .next (if s.startUp = .loading then (s.elapse dt).endLoad nack else s.elapse dt)

/-! ### The save (R183) -/

/-- The image being written, if a save is under way (R183). -/
def State.writingImage (s : State) : Option (List Byte) :=
  match s.save with
  | .writing image => some image
  | .none => none
  | .done => none
  | .failed => none

/-- A save ends with the first bytes of its image written (R183). -/
def State.endSave (s : State) (written : List Byte) (outcome : SaveState) : State :=
  { s with eeprom := writeCells 0 written s.eeprom, save := outcome }.raise .settings

/-- SAVE_DONE (R183); with no save under way there is none to end. -/
def execSaveDone (dt : Nat) (s : State) : Host.Outcome State Fault Refusal :=
  .next
    (match s.writingImage with
    | some image => (s.elapse dt).endSave image .done
    | none => s.elapse dt)

/-- SAVE_FAILED (R183): the byte after the `written` first ones is not acknowledged. -/
def execSaveFailed (dt : Nat) (written : Nat) (s : State) : Host.Outcome State Fault Refusal :=
  .next
    (match s.writingImage with
    | some image => (s.elapse dt).endSave (image.take written) .failed
    | none => s.elapse dt)

/-- SETTINGS-SAVE (R183). -/
def settingsSaveRule : Handler Unit :=
  { check := fun payload s => emptyPayload payload (if s.writingImage.isSome then .error .busy else .ok ())
    act := fun _ s => ({ s with save := .writing s.image }, []) }

/-- SETTINGS_SAVE (R183). -/
def execSettingsSave (dt : Nat) (s : State) : Host.Outcome State Fault Refusal :=
  .next ((s.elapse dt).serve .settingsSave settingsSaveRule)

end Sys2Proof.Machine
end

