-- ==== Sys2Proof/Machine/ResetEvents.lean ====
section
/-! DEFINITION. The two full resets (R180, R184). -/

namespace Sys2Proof.Machine

/-- The EEPROM at a full reset: a save under way ends with the bytes it has written (R184). -/
def State.eepromAtReset (s : State) (written : Nat) : List Host.Cell :=
  match s.writingImage with
  | some image => writeCells 0 (image.take written) s.eeprom
  | none => s.eeprom

/-- A full reset ends (R180): every block takes its reset values, the EEPROM keeps its bytes. -/
def State.fullReset (s : State) (pins : PinLevels) (written : Nat) : State :=
  State.afterReset pins (s.eepromAtReset written) s.pending

/-- POWER_ON_RESET (R180). -/
def execPowerOnReset (pins : PinLevels) (written : Nat) (s : State) : Host.Outcome State Fault Refusal :=
  .next (s.fullReset pins written)

/-- RESET_PIN (R180). -/
def execResetPin (pins : PinLevels) (written : Nat) (s : State) : Host.Outcome State Fault Refusal :=
  .next (s.fullReset pins written)

end Sys2Proof.Machine
end

