-- ==== Sys2Proof/Machine/SlurryEvents.lean ====
section
/-! DEFINITION. Stroke slots, the arbiter, and the requests of the Slurry Delivery Unit (R107 to R125). -/

namespace Sys2Proof.Machine

/-! ### Stroke slots (R112 to R117) -/

/-- The stroke slot, in microseconds (R112). -/
def slotPeriod : Nat := 5000

/-- The demand of one slot of a feed on one platen (R113); a platen that does not dispense gains none. -/
def State.addDemandOn (f : Feed) (s : State) (p : Platen) : State :=
  let x := s.supply.get p
  match x.dispensing with
  | some row => s.setSupply p (x.addDemand f (s.feeds.get f).volume (s.row row))
  | none => s

/-- The demand of one slot of a feed on every platen (R113). -/
def State.slotDemand (s : State) (f : Feed) : State := platens.foldl (State.addDemandOn f) s

/-- The platens in cyclic order from one on (R114). -/
def platenCycle : Platen → List Platen
  | .p0 => [.p0, .p1, .p2]
  | .p1 => [.p1, .p2, .p0]
  | .p2 => [.p2, .p0, .p1]

/-- Whether a platen has a pending stroke on a feed. -/
def State.hasStroke (s : State) (f : Feed) (p : Platen) : Bool := decide (0 < (s.supply.get p).strokes.get f)

/-- The entry at a feed's phase pointer; IDLE beyond the table, where no pointer stands (notes/assumptions/26.md). -/
def FeedUnit.entry (x : FeedUnit) : Option Platen :=
  match x.active[x.pointer]? with
  | some e => e
  | none => none

/-- The candidate of a slot (R114). -/
def State.candidate (s : State) (f : Feed) : Option Platen :=
  match (s.feeds.get f).entry with
  | some p => (platenCycle p).find? (s.hasStroke f)
  | none => none

/-- The stroke threshold of a dispensing platen on a feed (R113); 0 when it does not dispense, and then no stroke pends. -/
def State.thresholdOn (s : State) (f : Feed) (p : Platen) : Nat :=
  match (s.supply.get p).dispensing with
  | some row => threshold (s.feeds.get f).volume (s.row row)
  | none => 0

/-- A grant on a feed to a platen (R115): the stroke is taken from its demand, the diverter moves, the pump pulses. -/
def State.grant (s : State) (f : Feed) (p : Platen) : State :=
  (s.setSupply p ((s.supply.get p).takeStroke f (s.thresholdOn f p))).setFeed f
    { s.feeds.get f with diverter := p, pulse := true }

/-- A supply loss on a feed, when a debit is to report one (R93, R96, R116). -/
def State.supplyLossIf (s : State) (b : Bool) (f : Feed) : State := if b then s.supplyLoss f else s

/-- The grant of a slot with a candidate (R115, R116): feed C without a debit, feeds A and B by the Item Table's decision. -/
def State.grantTo (s : State) (f : Feed) (p : Platen) : State :=
  match feedPosition f with
  | none => s.grant f p
  | some _ =>
    let d := s.debit f (s.feeds.get f).volume
    (if d.accepted then d.state.grant f p else d.state).supplyLossIf d.supplyLoss f

/-- The demand and the grant of a slot (R112 to R116); while the trip latch is set it has neither (R120). -/
def State.slotGrant (s : State) (f : Feed) : State :=
  if s.tripLatch then s
  else
    let asked := s.slotDemand f
    match asked.candidate f with
    | some p => asked.grantTo f p
    | none => asked

/-- Whether every feed has taken the staged table. -/
def allTaken (taken : PerFeed Bool) : Bool := taken.a && taken.b && taken.c

/-- A feed takes the staged table at a wrap, when a load is armed and it has not yet taken it (R117). -/
def State.takeTable (s : State) (f : Feed) : State :=
  match s.load with
  | none => s
  | some taken =>
    if taken.get f then s
    else
      let now := taken.set f true
      { s.setFeed f { s.feeds.get f with active := s.staged } with load := if allTaken now then none else some now }

/-- The phase pointer advances (R117). -/
def State.advancePointer (s : State) (f : Feed) : State :=
  let x := s.feeds.get f
  if x.active.length ≤ x.pointer + 1 then (s.setFeed f { x with pointer := 0 }).takeTable f
  else s.setFeed f { x with pointer := x.pointer + 1 }

/-- A slot begins (R112): the next one is due a slot period later, and the pulse of the slot before has ended (R115;
notes/assumptions/15.md). -/
def State.beginSlot (s : State) (f : Feed) : State :=
  let t := s.runTo (s.feeds.get f).nextSlot
  t.setFeed f { t.feeds.get f with nextSlot := (t.feeds.get f).nextSlot + slotPeriod, pulse := false }

/-- STROKE_SLOT (R112); while LOADING the slot is taken and does nothing (R121). -/
def execStrokeSlot (f : Feed) (s : State) : Host.Outcome State Fault Refusal :=
  let t := s.beginSlot f
  .next (if t.startUp = .loading then t else (t.slotGrant f).advancePointer f)

/-- PUMP_PULSE_END (R115). -/
def execPumpPulseEnd (dt : Nat) (f : Feed) (s : State) : Host.Outcome State Fault Refusal :=
  .next ((s.elapse dt).setFeed f { s.feeds.get f with pulse := false })

/-! ### BLEND-WRITE (R109) -/

/-- Whether a running step names a blend row (R109). -/
def State.rowInUse (s : State) (row : Fin 8) : Bool :=
  s.anyPass fun r => r.running && match r.step with
    | some st => decide (st.blendRow = row)
    | none => false

/-- The length of a BLEND-WRITE payload: the row number and the five bytes of the row. R109 says 5 and lists six bytes of
fields; the model takes the fields (notes/assumptions/17.md). -/
def blendWriteLength : Nat := 6

/-- The checks of BLEND-WRITE, in order (R109). -/
def blendWriteCheck (payload : List Byte) (s : State) : Except Status (Fin 8 × BlendRow) :=
  if payload.length ≠ blendWriteLength then .error .badLength
  else match indexBelow 8 (field payload 0 1), readRow (payload.drop 1) with
    | some i, some row => if s.rowInUse i then .error .busy else .ok (i, row)
    | _, _ => .error .badParam

/-- BLEND-WRITE (R109). -/
def blendWriteRule : Handler (Fin 8 × BlendRow) :=
  { check := blendWriteCheck, act := fun a s => ({ s with rows := putAt s.rows a.1 a.2 }, []) }

/-- BLEND_WRITE (R109). -/
def execBlendWrite (dt : Nat) (s : State) : Host.Outcome State Fault Refusal :=
  .next ((s.elapse dt).serve .blendWrite blendWriteRule)

/-! ### FEED-WRITE (R110) -/

/-- The checks of FEED-WRITE, in order (R110). -/
def feedWriteCheck (payload : List Byte) (_ : State) : Except Status (Feed × Nat) :=
  if payload.length ≠ 3 then .error .badLength
  else match Feed.ofNumber (field payload 0 1) with
    | some f => if volumeInRange (field payload 1 2) then .ok (f, field payload 1 2) else .error .badParam
    | none => .error .badParam

/-- A feed's demand and pending strokes on one platen dropped (R110). -/
def PlatenSupply.dropFeed (f : Feed) (x : PlatenSupply) : PlatenSupply :=
  { x with demand := x.demand.set f 0, strokes := x.strokes.set f 0 }

/-- An accepted FEED-WRITE acts (R110): a new volume drops the feed's demand. -/
def State.writeFeed (s : State) (f : Feed) (volume : Nat) : State :=
  if (s.feeds.get f).volume = volume then s
  else { s.setFeed f { s.feeds.get f with volume } with supply := s.supply.map (PlatenSupply.dropFeed f) }

/-- FEED-WRITE (R110). -/
def feedWriteRule : Handler (Feed × Nat) :=
  { check := feedWriteCheck, act := fun a s => (s.writeFeed a.1 a.2, []) }

/-- FEED_WRITE (R110). -/
def execFeedWrite (dt : Nat) (s : State) : Host.Outcome State Fault Refusal :=
  .next ((s.elapse dt).serve .feedWrite feedWriteRule)

/-! ### PHASE-WRITE and PHASE-LOAD (R118, R119) -/

/-- The checks of PHASE-WRITE, in order (R118). -/
def phaseWriteCheck (payload : List Byte) (s : State) : Except Status PhaseTable :=
  if payload.length = 0 then .error .badLength
  else if !within 1 32 (field payload 0 1) then .error .badParam
  else if payload.length ≠ 1 + field payload 0 1 then .error .badLength
  else match readPhases (payload.drop 1) with
    | none => .error .badParam
    | some t => if s.load.isSome then .error .busy else .ok t

/-- PHASE-WRITE (R118). -/
def phaseWriteRule : Handler PhaseTable :=
  { check := phaseWriteCheck, act := fun t s => ({ s with staged := t }, []) }

/-- PHASE_WRITE (R118). -/
def execPhaseWrite (dt : Nat) (s : State) : Host.Outcome State Fault Refusal :=
  .next ((s.elapse dt).serve .phaseWrite phaseWriteRule)

/-- PHASE-LOAD (R119). -/
def phaseLoadRule : Handler Unit :=
  { check := fun payload s => emptyPayload payload (if s.load.isSome then .error .busy else .ok ())
    act := fun _ s => ({ s with load := some (PerFeed.all false) }, []) }

/-- PHASE_LOAD (R119). -/
def execPhaseLoad (dt : Nat) (s : State) : Host.Outcome State Fault Refusal :=
  .next ((s.elapse dt).serve .phaseLoad phaseLoadRule)

/-! ### SLURRY-READ (R125) -/

/-- SLURRY-READ (R125). -/
def slurryReadRule : Handler Unit :=
  { check := fun payload _ => emptyPayload payload (.ok ()), act := fun _ s => (s, s.slurryBytes) }

/-- SLURRY_READ (R125). -/
def execSlurryRead (dt : Nat) (s : State) : Host.Outcome State Fault Refusal :=
  .next ((s.elapse dt).serve .slurryRead slurryReadRule)

end Sys2Proof.Machine
end

