-- ==== Sys2Proof/Machine/StepEvents.lean ====
section
/-! DEFINITION. The step timer and the external endpoint (R27, R36, R37, R42). -/

namespace Sys2Proof.Machine

/-- The unit of the polish time, in microseconds (R36). -/
def polishUnit : Nat := 100000

/-- The POLISHING pass on a head, whose step timer runs (R27). -/
def State.polishingAt (s : State) (h : Head) : Option PassSlot :=
  s.findPass fun r => decide (r.state = .polishing ∧ r.head = some h)

/-- The moment at which a POLISHING pass's remainder reaches `units` times 100,000 µs. -/
def LiveProgress.timerDue (l : LiveProgress) (units : Nat) : Nat := l.timerFrom + (units * polishUnit - l.remainder)

/-- The polish time rises by some units, and the remainder goes back by as many (R36). -/
def LiveProgress.advance (l : LiveProgress) (units now : Nat) : LiveProgress :=
  { l with
    polishTime := l.polishTime + units
    remainder := l.remainder + (now - l.timerFrom) - units * polishUnit
    timerFrom := now }

/-- The step timer of the pass of a slot advances by some units: time runs to the moment that takes, and the step ends when
the polish time has risen to its time limit (R36, R37). -/
def State.advanceTimer (s : State) (i : PassSlot) (r : Pass) (l : LiveProgress) (st : StepProgram) (units : Nat) : State :=
  let now := s.runTo (l.timerDue units)
  let written := now.setPass i (some { r with live := some (l.advance units now.clock) })
  if st.timeLimit ≤ l.polishTime + units then written.endStep i st.mode.timerEnd else written

/-- The step timer of the POLISHING pass on a head moves on by the units that a rule of its live progress and its step
gives; a head without one has no step timer that runs (R27). -/
def State.runStepTimer (s : State) (h : Head) (units : LiveProgress → StepProgram → Nat) : State :=
  match s.polishingAt h with
  | none => s
  | some i =>
    match s.pass i with
    | none => s
    | some r =>
      match r.live, r.step with
      | some l, some st => s.advanceTimer i r l st (units l st)
      | _, _ => s

/-- POLISH_TIME_ADVANCE (R36): the remainder reaches 100,000 µs. -/
def execPolishTimeAdvance (h : Head) (s : State) : Host.Outcome State Fault Refusal :=
  .next (s.runStepTimer h fun _ _ => 1)

/-- STEP_TIMER_EXPIRY (R37): the polish time rises to the time limit (notes/assumptions/10.md). -/
def execStepTimerExpiry (h : Head) (s : State) : Host.Outcome State Fault Refusal :=
  .next (s.runStepTimer h fun l st => st.timeLimit - l.polishTime)

/-- Whether a rising edge of the endpoint input ends the step of a pass (R42). -/
def Pass.endsAtEdge (r : Pass) : Bool :=
  match r.live, r.step with
  | some l, some st => decide (r.state = .polishing ∧ st.mode = .external ∧ l.settleLeft = 0)
  | _, _ => false

/-- A rising edge of a platen's endpoint input (R42). -/
def State.endpointRises (s : State) (p : Platen) : State :=
  match s.runningOn p with
  | none => s
  | some i => if s.passHas i Pass.endsAtEdge then s.endStep i .complete else s

/-- The last level of a platen's endpoint input written (R27). -/
def State.setEndpointLevel (s : State) (p : Platen) (level : Bool) : State :=
  { s with endpointLevel := s.endpointLevel.set p level }

/-- ENDPOINT_EDGE (R42): the input goes high; one that is high already makes no edge (R27). -/
def execEndpointEdge (dt : Nat) (p : Platen) (s : State) : Host.Outcome State Fault Refusal :=
  .next
    (if s.endpointLevel.get p then s.elapse dt
    else ((s.elapse dt).setEndpointLevel p true).endpointRises p)

/-- ENDPOINT_FALLING_EDGE (R27). -/
def execEndpointFallingEdge (dt : Nat) (p : Platen) (s : State) : Host.Outcome State Fault Refusal :=
  .next ((s.elapse dt).setEndpointLevel p false)

end Sys2Proof.Machine
end

