-- ==== Sys2Proof/Machine/Dispatch.lean ====
section
/-! DEFINITION. The meaning of every command: one arm per constructor. -/

namespace Sys2Proof.Machine

/-- What a command does to the state of the part. -/
def exec (i : Instr) (s : State) : Host.Outcome State Fault Refusal :=
  match i with
  | .powerOnReset pins written => Sys2Proof.Machine.execPowerOnReset pins written s
  | .resetPin pins written => Sys2Proof.Machine.execResetPin pins written s
  | .settingsLoad dt nack => Sys2Proof.Machine.execSettingsLoad dt nack s
  | .saveDone dt => Sys2Proof.Machine.execSaveDone dt s
  | .saveFailed dt written => Sys2Proof.Machine.execSaveFailed dt written s
  | .lineBreak dt lowBits => Sys2Proof.Machine.execLineBreak dt lowBits s
  | .strayByte dt ch => Sys2Proof.Machine.execStrayByte dt ch s
  | .idleLimit => Sys2Proof.Machine.execIdleLimit s
  | .frameComplete dt ch => Sys2Proof.Machine.execFrameComplete dt ch s
  | .responseStart dt => Sys2Proof.Machine.execResponseStart dt s
  | .responseEnd dt => Sys2Proof.Machine.execResponseEnd dt s
  | .unknown dt => Sys2Proof.Machine.execUnknown dt s
  | .status dt => Sys2Proof.Machine.execStatus dt s
  | .identify dt => Sys2Proof.Machine.execIdentify dt s
  | .attnAck dt => Sys2Proof.Machine.execAttnAck dt s
  | .attnMask dt => Sys2Proof.Machine.execAttnMask dt s
  | .restart dt => Sys2Proof.Machine.execRestart dt s
  | .passCreate dt => Sys2Proof.Machine.execPassCreate dt s
  | .passLookup dt => Sys2Proof.Machine.execPassLookup dt s
  | .passList dt => Sys2Proof.Machine.execPassList dt s
  | .passBind dt => Sys2Proof.Machine.execPassBind dt s
  | .passAmend dt => Sys2Proof.Machine.execPassAmend dt s
  | .passAbort dt => Sys2Proof.Machine.execPassAbort dt s
  | .passRetire dt => Sys2Proof.Machine.execPassRetire dt s
  | .passHold dt => Sys2Proof.Machine.execPassHold dt s
  | .passResume dt => Sys2Proof.Machine.execPassResume dt s
  | .tripClear dt => Sys2Proof.Machine.execTripClear dt s
  | .itemRegister dt => Sys2Proof.Machine.execItemRegister dt s
  | .itemLookup dt => Sys2Proof.Machine.execItemLookup dt s
  | .itemList dt => Sys2Proof.Machine.execItemList dt s
  | .itemMount dt => Sys2Proof.Machine.execItemMount dt s
  | .itemDismount dt => Sys2Proof.Machine.execItemDismount dt s
  | .itemAdjust dt => Sys2Proof.Machine.execItemAdjust dt s
  | .itemRetire dt => Sys2Proof.Machine.execItemRetire dt s
  | .headWrite dt => Sys2Proof.Machine.execHeadWrite dt s
  | .headRead dt => Sys2Proof.Machine.execHeadRead dt s
  | .blendWrite dt => Sys2Proof.Machine.execBlendWrite dt s
  | .feedWrite dt => Sys2Proof.Machine.execFeedWrite dt s
  | .phaseWrite dt => Sys2Proof.Machine.execPhaseWrite dt s
  | .phaseLoad dt => Sys2Proof.Machine.execPhaseLoad dt s
  | .slurryRead dt => Sys2Proof.Machine.execSlurryRead dt s
  | .profileWrite dt => Sys2Proof.Machine.execProfileWrite dt s
  | .platenWrite dt => Sys2Proof.Machine.execPlatenWrite dt s
  | .conditioningRead dt => Sys2Proof.Machine.execConditioningRead dt s
  | .carouselIndex dt => Sys2Proof.Machine.execCarouselIndex dt s
  | .carouselSync dt code => Sys2Proof.Machine.execCarouselSync dt code s
  | .settingsSave dt => Sys2Proof.Machine.execSettingsSave dt s
  | .tripEvent dt => Sys2Proof.Machine.execTripEvent dt s
  | .estopRelease dt => Sys2Proof.Machine.execEstopRelease dt s
  | .polishTimeAdvance h => Sys2Proof.Machine.execPolishTimeAdvance h s
  | .stepTimerExpiry h => Sys2Proof.Machine.execStepTimerExpiry h s
  | .endpointEdge dt p => Sys2Proof.Machine.execEndpointEdge dt p s
  | .platenIndexEdge dt p => Sys2Proof.Machine.execPlatenIndexEdge dt p s
  | .stallTimerExpiry p => Sys2Proof.Machine.execStallTimerExpiry p s
  | .pressureSample h c code => Sys2Proof.Machine.execPressureSample h c code s
  | .valvePeriodStart h c => Sys2Proof.Machine.execValvePeriodStart h c s
  | .delayedPulseStart h c => Sys2Proof.Machine.execDelayedPulseStart h c s
  | .pulseEnd h c => Sys2Proof.Machine.execPulseEnd h c s
  | .ventOpen h c => Sys2Proof.Machine.execVentOpen h c s
  | .strokeSlot f => Sys2Proof.Machine.execStrokeSlot f s
  | .pumpPulseEnd dt f => Sys2Proof.Machine.execPumpPulseEnd dt f s
  | .minuteTick => Sys2Proof.Machine.execMinuteTick s
  | .dwellExpiry p => Sys2Proof.Machine.execDwellExpiry p s
  | .carouselIndexCompletion dt code => Sys2Proof.Machine.execCarouselIndexCompletion dt code s
  | .indexTimerExpiry => Sys2Proof.Machine.execIndexTimerExpiry s
  | .byteArrivesReceiving dt ch => Sys2Proof.Machine.execByteArrivesReceiving dt ch s
  | .indexFallingEdge dt p => Sys2Proof.Machine.execIndexFallingEdge dt p s
  | .cdoneFallingEdge dt => Sys2Proof.Machine.execCdoneFallingEdge dt s
  | .endpointFallingEdge dt p => Sys2Proof.Machine.execEndpointFallingEdge dt p s

end Sys2Proof.Machine
end

