-- ==== Sys2Proof/Machine/Lines.lean ====
section
/-! DEFINITION. The part's output lines, read from the state (0.7 of 00_scope.md; R68, R115, R128, R142, R172, R174). -/

namespace Sys2Proof.Machine

/-- ATTN: active while a cause is both pending and in the mask (R174). -/
def State.attnLine (s : State) : Bool := s.attn

/-- The frame on LTX; none while the transmitter is idle and LTX high (R166, R172). -/
def State.ltxFrame (s : State) : Option (List Byte) := (sendingResponse s.buffers).map Response.frame

/-- The bits on LTX, from the break on; none while it is high (R172). -/
def State.ltxBits (s : State) : Option (List Bool) := (sendingResponse s.buffers).map Response.lineBits

/-- FILL: the fill valve line of a channel (R68). -/
def State.fillLine (s : State) (h : Head) (c : Chan) : Bool := (s.channel h c).fill.isOpen

/-- VNT: the vent valve line of a channel (R68). -/
def State.ventLine (s : State) (h : Head) (c : Chan) : Bool := (s.channel h c).vent.isOpen

/-- PUMP: the stroke pulse of a feed's pump (R115). -/
def State.pumpLine (s : State) (f : Feed) : Bool := (s.feeds.get f).pulse

/-- DIV: the diverter code of a feed (R115). -/
def State.diverterLines (s : State) (f : Feed) : BitVec 2 := BitVec.ofNat 2 (s.feeds.get f).diverter.number

/-- ARMn PARK: active while the arm is PARKED (R128). -/
def State.parkLine (s : State) (p : Platen) : Bool := !(s.arms.get p).sweeping

/-- The direction line of ARMn, true for INWARD: the direction while SWEEPING (R128); while PARKED the manual gives none, a
free value (notes/assumptions/16.md). -/
def State.directionLine (s : State) (p : Platen) : Bool :=
  if (s.arms.get p).sweeping then decide ((s.arms.get p).direction = .inward) else Config.parkedDirectionLine p

/-- ARMn FORCE: the downforce of the current segment while SWEEPING, 0 while PARKED (R128). -/
def State.forceLine (s : State) (p : Platen) : Nat :=
  let a := s.arms.get p
  if a.sweeping then
    match sweepSegment (s.armProfile p) a.direction a.segment with
    | some g => g.force
    | none => 0
  else 0

/-- CDRV: the drive request (R142). -/
def State.driveLine (s : State) : Bool := s.carousel.drive

end Sys2Proof.Machine
end

