-- ==== Sys2Proof/Safety.lean ====
section
/-! DEFINITION. What a safe run is: every step answers a next state, and what is attached to the part stays apart as the
manual says it must. -/

namespace Sys2Proof.Machine

/-! ### Frames -/

/-- The fields that only resets, settings, the link, the clock and the input levels change. -/
structure Kept (s t : State) : Prop where
  clock : t.clock = s.clock
  endpointLevel : t.endpointLevel = s.endpointLevel
  headSettings : t.headSettings = s.headSettings
  nextMinute : t.nextMinute = s.nextMinute
  rows : t.rows = s.rows
  staged : t.staged = s.staged
  load : t.load = s.load
  glazeSettings : t.glazeSettings = s.glazeSettings
  profiles : t.profiles = s.profiles
  estop : t.estop = s.estop
  receiver : t.receiver = s.receiver
  buffers : t.buffers = s.buffers
  corrupt : t.corrupt = s.corrupt
  overrun : t.overrun = s.overrun
  fastLink : t.fastLink = s.fastLink
  attnMask : t.attnMask = s.attnMask
  startUp : t.startUp = s.startUp
  defaulted : t.defaulted = s.defaulted
  save : t.save = s.save
  eeprom : t.eeprom = s.eeprom
  pending : t.pending = s.pending

/-- What an operation of the running station leaves alone: those fields, the carousel, the trip latch, the feeds and what the
RI holds. -/
structure KeptStation (s t : State) : Prop where
  outside : Kept s t
  rotation : t.rotation = s.rotation
  windows : t.windows = s.windows
  feeds : t.feeds = s.feeds
  carousel : t.carousel = s.carousel
  tripLatch : t.tripLatch = s.tripLatch

/-- What an operation leaves alone that may also change the feeds and what the RI holds. -/
structure Steady (s t : State) : Prop where
  outside : Kept s t
  carousel : t.carousel = s.carousel
  tripLatch : t.tripLatch = s.tripLatch

/-! ### Taking a request -/

/-- The part is READY and the request it takes next is of a name, with a tag and a payload (R171, R173). -/
def Offers (s : State) (name : RequestName) (tag : Byte) (payload : List Byte) : Prop :=
  s.startUp = .ready ∧
    ∃ code : Byte, RequestName.ofCode code.toNat = some name ∧ takeable s.buffers = some ⟨tag, code, payload⟩

/-- The request a command takes, if it takes one, with the time the command brings. -/
def takenRequest : Instr → Option (RequestName × Nat)
  | .status dt => some (.status, dt)
  | .identify dt => some (.identify, dt)
  | .attnAck dt => some (.attnAck, dt)
  | .attnMask dt => some (.attnMask, dt)
  | .restart dt => some (.restart, dt)
  | .passCreate dt => some (.passCreate, dt)
  | .passLookup dt => some (.passLookup, dt)
  | .passList dt => some (.passList, dt)
  | .passBind dt => some (.passBind, dt)
  | .passAmend dt => some (.passAmend, dt)
  | .passAbort dt => some (.passAbort, dt)
  | .passRetire dt => some (.passRetire, dt)
  | .passHold dt => some (.passHold, dt)
  | .passResume dt => some (.passResume, dt)
  | .tripClear dt => some (.tripClear, dt)
  | .itemRegister dt => some (.itemRegister, dt)
  | .itemLookup dt => some (.itemLookup, dt)
  | .itemList dt => some (.itemList, dt)
  | .itemMount dt => some (.itemMount, dt)
  | .itemDismount dt => some (.itemDismount, dt)
  | .itemAdjust dt => some (.itemAdjust, dt)
  | .itemRetire dt => some (.itemRetire, dt)
  | .headWrite dt => some (.headWrite, dt)
  | .headRead dt => some (.headRead, dt)
  | .blendWrite dt => some (.blendWrite, dt)
  | .feedWrite dt => some (.feedWrite, dt)
  | .phaseWrite dt => some (.phaseWrite, dt)
  | .phaseLoad dt => some (.phaseLoad, dt)
  | .slurryRead dt => some (.slurryRead, dt)
  | .profileWrite dt => some (.profileWrite, dt)
  | .platenWrite dt => some (.platenWrite, dt)
  | .conditioningRead dt => some (.conditioningRead, dt)
  | .carouselIndex dt => some (.carouselIndex, dt)
  | .carouselSync dt _ => some (.carouselSync, dt)
  | .settingsSave dt => some (.settingsSave, dt)
  | _ => none

/-- A command answers a request: its next state is a state with the response put in the request's buffer (R171, R173). -/
def Answers (c : Instr) (s t : State) (tag : Byte) (status : Status) (reply : List Byte) : Prop :=
  exec c s = .next (t.respond ⟨tag, status, reply⟩)

/-- The value of two bytes, least significant first (0.5). -/
def le2 (lo hi : Byte) : Nat := lo.toNat + 256 * hi.toNat

/-- The value of four bytes, least significant first (0.5). -/
def le4 (a b c d : Byte) : Nat := a.toNat + 256 * b.toNat + 65536 * c.toNat + 16777216 * d.toNat

/-- A PASS-AMEND from its mask on (R17): the mask, then the bytes of the fields it names. -/
def Amend.wire (a : Amend) : List Byte :=
  byte (flagBit a.targets.isSome 0 + flagBit a.bases.isSome 1 + flagBit a.timeLimit.isSome 2 + flagBit a.gain.isSome 3) ::
    ((match a.targets with | some t => (t.toList.map (leBytes 2)).flatten | none => []) ++
      (match a.bases with | some b => (b.toList.map (leBytes 2)).flatten | none => []) ++
      (match a.timeLimit with | some t => leBytes 2 t | none => []) ++
      match a.gain with | some g => [byte g] | none => [])

/-- An amend whose values fit the bytes PASS-AMEND gives them (R17). -/
def Amend.fitsWire (a : Amend) : Prop :=
  (∀ t, a.targets = some t → ∀ z, t.get z < 65536) ∧ (∀ b, a.bases = some b → ∀ z, b.get z < 65536) ∧
    (∀ v, a.timeLimit = some v → v < 65536) ∧ ∀ v, a.gain = some v → v < 256

/-- The 39 bytes of a step program spell one that is valid by R6, field by field at the offsets of R25. -/
def spellsValidStep (b : List Byte) : Prop :=
  field b 0 1 ≤ 2 ∧ field b 1 1 ≤ 2 ∧ 1 ≤ field b 2 2 ∧ field b 2 2 ≤ 6000 ∧ 1 ≤ field b 4 2 ∧ field b 6 1 ≤ 7 ∧
    ((field b 7 1 = 0 ∧ field b 8 1 = 0 ∧ field b 9 1 = 0) ∨ (field b 7 1 = 1 ∧ field b 8 1 ≤ 3 ∧ field b 9 1 = 0) ∨
      (field b 7 1 = 2 ∧ field b 8 1 ≤ 3 ∧ 1 ≤ field b 9 1 ∧ field b 9 1 ≤ 15)) ∧
    field b 10 2 ≤ 700 ∧ field b 12 1 ≤ 15 ∧ 1 ≤ field b 14 1 ∧ field b 14 1 ≤ 100 ∧
    (∀ z, z < 4 → field b (15 + 6 * z) 2 ≤ 700 ∧ field b (17 + 6 * z) 2 ≤ 60000 ∧ 1 ≤ field b (19 + 6 * z) 2 ∧
      field b (19 + 6 * z) 2 ≤ 8000) ∧
    (field b 1 1 = 0 → ∃ z, z < 4 ∧ 0 < field b (17 + 6 * z) 2)

/-- An ITEM-ADJUST from its mask on (R104): the mask, then the bytes of the fields it names. -/
def Adjust.wire (a : Adjust) : List Byte :=
  byte (flagBit a.limit.isSome 0 + flagBit a.f0.isSome 1 + flagBit a.slope.isSome 2 + flagBit a.potLife.isSome 3 +
      flagBit a.volume.isSome 4 + flagBit a.age.isSome 5) ::
    ((match a.limit with | some v => leBytes 4 v | none => []) ++ (match a.f0 with | some v => leBytes 2 v | none => []) ++
      (match a.slope with | some v => leBytes 2 v | none => []) ++
      (match a.potLife with | some v => leBytes 2 v | none => []) ++
      (match a.volume with | some v => leBytes 4 v | none => []) ++ match a.age with | some v => leBytes 2 v | none => [])

/-- The commands of a list run one after the other, stopping at the first that answers no next state. -/
def runAll : List Instr → State → Host.Outcome State Fault Refusal
  | [], s => .next s
  | c :: cs, s =>
    match exec c s with
    | .next t => runAll cs t
    | .fault r => .fault r
    | .refused r => .refused r

/-! ### Safe runs -/

/-- A step answers a next state. -/
def Safe (s : State) : Prop := ∃ t, step s = .next t

/-- Whether a channel's present pulse is on a valve. -/
def Channel.pulsesOn (c : Channel) (k : ValveKind) : Bool :=
  match c.pulse with
  | some p => decide (p.valve = k)
  | none => false

/-- What R68 and R78 say of a channel: in VENT it has no setpoint, no pulse and its fill valve is closed; in DRIVE it has a
setpoint, and a valve that is open carries the present pulse. -/
def Channel.wf (c : Channel) : Bool :=
  match c.mode with
  | .vent => c.setpoint.isNone && c.pulse.isNone && !c.fill.isOpen
  | .drive => c.setpoint.isSome && (!c.fill.isOpen || c.pulsesOn .fill) && (!c.vent.isOpen || c.pulsesOn .vent)

/-- Every channel is as R68 and R78 say. -/
def State.channelsWf (s : State) : Prop := ∀ h c, (s.channel h c).wf = true

/-- The fill and the vent valve of a channel are not open together (R78). -/
def Channel.valvesApart (c : Channel) : Bool := !(c.fill.isOpen && c.vent.isOpen)

/-- What a pass's state says of its other fields (R2 to R5, R9, R156). -/
def Pass.stateWf (r : Pass) : Prop :=
  match r.state with
  | .staged => r.head = none ∧ r.endCause = none ∧ r.holds = HoldSet.empty ∧ r.startBlock = none ∧ r.live = none ∧
      r.current = 0 ∧ r.results = []
  | .waiting => r.head ≠ none ∧ r.endCause = none ∧ r.holds = HoldSet.empty ∧ r.live = none ∧
      r.results.length = r.current
  | .polishing => r.head ≠ none ∧ r.endCause = none ∧ r.holds = HoldSet.empty ∧ r.startBlock = none ∧ r.live ≠ none ∧
      r.results.length = r.current
  | .held => r.head ≠ none ∧ r.endCause = none ∧ r.holds ≠ HoldSet.empty ∧ r.startBlock = none ∧ r.live ≠ none ∧
      r.results.length = r.current
  | .ended => r.head = none ∧ r.endCause ≠ none ∧ r.holds = HoldSet.empty ∧ r.startBlock = none ∧ r.live = none ∧
      r.current = r.results.length - 1

/-- A pass record as R2 to R9 describe it: a nonzero tag, 1 to 4 valid step programs, c below n, at most n results, and the
fields its state gives it. -/
def Pass.wf (r : Pass) : Prop :=
  r.tag ≠ 0 ∧ r.steps.length ≤ 4 ∧ (∀ st ∈ r.steps, st.valid = true) ∧ r.current < r.steps.length ∧
    r.results.length ≤ r.steps.length ∧ r.stateWf

/-- Every live pass record is as R2 to R9 describe it. -/
def State.passesWf (s : State) : Prop := ∀ i r, s.pass i = some r → r.wf

/-- While the trip latch is set no pass is POLISHING (R153), every arm is PARKED, and no EX_SITU service is left (R138). -/
def State.tripStops (s : State) : Prop :=
  s.tripLatch = true →
    (∀ i r, s.pass i = some r → r.state ≠ .polishing) ∧
      ∀ p, (s.arms.get p).sweeping = false ∧ (s.arms.get p).service.isExSitu = false

/-- A dwell timer runs only while its arm is SWEEPING (R126). -/
def State.dwellsWf (s : State) : Prop := ∀ p, (s.arms.get p).dwell ≠ none → (s.arms.get p).sweeping = true

/-- An arm that is SWEEPING has a running dwell timer (R126) and a service it sweeps for. -/
def State.sweepsTimed (s : State) : Prop :=
  ∀ p, (s.arms.get p).sweeping = true → (s.arms.get p).dwell ≠ none ∧ (s.arms.get p).service ≠ .none

/-- CDRV is active and the index timer runs exactly while the carousel is INDEXING (R142). -/
def State.driveWf (s : State) : Prop :=
  s.carousel.drive = decide (s.carousel.state = .indexing) ∧ s.carousel.timer.isSome = decide (s.carousel.state = .indexing)

/-- Whenever a pass is POLISHING or HELD, the carousel is STOPPED and its head stands over the platen of its current step
(R34). -/
def State.seated (s : State) : Prop :=
  ∀ i r, s.pass i = some r → r.running = true → s.carousel.state = .stopped ∧ (r.seat s.carousel.k).isSome = true

/-- No two live records hold one wafer tag (R1), and no head is held by two passes (R3). -/
def State.passesApart (s : State) : Prop :=
  ∀ i j r q, s.pass i = some r → s.pass j = some q → i ≠ j → r.tag ≠ q.tag ∧ (r.head = none ∨ r.head ≠ q.head)

/-- The EEPROM's cells are in canonical form, and a save under way writes an image of 427 bytes (R182, R183). -/
def State.storeWf (s : State) : Prop :=
  Memory.wf s.eeprom = true ∧ ∀ image, s.save = .writing image → image.length = imageBytes

/-- At most two buffers are in use, at most one of them SENDING and at most one TAKEN, and no ready response waits with the
transmitter idle (R170, R171). -/
def State.linkWf (s : State) : Prop :=
  s.buffers.length ≤ 2 ∧ (s.buffers.filter isSending).length ≤ 1 ∧ (s.buffers.filter isTaken).length ≤ 1 ∧
    (s.buffers.any isTaken = true → s.buffers.any isSending = true)

/-! ### Due moments (notes/assumptions/11.md) -/

/-- A moment that is not there, or not passed. -/
def notPassed (now : Nat) : Option Nat → Bool
  | none => true
  | some moment => decide (now ≤ moment)

/-- The step timer of a POLISHING pass has not run past its next advance (R36). -/
def Pass.timerOnTime (now : Nat) (r : Pass) : Bool :=
  match r.state, r.live with
  | .polishing, some l => decide (now ≤ l.timerDue 1)
  | _, _ => true

/-- A channel's sample, period start, pulse start and pulse end have not been passed over (R70, R77, R78, R79). -/
def Channel.onTime (now : Nat) (c : Channel) : Bool :=
  decide (now ≤ c.nextSample) && decide (now ≤ c.nextPeriod) && notPassed now (c.waitingPulse.map Pulse.start) &&
    notPassed now (c.runningPulse.map Pulse.stop)

/-- A VENT channel whose vent valve is closed has not waited past its dead time (R75). -/
def Channel.ventOnTime (now deadTime : Nat) (c : Channel) : Bool :=
  decide (c.mode = .drive) || c.vent.isOpen || decide (now ≤ c.fill.restedFrom deadTime)

/-- The moment the idle limit of the receiver is passed (R167). -/
def Receiver.due : Receiver → Option Nat
  | .hunting => none
  | .receiving _ idleFrom => some (idleFrom + idleTime + 1)

/-- No timed event that is due has been passed over: a run of the part stays on time, and a claim about timing takes this as
its premise (notes/assumptions/11.md). -/
def State.onTime (s : State) : Bool :=
  !(s.anyPass fun r => !r.timerOnTime s.clock) &&
    (platens.all fun p => notPassed s.clock (s.rotation.get p).stallTimer && notPassed s.clock (s.arms.get p).dwell) &&
    (heads.all fun h => (s.channels.get h).toList.all fun c =>
      c.onTime s.clock && c.ventOnTime s.clock (s.headSettings.get h).drive.deadTime) &&
    ([s.feeds.a, s.feeds.b, s.feeds.c].all fun f => decide (s.clock ≤ f.nextSlot)) &&
    decide (s.clock ≤ s.nextMinute) && notPassed s.clock s.carousel.timer && notPassed s.clock s.receiver.due

/-! ### What the shared operations leave behind -/

/-- A channel in DRIVE that enters VENT at a moment (R75): no setpoint, no pulse, the fill valve closed, and the vent valve
open when it was open or when the dead time has passed since the fill valve closed. -/
def Channel.vented (now deadTime : Nat) (x : Channel) : Channel :=
  let closed : Option Nat := if x.fill.isOpen then some now else x.fill.lastClosed
  { x with
    mode := .vent, setpoint := none, pulse := none, fill := ⟨false, closed⟩
    vent := ⟨x.vent.isOpen || (match closed with | none => true | some m => decide (m + deadTime ≤ now)), x.vent.lastClosed⟩ }

/-- In `t` the channels of a head are as they are in `s` but for those in DRIVE, which have entered VENT (R75); the channels of
the other heads are as they were. -/
def Vented (s t : State) (h : Head) : Prop :=
  ∀ k c, t.channel k c =
    if k = h ∧ (s.channel k c).mode = .drive then (s.channel k c).vented s.clock (s.headSettings.get k).drive.deadTime
    else s.channel k c

/-- A number limited to a channel's window (R74, R80, R85). -/
def ChannelSettings.clip (cs : ChannelSettings) (x : Nat) : Nat := if x < cs.wmin then cs.wmin else min x cs.wmax

/-- In `t` the five channels of a head drive for a step (R74): each zone at its base pressure limited to its window, or at Wmin
when it is complete, the ring at the ring pressure limited to its window, and a vent valve that was open closed at once. The
channels of the other heads are as they were. It speaks of channels that had no pulse, as every VENT channel is (R75). -/
def Driven (s t : State) (h : Head) (st : StepProgram) (complete : PerZone Bool) : Prop :=
  (∀ k c, k ≠ h → t.channel k c = s.channel k c) ∧
    ∀ c, (s.channel h c).pulse = none → t.channel h c =
      { s.channel h c with
        mode := .drive
        setpoint := some (match c with
          | .zone z => if complete.get z then ((s.headSettings.get h).chans.get c).wmin
              else ((s.headSettings.get h).chans.get c).clip (st.zones.get z).base
          | .rr => ((s.headSettings.get h).chans.get c).clip st.ringPressure)
        vent := if (s.channel h c).vent.isOpen then ⟨false, some s.clock⟩ else (s.channel h c).vent }

/-- A platen that no longer dispenses, its demand dropped on all feeds (R111). -/
def PlatenSupply.stopped (x : PlatenSupply) : PlatenSupply :=
  { x with dispensing := none, demand := ⟨0, 0, 0⟩, strokes := ⟨0, 0, 0⟩ }

/-- An arm that has parked (R133): the timer stopped, the segment index 0; direction, glaze and count kept. -/
def Arm.parked (a : Arm) : Arm := { a with sweeping := false, dwell := none, segment := 0 }

/-- An arm that has begun a sweep (R128): SWEEPING at segment index 0, the dwell timer started with the dwell of the profile's
first segment in the direction of travel, one pulse on the segment-advance line. -/
def Arm.swept (now : Nat) (pr : Profile) (a : Arm) : Arm :=
  { a with
    sweeping := true, segment := 0, advances := a.advances + 1
    dwell := (match a.direction with | .outward => pr.head? | .inward => pr.getLast?).map fun (g : Segment) => now + g.dwell * 1000 }

/-- The record of a pass once its running step is held at a moment (R36, R156): HELD, the step timer stopped where it stands. -/
def Pass.heldAt (r : Pass) (l : LiveProgress) (now : Nat) (holds : HoldSet) : Pass :=
  { r with
    state := .held, holds
    live := some { l with remainder := l.remainder + (now - l.timerFrom), timerFrom := now } }

/-- The live progress of a step that starts (R8, R34), with the ids it captures. -/
def LiveProgress.fresh (st : StepProgram) (now : Nat) (pad ring : Word32) (lotA lotB : Option Word32) : LiveProgress :=
  { acc := ⟨0, 0, 0, 0⟩, complete := ⟨false, false, false, false⟩, revolutions := 0, polishTime := 0, remainder := 0,
    timerFrom := now, settleLeft := st.settle, firstRevolution := true, pad, lotA, lotB, ring, supplyShort := false,
    conditioningIncomplete := false }

/-- Whether a pass is eligible for a start attempt (R28): WAITING, its head over the platen of its current step. -/
def Pass.mayStart (k : Fin 4) (r : Pass) : Prop :=
  r.state = .waiting ∧ ∃ h st, r.head = some h ∧ r.step = some st ∧ platenUnder k h = some st.platen

/-- A pass after a start attempt (R31, R34): WAITING with a start block, all else as it was, or POLISHING from the start of its
step. -/
def Attempted (r q : Pass) : Prop :=
  (∃ reason, q = { r with startBlock := some reason }) ∨
    ∃ st now pad ring lotA lotB, r.step = some st ∧
      q = { r with state := .polishing, startBlock := none, live := some (.fresh st now pad ring lotA lotB) }

/-- A part of the state after an event that makes start attempts: as it was where no attempt, made alone, changes it, and as an
attempt that changes it leaves it when made alone (R28, R29). -/
def AsAlone {α : Type} (s t : State) (made : PassSlot → Prop) (part : State → α) : Prop :=
  ((∀ i, made i → part (s.attempt i) = part s) → part t = part s) ∧
    ∀ i, made i → part (s.attempt i) ≠ part s → part t = part (s.attempt i)

/-- What an event that makes start attempts leaves behind (R28, R29, R31): an attempt for each pass it reaches and none for any
other. With one pass reached it is that attempt, with none nothing. With several each is made as if it were alone, wherever no
two passes hold one head: no attempt reads what another changes. -/
def AttemptsMade (s t : State) (reached : Pass → Prop) : Prop :=
  let made : PassSlot → Prop := fun i => ∃ r, s.pass i = some r ∧ reached r
  ((∀ i, ¬made i) → t = s) ∧
  (∀ i, made i → (∀ j, made j → j = i) → t = s.attempt i) ∧
  (∀ i, ¬made i → t.pass i = s.pass i) ∧
  (∀ i r, s.pass i = some r → reached r → ∃ q, t.pass i = some q ∧ Attempted r q) ∧
  (s.passesApart → (∀ i, made i → t.pass i = (s.attempt i).pass i) ∧
    (∀ h c, AsAlone s t made fun u => u.channel h c) ∧ (∀ p, AsAlone s t made fun u => u.supply.get p) ∧
    (∀ p, AsAlone s t made fun u => u.arms.get p) ∧ (∀ j, AsAlone s t made fun u => u.item j) ∧
    AsAlone s t made fun u => u.attnPending) ∧
  KeptStation s t

/-- The flags an item's own values give it (R90 to R92, R99). -/
def Item.rightFlags (i : Item) : ItemFlags :=
  { worn := decide (i.kind ≠ .lot ∧ 0 < i.limit ∧ i.limit ≤ i.usage)
    expired := decide (i.kind = .lot ∧ 0 < i.potLife ∧ i.potLife ≤ i.age)
    empty := decide (i.kind = .lot ∧ i.volume = 0) }

/-- The fields of an item lie in the ranges of R88, and a field its kind does not have is 0. -/
def Item.fieldsWf (i : Item) : Prop :=
  (i.usage ≤ 4294967295 ∧ i.limit ≤ 4294967295 ∧ i.f0 ≤ 8191 ∧ i.slope ≤ 65535 ∧ i.volume ≤ 4294967295 ∧ i.age ≤ 65535 ∧
      i.potLife ≤ 65535) ∧
    (i.kind = .lot → i.limit = 0) ∧ (i.kind ≠ .pad → i.kind ≠ .lot → i.f0 = 0 ∧ i.slope = 0) ∧
    (i.kind ≠ .lot → i.volume = 0 ∧ i.age = 0 ∧ i.potLife = 0)

/-- An item record as R87 to R92 describe it: a nonzero id, a position that takes its kind, the fields of its kind in their
ranges, and exactly the flags its values give it. -/
def Item.wf (i : Item) : Prop :=
  i.id ≠ 0 ∧ (∀ pos, i.position = some pos → pos.takes i.kind = true) ∧ i.fieldsWf ∧ i.flags = i.rightFlags

/-- Every live item record is as R87 to R92 describe it, no two hold one id (R87), and no two of one kind stand at one position
(R89). -/
def State.itemsWf (s : State) : Prop :=
  (∀ j x, s.item j = some x → x.wf) ∧
    ∀ j k x y, s.item j = some x → s.item k = some y → j ≠ k →
      x.id ≠ y.id ∧ (x.kind = y.kind → x.position = none ∨ x.position ≠ y.position)

/-- Head settings whose fields fit the bytes HEAD-WRITE gives them (R84). -/
def HeadSettings.fits (x : HeadSettings) : Prop :=
  x.drive.deadband < 256 ∧ x.drive.kp < 65536 ∧ x.drive.pulseMax < 65536 ∧ x.drive.deadTime < 65536 ∧
    ∀ c, (x.chans.get c).wmin < 65536 ∧ (x.chans.get c).wmax < 65536 ∧ (x.chans.get c).span < 65536 ∧
      (x.chans.get c).zero < 256

/-- Whether a pass is POLISHING or HELD on a platen: its current step names the platen and its head stands over it (R58,
R101). -/
def Pass.onPlaten (k : Fin 4) (p : Platen) (r : Pass) : Prop :=
  (r.state = .polishing ∨ r.state = .held) ∧ ∃ h st, r.head = some h ∧ r.step = some st ∧ st.platen = p ∧
    platenUnder k h = some p

/-- A position is in use for an item (R101): a platen while a pass is POLISHING or HELD on it, while its arm is SWEEPING or
while its conditioning-busy flag is set; a head while it holds a pass; a feed never. -/
def State.locked (s : State) : Position → Prop
  | .platen p => (∃ i r, s.pass i = some r ∧ r.onPlaten s.carousel.k p) ∨ (s.arms.get p).sweeping = true ∨
      0 < (s.arms.get p).exSitu
  | .feedA => False
  | .feedB => False
  | .head h => ∃ i r, s.pass i = some r ∧ (r.state = .waiting ∨ r.state = .polishing ∨ r.state = .held) ∧ r.head = some h

/-- An item record in the 28 bytes of ITEM-LOOKUP (R106), slot first. -/
def Item.layout (slot : Nat) (x : Item) : List Byte :=
  let kind := match x.kind with | .pad => 0 | .disk => 1 | .lot => 2 | .ring => 3
  let position := match x.position with
    | none => 0xFF
    | some (.platen p) => p.number
    | some .feedA => 3
    | some .feedB => 4
    | some (.head h) => 5 + h.number
  byte slot :: leBytes 4 x.id.toNat ++
    [byte kind, byte position, byte (flagBit x.flags.worn 0 + flagBit x.flags.expired 1 + flagBit x.flags.empty 2)] ++
    leBytes 4 x.usage ++ leBytes 4 x.limit ++ leBytes 2 x.f0 ++ leBytes 2 x.slope ++ leBytes 4 x.volume ++
    leBytes 2 x.age ++ leBytes 2 x.potLife

/-- An item whose flags are worked out again from its values (R99, R104). -/
def Item.reflagged (x : Item) : Item := { x with flags := x.rightFlags }

/-- Whether a change of an item newly sets a flag (R93). -/
def Item.flagsGained (x y : Item) : Bool :=
  (y.flags.worn && !x.flags.worn) || (y.flags.expired && !x.flags.expired) || (y.flags.empty && !x.flags.empty)

/-- An adjust whose values fit the bytes ITEM-ADJUST gives them (R104). -/
def Adjust.fitsWire (a : Adjust) : Prop :=
  (∀ v, a.limit = some v → v < 2 ^ 32) ∧ (∀ v, a.f0 = some v → v < 2 ^ 16) ∧ (∀ v, a.slope = some v → v < 2 ^ 16) ∧
    (∀ v, a.potLife = some v → v < 2 ^ 16) ∧ (∀ v, a.volume = some v → v < 2 ^ 32) ∧ (∀ v, a.age = some v → v < 2 ^ 16)

/-- A platen that does not dispense has no demand and no pending stroke (R111), and no platen has more than four pending
strokes on a feed (R113). -/
def State.demandWf (s : State) : Prop :=
  ∀ p, ((s.supply.get p).dispensing = none →
      (s.supply.get p).demand = ⟨0, 0, 0⟩ ∧ (s.supply.get p).strokes = ⟨0, 0, 0⟩) ∧
    ∀ f, (s.supply.get p).strokes.get f ≤ 4

/-- A phase table R118 takes: 1 to 32 entries. -/
def phasesFit (t : PhaseTable) : Prop := 1 ≤ t.length ∧ t.length ≤ 32

/-- Every phase table has 1 to 32 entries and every feed's phase pointer lies from 0 to N - 1 of its active table (R107, R117,
R118). -/
def State.phasesWf (s : State) : Prop :=
  phasesFit s.staged ∧ ∀ f, phasesFit (s.feeds.get f).active ∧ (s.feeds.get f).pointer < (s.feeds.get f).active.length

/-- Every setting lies in the range its write request gives it (R69, R84, R109, R110, R139, R140). -/
def State.settingsWf (s : State) : Prop :=
  (∀ h, (s.headSettings.get h).inRange = true) ∧
    (∀ r, (s.row r).inRange = true ∧ (s.row r).partA ≤ 255 ∧ (s.row r).partB ≤ 255 ∧ (s.row r).partC ≤ 255) ∧
    (∀ f, 10 ≤ (s.feeds.get f).volume ∧ (s.feeds.get f).volume ≤ 2000) ∧
    (∀ q, 1 ≤ (s.profile q).length ∧ (s.profile q).length ≤ 10 ∧ ∀ g ∈ s.profile q, g.inRange = true) ∧
    ∀ p, (s.glazeSettings.get p).rate ≤ 255 ∧ (s.glazeSettings.get p).floor ≤ 4096

/-! ### The settings image (R182) -/

/-- The 42 bytes from an offset on hold a head's settings (R84, R182). -/
def HeadSettings.storedAt (bytes : List Byte) (o : Nat) (x : HeadSettings) : Prop :=
  field bytes o 1 = x.drive.deadband ∧ field bytes (o + 1) 2 = x.drive.kp ∧ field bytes (o + 3) 2 = x.drive.pulseMax ∧
    field bytes (o + 5) 2 = x.drive.deadTime ∧
    ∀ (i : Nat) (c : Chan), [Chan.zone .z0, .zone .z1, .zone .z2, .zone .z3, .rr][i]? = some c →
      field bytes (o + 7 + 7 * i) 2 = (x.chans.get c).wmin ∧ field bytes (o + 9 + 7 * i) 2 = (x.chans.get c).wmax ∧
        field bytes (o + 11 + 7 * i) 2 = (x.chans.get c).span ∧ field bytes (o + 13 + 7 * i) 1 = (x.chans.get c).zero

/-- The body of an image holds the settings of a state, field by field at the offsets of R182; its phase table is the staged
one, and the entries beyond a count say nothing. -/
def State.storedIn (s : State) (bytes : List Byte) : Prop :=
  (∀ h : Head, (s.headSettings.get h).storedAt bytes (5 + 42 * h.number)) ∧
    (∀ r : Fin 8, field bytes (173 + 5 * r.val) 2 = (s.row r).flow ∧ field bytes (175 + 5 * r.val) 1 = (s.row r).partA ∧
      field bytes (176 + 5 * r.val) 1 = (s.row r).partB ∧ field bytes (177 + 5 * r.val) 1 = (s.row r).partC) ∧
    field bytes 213 1 = s.staged.length ∧
    (∀ (n : Nat) e, s.staged[n]? = some e →
      field bytes (214 + n) 1 = (match e with | some p => p.number | none => 3)) ∧
    field bytes 246 2 = s.feeds.a.volume ∧ field bytes 248 2 = s.feeds.b.volume ∧ field bytes 250 2 = s.feeds.c.volume ∧
    (∀ q : Fin 4, field bytes (252 + 41 * q.val) 1 = (s.profile q).length ∧
      ∀ (n : Nat) g, (s.profile q)[n]? = some g →
        field bytes (253 + 41 * q.val + 4 * n) 2 = g.dwell ∧ field bytes (255 + 41 * q.val + 4 * n) 2 = g.force) ∧
    (∀ p : Platen, field bytes (416 + 3 * p.number) 1 = (s.glazeSettings.get p).rate ∧
      field bytes (417 + 3 * p.number) 2 = (s.glazeSettings.get p).floor) ∧
    field bytes 425 2 = s.attnMask.toNat

/-- What an image written by a save holds beyond the counts (R182): 0xFF in the phase table's entries beyond N, 0 in a
profile's segments beyond its count. A load ignores these bytes. -/
def State.paddedIn (s : State) (bytes : List Byte) : Prop :=
  (∀ n, s.staged.length ≤ n → n < 32 → field bytes (214 + n) 1 = 0xFF) ∧
    ∀ (q : Fin 4) (n : Nat), (s.profile q).length ≤ n → n < 10 →
      field bytes (253 + 41 * q.val + 4 * n) 2 = 0 ∧ field bytes (255 + 41 * q.val + 4 * n) 2 = 0

/-- In `t` the settings are those of `u`, with its staged table on every feed from phase 0 (R121, R181); all else is as in
`s`. -/
def AppliedSettings (s u t : State) : Prop :=
  t = { s with
    headSettings := u.headSettings, rows := u.rows, staged := u.staged, profiles := u.profiles
    glazeSettings := u.glazeSettings, attnMask := t.attnMask, attnPending := t.attnPending, feeds := t.feeds
    startUp := .ready, defaulted := t.defaulted } ∧
    ∀ f, t.feeds.get f =
      { s.feeds.get f with volume := (u.feeds.get f).volume, active := u.staged, pointer := 0 }

end Sys2Proof.Machine
end

