-- ==== Sys2Proof/Certificates/Slice0/Obligations.lean ====
section
/-! DEFINITION. The statements for the provers, from the manual's numbered rules. -/

open Sys2Proof Sys2Proof.Machine

/-! ### Steps and the queue -/

/-- The model's own (the queue is the model's): a step takes the command at the front and runs it with the rest; with nothing
waiting the part idles (notes/assumptions/9.md). -/
def Obligations.StepRunsTheFrontCommand : Prop :=
  (∀ (c : Instr) (s : State) (rest : List Instr),
    step { s with pending := c :: rest } = exec c { s with pending := rest }) ∧
  ∀ s : State, s.pending = [] → step s = .next s

/-- The model's choices: every command answers a next state in every state, also where its event cannot come
(notes/assumptions/4.md), and leaves the waiting commands, which are the model's own (notes/assumptions/25.md), alone. -/
def Obligations.EveryCommandCompletes : Prop :=
  ∀ (c : Instr) (s : State), ∃ t, exec c s = .next t ∧ t.pending = s.pending

/-! ### Full resets -/

/-- Both full resets leave the part as the chapters say: every field of every block, with the moments of the free-running
schedules counted from the end of the reset. The clock at that moment is the model's (notes/assumptions/1.md), so the moments
are given relative to it. One value is no chapter's but the model's choice: that no feed's stroke pulse is on after a full reset
(notes/assumptions/15.md). -/
def Obligations.FullResetValues : Prop :=
  ∀ (s : State) (pins : PinLevels) (written : Nat) (c : Instr),
    c = .powerOnReset pins written ∨ c = .resetPin pins written →
    ∃ t, exec c s = .next t ∧
      (∀ i, t.pass i = none) ∧ (∀ j, t.item j = none) ∧
      (∀ p, t.endpointLevel.get p = pins.endpoint.get p) ∧
      (∀ p, t.rotation.get p = ⟨none, none, none, false, pins.index.get p⟩) ∧
      (∀ h z, (t.windows.get h).get z = ⟨0, 0, none⟩) ∧
      (∀ h c, t.channel h c =
        { mode := .vent, setpoint := none, latest := none, fault := false, runCount := 0, fill := ⟨false, none⟩,
          vent := ⟨false, none⟩, pulse := none, nextSample := t.clock + 2000, nextPeriod := t.clock + 20000 }) ∧
      (∀ h, (t.headSettings.get h).drive = ⟨2, 200, 15000, 2000⟩) ∧
      (∀ h c, (t.headSettings.get h).chans.get c = ⟨50, 480, 1000, 0⟩) ∧
      t.nextMinute = t.clock + 60000000 ∧
      (∀ r, t.row r = ⟨0, 0, 0, 0⟩) ∧
      (∀ f, (t.feeds.get f).volume = 100 ∧ (t.feeds.get f).active = [some .p0, some .p1, some .p2] ∧
        (t.feeds.get f).pointer = 0 ∧ (t.feeds.get f).diverter = .p0 ∧ (t.feeds.get f).pulse = false) ∧
      t.feeds.a.nextSlot = t.clock + 5000 ∧ t.feeds.b.nextSlot = t.clock + 6250 ∧ t.feeds.c.nextSlot = t.clock + 7500 ∧
      t.staged = [some .p0, some .p1, some .p2] ∧ t.load = none ∧
      (∀ p, t.supply.get p =
        { dispensing := none, demand := ⟨0, 0, 0⟩, strokes := ⟨0, 0, 0⟩, demanded := 0, granted := 0, lastRatio := 4096,
          shortRun := 0, short := false }) ∧
      (∀ p, (t.arms.get p).sweeping = false ∧ (t.arms.get p).service = .none ∧ (t.arms.get p).segment = 0 ∧
        (t.arms.get p).direction = .outward ∧ (t.arms.get p).dwell = none ∧ (t.arms.get p).exSitu = 0 ∧
        (t.arms.get p).busy = false ∧ (t.arms.get p).glaze = 0) ∧
      (∀ p, t.glazeSettings.get p = ⟨0, 4096⟩) ∧ (∀ q, t.profile q = [⟨1000, 0⟩]) ∧
      t.carousel = ⟨.stopped, pins.cpos, false, none, pins.cdone⟩ ∧
      t.tripLatch = pins.estop ∧ t.estop = pins.estop ∧
      t.receiver = .hunting ∧ t.buffers = [] ∧ t.corrupt = false ∧ t.overrun = false ∧ t.fastLink = pins.lrate ∧
      t.attnPending = 0#9 ∧ t.attnMask = 0x1FF#9 ∧ t.attnLine = false ∧ t.ltxFrame = none ∧
      t.startUp = .loading ∧ t.defaulted = false ∧ t.save = .none ∧ t.pending = s.pending

/-- R184: a full reset while a save is WRITING leaves the bytes written by then in the EEPROM and every other byte as it was;
in any other save state it leaves the EEPROM as it was. -/
def Obligations.ResetCutsTheSave : Prop :=
  ∀ (s : State) (pins : PinLevels) (written : Nat) (c : Instr), s.storeWf →
    c = .powerOnReset pins written ∨ c = .resetPin pins written →
    ∃ t, exec c s = .next t ∧
      (∀ image, s.save = .writing image → ∀ a, readCell a t.eeprom =
        if a < written then (match image[a]? with | some b => b | none => readCell a s.eeprom) else readCell a s.eeprom) ∧
      ((∀ image, s.save ≠ .writing image) → t.eeprom = s.eeprom)

/-! ### Receiving frames -/

/-- R167, R169: a break of at least 11 bit times begins a new frame; a frame that had at least one byte is damaged, one without
was a line rest. Below 11 bit times nothing happens but time (the model's, notes/assumptions/23.md). The idle limit, more than
2,000 µs without a byte, ends the frame: with at least one byte it is discarded, CORRUPT is latched and LINK raised; without one
the receiver hunts again and nothing is latched. That the command does nothing while HUNTING, where its event cannot come, is
the model's choice (notes/assumptions/4.md). -/
def Obligations.BreakAndIdleLimit : Prop :=
  ∀ (s : State) (dt lowBits idleFrom : Nat),
    (11 ≤ lowBits → ∃ t, exec (.lineBreak dt lowBits) s = .next t ∧ t.receiver = .receiving [] (s.clock + dt) ∧
      ((∃ b bytes idle, s.receiver = .receiving (b :: bytes) idle) →
        t = { s with clock := s.clock + dt, receiver := t.receiver, corrupt := true, attnPending := s.attnPending ||| 128#9 }) ∧
      ((¬∃ b bytes idle, s.receiver = .receiving (b :: bytes) idle) →
        t = { s with clock := s.clock + dt, receiver := t.receiver })) ∧
    (lowBits < 11 → exec (.lineBreak dt lowBits) s = .next { s with clock := s.clock + dt }) ∧
    (s.receiver = .hunting → exec .idleLimit s = .next s) ∧
    (s.receiver = .receiving [] idleFrom →
      exec .idleLimit s = .next { s with clock := max s.clock (idleFrom + 2001), receiver := .hunting }) ∧
    ∀ b bytes, s.receiver = .receiving (b :: bytes) idleFrom →
      exec .idleLimit s = .next
        { s with
          clock := max s.clock (idleFrom + 2001), receiver := .hunting, corrupt := true,
          attnPending := s.attnPending ||| 128#9 }

/-- R167, R169: a byte while HUNTING is stray; a byte with a parity or framing error, or a second LEN byte that gives a LEN
below 2 or above 1022, discards the frame; either way CORRUPT is latched and LINK raised. Any other byte of an unfinished
frame joins it. A parity error is an odd count of ones in the eight data bits and the parity bit (R166). The three rows for an
arriving byte are one happening (notes/assumptions/6.md). -/
def Obligations.BytesBeforeTheLast : Prop :=
  (∀ ch : LinkChar, parityError ch = true ↔
    (((List.range 8).map ch.data.getLsbD).count true + (if ch.parity then 1 else 0)) % 2 = 1) ∧
  ∀ (s : State) (dt : Nat) (ch : LinkChar) (c : Instr),
    c = .strayByte dt ch ∨ c = .byteArrivesReceiving dt ch ∨ c = .frameComplete dt ch →
    let damaged : State :=
      { s with
        clock := s.clock + dt, receiver := .hunting, corrupt := true, attnPending := s.attnPending ||| 128#9 }
    (s.receiver = .hunting → exec c s = .next damaged) ∧
    ∀ bytes idleFrom, s.receiver = .receiving bytes idleFrom →
      (parityError ch = true ∨ ch.stop = false → exec c s = .next damaged) ∧
      (parityError ch = false → ch.stop = true → ∀ b, bytes = [b] → le2 b ch.data < 2 ∨ 1022 < le2 b ch.data →
        exec c s = .next damaged) ∧
      (parityError ch = false → ch.stop = true →
        (bytes = [] ∨ (∃ b, bytes = [b] ∧ 2 ≤ le2 b ch.data ∧ le2 b ch.data ≤ 1022) ∨
          (∃ lo hi rest, bytes = lo :: hi :: rest ∧ 2 ≤ le2 lo hi ∧ le2 lo hi ≤ 1022 ∧
            bytes.length + 1 < le2 lo hi + 4)) →
        exec c s = .next { s with clock := s.clock + dt, receiver := .receiving (bytes ++ [ch.data]) (s.clock + dt) })

/-- R168, R169, R170: the last CRC byte completes the frame. With the right CRC the request is HELD behind those before it,
or lost with OVERRUN latched and LINK raised when both buffers are in use; with a wrong CRC the frame is discarded with
CORRUPT latched and LINK raised. It speaks of all three rows for an arriving byte, the model's reading
(notes/assumptions/6.md). -/
def Obligations.CompleteFrameIsJudged : Prop :=
  ∀ (s : State) (dt : Nat) (ch : LinkChar) (c : Instr) (lo hi tag code crcLow : Byte) (payload : List Byte) (idleFrom : Nat),
    c = .strayByte dt ch ∨ c = .byteArrivesReceiving dt ch ∨ c = .frameComplete dt ch →
    parityError ch = false → ch.stop = true → le2 lo hi = payload.length + 2 → payload.length ≤ 1020 →
    s.receiver = .receiving (lo :: hi :: tag :: code :: payload ++ [crcLow]) idleFrom →
    let sum := crc (lo :: hi :: tag :: code :: payload)
    let after : State := { s with clock := s.clock + dt, receiver := .hunting }
    (le2 crcLow ch.data = sum.toNat → s.buffers.length < 2 →
      exec c s = .next { after with buffers := s.buffers ++ [.held ⟨tag, code, payload⟩] }) ∧
    (le2 crcLow ch.data = sum.toNat → 2 ≤ s.buffers.length →
      exec c s = .next { after with overrun := true, attnPending := s.attnPending ||| 128#9 }) ∧
    (le2 crcLow ch.data ≠ sum.toNat →
      exec c s = .next { after with corrupt := true, attnPending := s.attnPending ||| 128#9 })

/-! ### Responses, and the taking of a request -/

/-- R166, R168, R170 to R173: with the transmitter idle the response of a taken request starts at once; with a response on the
line it waits TAKEN behind it. The end of a response frees its buffer and starts the ready one in the same event; nothing but
time and the buffers changes. The row RESPONSE_START starts a ready response on an idle transmitter and does nothing behind one
on the line, where RESPONSE_END starts it: the model's reading of the two rows (notes/assumptions/7.md); that neither does
anything where its event cannot come is the model's choice (notes/assumptions/4.md). The SENDING response is the one on LTX: a
break of 16 bit times low and 2 high, then LEN, TAG, the status code, payload and CRC as characters of a start bit, 8 data bits
least significant first, an even parity bit and a stop bit. -/
def Obligations.ResponsesLeaveInOrder : Prop :=
  (∀ (s : State) (dt : Nat) (r ready : Response) (q q' : Request),
    (s.buffers = [.held q] → s.respond r = { s with buffers := [.sending r] }) ∧
    (s.buffers = [.held q, .held q'] → s.respond r = { s with buffers := [.sending r, .held q'] }) ∧
    (s.buffers = [.sending r, .held q] → s.respond ready = { s with buffers := [.sending r, .taken ready] }) ∧
    (s.buffers = [.sending r] → exec (.responseEnd dt) s = .next { s with clock := s.clock + dt, buffers := [] }) ∧
    (s.buffers = [.sending r, .held q] →
      exec (.responseEnd dt) s = .next { s with clock := s.clock + dt, buffers := [.held q] }) ∧
    (s.buffers = [.sending r, .taken ready] →
      exec (.responseEnd dt) s = .next { s with clock := s.clock + dt, buffers := [.sending ready] } ∧
        exec (.responseStart dt) s = .next (s.elapse dt)) ∧
    (s.buffers = [.taken ready] →
      exec (.responseStart dt) s = .next { s with clock := s.clock + dt, buffers := [.sending ready] }) ∧
    (s.buffers = [.taken ready, .held q] →
      exec (.responseStart dt) s = .next { s with clock := s.clock + dt, buffers := [.sending ready, .held q] }) ∧
    ((∀ b ∈ s.buffers, ∃ h, b = .held h) →
      exec (.responseStart dt) s = .next (s.elapse dt) ∧ exec (.responseEnd dt) s = .next (s.elapse dt))) ∧
  (∀ (s : State) (r : Response),
    (s.buffers.filter isSending = [.sending r] → s.ltxFrame = some r.frame ∧ s.ltxBits = some r.lineBits) ∧
    (s.buffers.filter isSending = [] → s.ltxFrame = none ∧ s.ltxBits = none)) ∧
  (∀ r : Response, r.payload.length ≤ 1020 →
    let f := r.frame
    f.length = r.payload.length + 6 ∧ field f 0 2 = r.payload.length + 2 ∧ f[2]? = some r.tag ∧
      field f 3 1 = (match r.status with
        | .ok => 0 | .notReady => 1 | .unknown => 2 | .badLength => 3 | .badParam => 4 | .notFound => 5 | .tableFull => 6
        | .duplicate => 7 | .wrongState => 8 | .busy => 9 | .tooLate => 10 | .tripped => 11) ∧
      (f.drop 4).take r.payload.length = r.payload ∧
      field f (r.payload.length + 4) 2 = (crc (f.take (r.payload.length + 4))).toNat ∧
      r.lineBits.length = 18 + 11 * f.length ∧ r.lineBits.take 18 = List.replicate 16 false ++ [true, true] ∧
      ∀ n b, f[n]? = some b →
        let bits := (r.lineBits.drop (18 + 11 * n)).take 11
        bits[0]? = some false ∧ (∀ i, i < 8 → bits[i + 1]? = some (b.getLsbD i)) ∧
          ((bits.drop 1).take 9).count true % 2 = 0 ∧ bits[10]? = some true) ∧
  crc [0x31#8, 0x32#8, 0x33#8, 0x34#8, 0x35#8, 0x36#8, 0x37#8, 0x38#8, 0x39#8] = 0x29B1#16

/-- R173: a CODE that names no request is answered UNKNOWN whatever the start-up state; a request with a known CODE taken while
LOADING is answered NOT_READY. Neither changes anything but its buffer and the time. The codes are those of the table of
section 10.7, and no other names a request. When the buffers offer no request of a command's name, the command takes none and
only time passes (the model's, notes/assumptions/4.md). -/
def Obligations.UnknownNotReadyOrNone : Prop :=
  (∀ (code : Nat) (name : RequestName), RequestName.ofCode code = some name ↔ code =
    (match name with
      | .status => 0x01 | .identify => 0x02 | .attnAck => 0x03 | .attnMask => 0x04 | .restart => 0x05
      | .passCreate => 0x10 | .passLookup => 0x11 | .passList => 0x12 | .passBind => 0x13 | .passAmend => 0x14
      | .passAbort => 0x15 | .passRetire => 0x16 | .passHold => 0x17 | .passResume => 0x18 | .tripClear => 0x19
      | .itemRegister => 0x20 | .itemLookup => 0x21 | .itemList => 0x22 | .itemMount => 0x23 | .itemDismount => 0x24
      | .itemAdjust => 0x25 | .itemRetire => 0x26 | .headWrite => 0x30 | .headRead => 0x31
      | .blendWrite => 0x38 | .feedWrite => 0x39 | .phaseWrite => 0x3A | .phaseLoad => 0x3B | .slurryRead => 0x3C
      | .profileWrite => 0x40 | .platenWrite => 0x41 | .conditioningRead => 0x42
      | .carouselIndex => 0x48 | .carouselSync => 0x49 | .settingsSave => 0x58)) ∧
  (∀ (s : State) (dt : Nat), s.elapse dt = { s with clock := s.clock + dt }) ∧
  (∀ (s : State) (dt : Nat) (q : Request), takeable s.buffers = some q → RequestName.ofCode q.code.toNat = none →
    Answers (.unknown dt) s (s.elapse dt) q.tag .unknown []) ∧
  (∀ (s : State) (c : Instr) (name : RequestName) (dt : Nat) (q : Request), takenRequest c = some (name, dt) →
    takeable s.buffers = some q → RequestName.ofCode q.code.toNat = some name → s.startUp = .loading →
    Answers c s (s.elapse dt) q.tag .notReady []) ∧
  ∀ (s : State) (c : Instr) (name : RequestName) (dt : Nat), takenRequest c = some (name, dt) →
    (∀ q, takeable s.buffers = some q → RequestName.ofCode q.code.toNat ≠ some name) →
    exec c s = .next (s.elapse dt)

/-- R173: a request answered with a status other than OK changes nothing in any block and carries no payload. Any other taking
puts an OK response into the request's own buffer: what the request does leaves the buffers as they were, but for RESTART, which
leaves its own request in place (R179). -/
def Obligations.RefusedRequestChangesNothing : Prop :=
  ∀ (s : State) (c : Instr) (name : RequestName) (dt : Nat) (tag : Byte) (payload : List Byte),
    takenRequest c = some (name, dt) → Offers s name tag payload →
    (∃ status, status ≠ .ok ∧ Answers c s (s.elapse dt) tag status []) ∨
      ∃ t reply, takeable t.buffers = takeable s.buffers ∧ (name ≠ .restart → t.buffers = s.buffers) ∧
        Answers c s t tag .ok reply

/-! ### The requests of the link -/

/-- R177, R178: STATUS reports the part as it stands, in 33 bytes, and IDENTIFY answers its 20 bytes; neither changes
anything. -/
def Obligations.StatusAndIdentify : Prop :=
  ∀ (s : State) (dt : Nat) (tag : Byte) (payload : List Byte),
    (Offers s .status tag payload →
      (payload ≠ [] → Answers (.status dt) s (s.elapse dt) tag .badLength []) ∧
      (payload = [] → ∃ reply, Answers (.status dt) s (s.elapse dt) tag .ok reply ∧ reply.length = 33 ∧
        field reply 0 2 = s.attnPending.toNat ∧ field reply 2 2 = s.attnMask.toNat ∧
        field reply 4 1 = flagBit s.tripLatch 0 + flagBit s.estop 1 ∧
        field reply 5 1 = (match s.carousel.state with | .stopped => 0 | .indexing => 1 | .lost => 2) ∧
        field reply 6 1 = s.carousel.k.val ∧
        (∀ p : Platen, field reply (7 + 5 * p.number) 1 =
            flagBit (s.rotation.get p).stall 0 + flagBit (s.arms.get p).sweeping 1 + flagBit (s.supply.get p).short 2 +
              flagBit (decide (0 < (s.arms.get p).exSitu)) 3 ∧
          field reply (8 + 5 * p.number) 4 = (match (s.rotation.get p).lastPeriod with | some t => t.toNat | none => 0)) ∧
        (∀ h : Head, field reply (22 + 2 * h.number) 1 = (match s.holderOf h with | some i => i.val | none => 0xFF) ∧
          (∀ i, s.holderOf h = some i → ∃ r, s.pass i = some r ∧ r.head = some h ∧
            (r.state = .waiting ∨ r.state = .polishing ∨ r.state = .held)) ∧
          (s.holderOf h = none → ∀ i r, s.pass i = some r → r.head = some h →
            ¬(r.state = .waiting ∨ r.state = .polishing ∨ r.state = .held)) ∧
          field reply (23 + 2 * h.number) 1 =
            flagBit (s.channel h (.zone .z0)).fault 0 + flagBit (s.channel h (.zone .z1)).fault 1 +
              flagBit (s.channel h (.zone .z2)).fault 2 + flagBit (s.channel h (.zone .z3)).fault 3 +
              flagBit (s.channel h .rr).fault 4) ∧
        field reply 30 1 = flagBit s.corrupt 0 + flagBit s.overrun 1 ∧
        field reply 31 1 = flagBit (decide (s.startUp = .ready)) 0 + flagBit s.defaulted 1 ∧
        field reply 32 1 = (match s.save with | .none => 0 | .writing _ => 1 | .done => 2 | .failed => 3))) ∧
    (Offers s .identify tag payload →
      (payload ≠ [] → Answers (.identify dt) s (s.elapse dt) tag .badLength []) ∧
      (payload = [] → Answers (.identify dt) s (s.elapse dt) tag .ok
        [0x43#8, 0#8, 3#8, if s.fastLink then 1#8 else 0#8, 4#8, 3#8, 24#8, 4#8, 16#8, 8#8, 32#8, 4#8, 10#8, 2#8, 0xFC#8, 3#8,
          0#8, 8#8, 20#8, 0#8]))

/-- R174 to R176: a raised cause is pending whatever the mask and the others stay as they were; ATTN is active exactly while
some cause is both pending and in the mask. The two attention requests check their length and bits 9 to 15; an accepted ATTN-ACK
removes the causes it names, clears the link flags when it names LINK and answers the pending set left; an accepted ATTN-MASK
replaces the mask, keeps the pending set and answers both. -/
def Obligations.AttentionRequests : Prop :=
  (∀ (s : State) (c : Cause),
    (s.raise c).attnPending.has c = true ∧ (∀ d, d ≠ c → (s.raise c).attnPending.has d = s.attnPending.has d) ∧
      s.raise c = { s with attnPending := (s.raise c).attnPending } ∧
      (s.attnLine = true ↔ ∃ d, s.attnPending.has d = true ∧ s.attnMask.has d = true)) ∧
  ∀ (s : State) (dt : Nat) (tag : Byte) (payload : List Byte),
    (Offers s .attnAck tag payload →
      (payload.length ≠ 2 → Answers (.attnAck dt) s (s.elapse dt) tag .badLength []) ∧
      ∀ lo hi, payload = [lo, hi] →
        (2 ≤ hi.toNat → Answers (.attnAck dt) s (s.elapse dt) tag .badParam []) ∧
        (hi.toNat < 2 → ∀ set : CauseSet, set.toNat = le2 lo hi →
          let left := s.attnPending &&& ~~~set
          Answers (.attnAck dt) s
            { s.elapse dt with
              attnPending := left
              corrupt := s.corrupt && !set.getLsbD 7
              overrun := s.overrun && !set.getLsbD 7 }
            tag .ok (leBytes 2 left.toNat))) ∧
    (Offers s .attnMask tag payload →
      (payload.length ≠ 2 → Answers (.attnMask dt) s (s.elapse dt) tag .badLength []) ∧
      ∀ lo hi, payload = [lo, hi] →
        (2 ≤ hi.toNat → Answers (.attnMask dt) s (s.elapse dt) tag .badParam []) ∧
        (hi.toNat < 2 → ∀ set : CauseSet, set.toNat = le2 lo hi →
          Answers (.attnMask dt) s { s.elapse dt with attnMask := set } tag .ok
            (leBytes 2 s.attnPending.toNat ++ [lo, hi])))

/-- R179: RESTART drops a HELD request in the other buffer, keeps a SENDING one, clears the link flags, empties the pending
set, sets the mask to all nine causes, and leaves every other block and the receiver as they are. -/
def Obligations.RestartResetsTheLink : Prop :=
  ∀ (s : State) (dt : Nat) (tag : Byte) (payload : List Byte), Offers s .restart tag payload →
    (payload ≠ [] → Answers (.restart dt) s (s.elapse dt) tag .badLength []) ∧
    (payload = [] →
      let cleared : State :=
        { s.elapse dt with corrupt := false, overrun := false, attnPending := 0#9, attnMask := 0x1FF#9 }
      (∀ q, s.buffers = [.held q] → exec (.restart dt) s = .next { cleared with buffers := [.sending ⟨tag, .ok, []⟩] }) ∧
      (∀ q q', s.buffers = [.held q, .held q'] →
        exec (.restart dt) s = .next { cleared with buffers := [.sending ⟨tag, .ok, []⟩] }) ∧
      (∀ r q, s.buffers = [.sending r, .held q] →
        exec (.restart dt) s = .next { cleared with buffers := [.sending r, .taken ⟨tag, .ok, []⟩] }))

/-! ### The Pass Table -/

/-- R11, R12: PASS-CREATE's checks in their order, and an accepted create: a record STAGED with the given tag and step programs
in the lowest free slot, and nothing else changed. -/
def Obligations.PassCreatePlacesARecord : Prop :=
  ∀ (s : State) (dt : Nat) (tag : Byte) (payload : List Byte), Offers s .passCreate tag payload →
    (payload.length < 5 → Answers (.passCreate dt) s (s.elapse dt) tag .badLength []) ∧
    ∀ (wafer : Word32) (n : Byte) (rest : List Byte), payload = leBytes 4 wafer.toNat ++ n :: rest →
      (n.toNat < 1 ∨ 4 < n.toNat → Answers (.passCreate dt) s (s.elapse dt) tag .badParam []) ∧
      (1 ≤ n.toNat → n.toNat ≤ 4 → rest.length ≠ 39 * n.toNat →
        Answers (.passCreate dt) s (s.elapse dt) tag .badLength []) ∧
      (1 ≤ n.toNat → n.toNat ≤ 4 → rest.length = 39 * n.toNat →
        (wafer = 0 ∨ ∃ i, i < n.toNat ∧ ¬spellsValidStep ((rest.drop (39 * i)).take 39)) →
        Answers (.passCreate dt) s (s.elapse dt) tag .badParam []) ∧
      ∀ steps : List StepProgram, 1 ≤ n.toNat → n.toNat ≤ 4 → steps.length = n.toNat →
        rest = (steps.map StepProgram.bytes).flatten → (∀ st ∈ steps, st.valid = true) →
        (wafer ≠ 0 → (∃ i r, s.pass i = some r ∧ r.tag = wafer) →
          Answers (.passCreate dt) s (s.elapse dt) tag .duplicate []) ∧
        (wafer ≠ 0 → (∀ i r, s.pass i = some r → r.tag ≠ wafer) →
          ((∀ i, s.pass i ≠ none) → Answers (.passCreate dt) s (s.elapse dt) tag .tableFull []) ∧
          ∀ i, s.pass i = none → (∀ j, j < i → s.pass j ≠ none) →
            Answers (.passCreate dt) s
              ((s.elapse dt).setPass i (some
                { tag := wafer, state := .staged, head := none, endCause := none, holds := HoldSet.empty, startBlock := none,
                  current := 0, steps, results := [], live := none }))
              tag .ok [byte i.val])

/-- R13, R14, R26: the checks of PASS-LOOKUP and PASS-LIST, and the answers of both, which report what stands and change nothing.
The reply of a lookup by slot or by tag begins with the 12-byte head of R26, then come the step programs, the results and the
live progress. -/
def Obligations.PassReads : Prop :=
  (∀ x : PassState, x.code =
    (match x with | .staged => 0 | .waiting => 1 | .polishing => 2 | .held => 3 | .ended => 4)) ∧
  ∀ (s : State) (dt : Nat) (tag : Byte) (payload : List Byte),
    (Offers s .passLookup tag payload →
      (payload = [] → Answers (.passLookup dt) s (s.elapse dt) tag .badLength []) ∧
      ∀ (key : Byte) (rest : List Byte), payload = key :: rest →
        (1 < key.toNat → Answers (.passLookup dt) s (s.elapse dt) tag .badParam []) ∧
        (key = 0 →
          (rest.length ≠ 1 → Answers (.passLookup dt) s (s.elapse dt) tag .badLength []) ∧
          ∀ slot, rest = [slot] →
            (23 < slot.toNat → Answers (.passLookup dt) s (s.elapse dt) tag .badParam []) ∧
            ∀ i : PassSlot, slot = byte i.val → s.pass i = none → Answers (.passLookup dt) s (s.elapse dt) tag .notFound []) ∧
        (key = 1 →
          (rest.length ≠ 4 → Answers (.passLookup dt) s (s.elapse dt) tag .badLength []) ∧
          ∀ wafer : Word32, rest = leBytes 4 wafer.toNat →
            (wafer = 0 → Answers (.passLookup dt) s (s.elapse dt) tag .badParam []) ∧
            (wafer ≠ 0 → (∀ i r, s.pass i = some r → r.tag ≠ wafer) →
              Answers (.passLookup dt) s (s.elapse dt) tag .notFound []))) ∧
    (Offers s .passLookup tag payload → ∀ (i : PassSlot) (r : Pass), s.pass i = some r →
      (payload = [0#8, byte i.val] ∨
        (payload = 1#8 :: leBytes 4 r.tag.toNat ∧ r.tag ≠ 0 ∧ ∀ j q, s.pass j = some q → q.tag = r.tag → j = i)) →
      ∃ head : List Byte, head.length = 12 ∧
        Answers (.passLookup dt) s (s.elapse dt) tag .ok
          (head ++ (r.steps.map StepProgram.bytes).flatten ++ [byte r.results.length] ++
            (r.results.map StepResult.bytes).flatten ++
            match r.live with | some l => 1#8 :: l.bytes | none => [0#8]) ∧
        field head 0 1 = i.val ∧ wordField head 1 = r.tag ∧
        field head 5 1 =
          (match r.state with | .staged => 0 | .waiting => 1 | .polishing => 2 | .held => 3 | .ended => 4) ∧
        field head 6 1 = (match r.head with | some h => h.number | none => 0xFF) ∧
        field head 7 1 =
          (match r.endCause with
            | some .complete => 0 | some .stepTimeout => 1 | some .aborted => 2 | none => 0xFF) ∧
        field head 8 1 =
          flagBit r.holds.host 0 + flagBit r.holds.trip 1 + flagBit r.holds.stall 2 + flagBit r.holds.sensor 3 +
            flagBit r.holds.supply 4 ∧
        field head 9 1 =
          (match r.startBlock with
            | none => 0 | some .trip => 1 | some .carousel => 2 | some .fault => 3 | some .pad => 4 | some .ring => 5
            | some .disk => 6 | some .conditioning => 7 | some .lot => 8) ∧
        (r.steps.length < 256 → field head 10 1 = r.steps.length) ∧ (r.current < 256 → field head 11 1 = r.current)) ∧
    (Offers s .passList tag payload →
      (1 < payload.length → Answers (.passList dt) s (s.elapse dt) tag .badLength []) ∧
      ∀ filter, payload = [filter] → 4 < filter.toNat → Answers (.passList dt) s (s.elapse dt) tag .badParam []) ∧
    (Offers s .passList tag payload → ∀ wanted : Option PassState,
      payload = (match wanted with
        | none => [] | some .staged => [0#8] | some .waiting => [1#8] | some .polishing => [2#8] | some .held => [3#8]
        | some .ended => [4#8]) →
      let listed := passSlots.filterMap fun i =>
        match s.pass i with
        | some r => if wanted = none ∨ wanted = some r.state then some (i, r) else none
        | none => none
      Answers (.passList dt) s (s.elapse dt) tag .ok
        (byte listed.length ::
          (listed.map fun x => byte x.1.val :: leBytes 4 x.2.tag.toNat ++ [byte x.2.state.code]).flatten))

/-- R10, R15, R16: PASS-BIND's checks in their order, and an accepted bind: the head written, the pass WAITING, no start block,
and nothing else changed. R143: the platen each head stands over, for every k; the station check is that the head is at S0. -/
def Obligations.PassBindBindsAHead : Prop :=
  ([Head.h0, .h1, .h2, .h3].map Head.number = [0, 1, 2, 3] ∧ [Platen.p0, .p1, .p2].map Platen.number = [0, 1, 2] ∧
    [Head.h0, .h1, .h2, .h3].map (platenUnder 0) = [none, some .p0, some .p1, some .p2] ∧
    [Head.h0, .h1, .h2, .h3].map (platenUnder 1) = [some .p0, some .p1, some .p2, none] ∧
    [Head.h0, .h1, .h2, .h3].map (platenUnder 2) = [some .p1, some .p2, none, some .p0] ∧
    [Head.h0, .h1, .h2, .h3].map (platenUnder 3) = [some .p2, none, some .p0, some .p1]) ∧
  (∀ (k : Fin 4) (h : Head), platenUnder k h = none ↔ (h.number + k.val) % 4 = 0) ∧
  ∀ (s : State) (dt : Nat) (tag : Byte) (payload : List Byte), Offers s .passBind tag payload →
    let now := s.elapse dt
    (payload.length ≠ 2 → Answers (.passBind dt) s now tag .badLength []) ∧
    ∀ slot hd, payload = [slot, hd] →
      (23 < slot.toNat ∨ 3 < hd.toNat → Answers (.passBind dt) s now tag .badParam []) ∧
      ∀ (i : PassSlot) (h : Head), slot = byte i.val → hd = byte h.number →
        (s.pass i = none → Answers (.passBind dt) s now tag .notFound []) ∧
        ∀ r, s.pass i = some r →
          (s.tripLatch = true → Answers (.passBind dt) s now tag .tripped []) ∧
          (s.tripLatch = false →
            (r.state ≠ .staged → Answers (.passBind dt) s now tag .wrongState []) ∧
            (r.state = .staged →
              (s.carousel.state ≠ .stopped → Answers (.passBind dt) s now tag .busy []) ∧
              (s.carousel.state = .stopped →
                ((h.number + s.carousel.k.val) % 4 ≠ 0 → Answers (.passBind dt) s now tag .wrongState []) ∧
                ((h.number + s.carousel.k.val) % 4 = 0 →
                  ((∃ j q, s.pass j = some q ∧ q.head = some h ∧
                      (q.state = .waiting ∨ q.state = .polishing ∨ q.state = .held)) →
                    Answers (.passBind dt) s now tag .busy []) ∧
                  ((∀ j q, s.pass j = some q → q.head = some h →
                      ¬(q.state = .waiting ∨ q.state = .polishing ∨ q.state = .held)) →
                    Answers (.passBind dt) s
                      (now.setPass i (some { r with state := .waiting, head := some h, startBlock := none }))
                      tag .ok [])))))

/-- R17 to R20: PASS-AMEND's checks in their order, and an accepted amend that does not end the step: the named fields of
step program s rewritten, the state of the pass and its c answered, and nothing else changed. An amend a is on the wire as its
mask and the bytes of its fields; it is in range when every value of the fields it names is. A new time limit at or below the
polish time of the running step ends the step when the amend is taken, POLISHING or HELD: COMPLETE in TIME mode, TIMEOUT in the
others; the reply gives the state and c after the step end. -/
def Obligations.PassAmendRewritesTheStep : Prop :=
  (∀ a : Amend, a.inRange = true ↔
    (∀ t, a.targets = some t → ∀ z, t.get z ≤ 60000) ∧ (∀ b, a.bases = some b → ∀ z, b.get z ≤ 700) ∧
      (∀ v, a.timeLimit = some v → 1 ≤ v ∧ v ≤ 6000) ∧ ∀ v, a.gain = some v → v ≤ 255) ∧
  (∀ (s : State) (dt : Nat) (tag : Byte) (payload : List Byte), Offers s .passAmend tag payload →
    let now := s.elapse dt
    (payload.length < 3 → Answers (.passAmend dt) s now tag .badLength []) ∧
    ∀ (slot n mask : Byte) (rest : List Byte), payload = slot :: n :: mask :: rest →
      let bytes := (if mask.getLsbD 0 then 8 else 0) + (if mask.getLsbD 1 then 8 else 0) +
        (if mask.getLsbD 2 then 2 else 0) + (if mask.getLsbD 3 then 1 else 0)
      (rest.length ≠ bytes → Answers (.passAmend dt) s now tag .badLength []) ∧
      (rest.length = bytes → 23 < slot.toNat ∨ 3 < n.toNat ∨ 16 ≤ mask.toNat →
        Answers (.passAmend dt) s now tag .badParam []) ∧
      ∀ a : Amend, a.fitsWire → mask :: rest = a.wire →
        (a.inRange = false → Answers (.passAmend dt) s now tag .badParam []) ∧
        (a.inRange = true → n.toNat ≤ 3 → ∀ i : PassSlot, slot = byte i.val → s.pass i = none →
          Answers (.passAmend dt) s now tag .notFound [])) ∧
  (∀ (s : State) (dt : Nat) (tag : Byte) (i : PassSlot) (n : Nat) (a : Amend) (r : Pass), n ≤ 3 → a.inRange = true →
    Offers s .passAmend tag (byte i.val :: byte n :: a.wire) → s.pass i = some r →
    let now := s.elapse dt
    (r.steps.length ≤ n → Answers (.passAmend dt) s now tag .badParam []) ∧
    ∀ st, r.steps[n]? = some st →
      (r.state = .ended ∨ n < r.current → Answers (.passAmend dt) s now tag .tooLate []) ∧
      (r.state ≠ .ended → r.current ≤ n →
        let amended : StepProgram :=
          { st with
            zones := PerZone.tabulate fun z =>
              { base := (match a.bases with | some b => b.get z | none => (st.zones.get z).base)
                target := (match a.targets with | some t => t.get z | none => (st.zones.get z).target)
                path := (st.zones.get z).path }
            timeLimit := a.timeLimit.getD st.timeLimit
            gain := a.gain.getD st.gain }
        (amended.valid = false → Answers (.passAmend dt) s now tag .badParam []) ∧
        (amended.valid = true →
          (∀ limit l, a.timeLimit = some limit → n = r.current → r.live = some l → l.polishTime < limit) →
          Answers (.passAmend dt) s (now.setPass i (some { r with steps := r.steps.set n amended })) tag .ok
            [byte r.state.code, byte r.current]))) ∧
  ∀ (s : State) (dt : Nat) (tag : Byte) (i : PassSlot) (limit : Nat) (r : Pass) (st : StepProgram) (l : LiveProgress),
    1 ≤ limit → limit ≤ 6000 → r.current ≤ 3 → s.pass i = some r → r.state = .polishing ∨ r.state = .held →
    r.step = some st → st.valid = true → r.live = some l → r.head ≠ none → limit ≤ l.polishTime →
    Offers s .passAmend tag (byte i.val :: byte r.current :: [4#8] ++ leBytes 2 limit) →
    let amended : StepProgram := { st with timeLimit := limit }
    let cause : StepEnd := if st.mode = .time then .complete else .timeout
    let t := ((s.elapse dt).setPass i (some { r with steps := r.steps.set r.current amended })).endStep i cause
    Answers (.passAmend dt) s t tag .ok
        (match t.pass i with | some q => [byte q.state.code, byte q.current] | none => []) ∧
      t.attnPending.has .stepEnd = true ∧
      ∃ q, t.pass i = some q ∧ q.state ≠ .held ∧ (q.results.take r.results.length = r.results) ∧
        q.results[r.results.length]? = some
          { index := r.current, cause, revolutions := l.revolutions, polishTime := l.polishTime,
            removal := ⟨reported l.acc.z0, reported l.acc.z1, reported l.acc.z2, reported l.acc.z3⟩, pad := l.pad,
            lotA := l.lotA, lotB := l.lotB, ring := l.ring, supplyShort := l.supplyShort,
            conditioningIncomplete := l.conditioningIncomplete }

/-- R22 to R24: PASS-ABORT and PASS-RETIRE. An aborted STAGED or WAITING pass enters ENDED with cause ABORTED, no result added
and PASS_END raised; a POLISHING or HELD one has its step ended ABORTED (StepEndCloses): a result, STEP_END and PASS_END
raised, its in-situ arm parked, the other heads and platens as they were; an ENDED one is refused. A retire frees the slot of an
ENDED pass and refuses any other state, changing nothing. -/
def Obligations.PassAbortAndRetire : Prop :=
  (∀ (s : State) (dt : Nat) (tag : Byte) (payload : List Byte), Offers s .passAbort tag payload →
    let now := s.elapse dt
    (payload.length ≠ 1 → Answers (.passAbort dt) s now tag .badLength []) ∧
    ∀ slot, payload = [slot] →
      (23 < slot.toNat → Answers (.passAbort dt) s now tag .badParam []) ∧
      ∀ i : PassSlot, slot = byte i.val → s.pass i = none → Answers (.passAbort dt) s now tag .notFound []) ∧
  (∀ (s : State) (dt : Nat) (tag : Byte) (i : PassSlot) (r : Pass), Offers s .passAbort tag [byte i.val] → s.pass i = some r →
    let now := s.elapse dt
    (r.state = .ended → Answers (.passAbort dt) s now tag .wrongState []) ∧
    (r.state = .staged ∨ r.state = .waiting →
      Answers (.passAbort dt) s
        ((now.setPass i (some
          { r with
            state := .ended, endCause := some .aborted, head := none, current := r.results.length - 1,
            startBlock := none, holds := HoldSet.empty, live := none })).raise .passEnd)
        tag .ok []) ∧
    (r.state = .polishing ∨ r.state = .held → ∀ l st h, r.live = some l → r.step = some st → r.head = some h →
      let t := now.endStep i .aborted
      Answers (.passAbort dt) s t tag .ok [] ∧ t.attnPending = s.attnPending ||| 3#9 ∧
        t.pass i = some
          { r with
            state := .ended, endCause := some .aborted, head := none, current := r.results.length, startBlock := none,
            holds := HoldSet.empty, live := none
            results := r.results ++ [l.result r.current .aborted] } ∧
        (∀ j, j ≠ i → t.pass j = s.pass j) ∧ Vented now t h ∧
        t.supply = s.supply.set st.platen (s.supply.get st.platen).stopped ∧
        t.arms = (match st.conditioning with
          | .inSitu _ =>
            if (s.arms.get st.platen).service.isInSitu = true then
              s.arms.set st.platen { (s.arms.get st.platen).parked with service := .none }
            else s.arms
          | _ => s.arms) ∧
        t.items = s.items ∧ KeptStation now t)) ∧
  ∀ (s : State) (dt : Nat) (tag : Byte) (payload : List Byte), Offers s .passRetire tag payload →
    let now := s.elapse dt
    (payload.length ≠ 1 → Answers (.passRetire dt) s now tag .badLength []) ∧
    ∀ slot, payload = [slot] →
      (23 < slot.toNat → Answers (.passRetire dt) s now tag .badParam []) ∧
      ∀ i : PassSlot, slot = byte i.val →
        (s.pass i = none → Answers (.passRetire dt) s now tag .notFound []) ∧
        ∀ r, s.pass i = some r →
          (r.state ≠ .ended → Answers (.passRetire dt) s now tag .wrongState []) ∧
          (r.state = .ended → Answers (.passRetire dt) s (now.setPass i none) tag .ok [])

/-! ### Operations in several blocks: holds, starts, step ends -/

/-- R156, R157: a hold cause added to a POLISHING pass makes it HELD with that cause alone, its step timer stopped, its head's
channels vented, its platen's dispensing stopped and demand dropped, its in-situ arm parked; added to a HELD pass it joins the
set; no other pass is reached. Nothing else changes. -/
def Obligations.HoldCauseAdded : Prop :=
  ∀ (s : State) (i : PassSlot) (c : HoldCause) (r : Pass), s.pass i = some r →
    let t := s.addCause i c
    (r.state ≠ .polishing → r.state ≠ .held → t = s) ∧
    (r.state = .held → t = s.setPass i (some { r with holds := r.holds.add c })) ∧
    (∀ d, (r.holds.add c).has d = true ↔ r.holds.has d = true ∨ d = c) ∧
    (r.state = .polishing → ∀ l st h, r.live = some l → r.step = some st → r.head = some h →
      t.pass i = some (r.heldAt l s.clock (HoldSet.empty.add c)) ∧ (∀ j, j ≠ i → t.pass j = s.pass j) ∧ Vented s t h ∧
        t.supply = s.supply.set st.platen (s.supply.get st.platen).stopped ∧
        t.arms = (match (s.arms.get st.platen).service with
          | .inSitu _ =>
            if (s.arms.get st.platen).sweeping then s.arms.set st.platen (s.arms.get st.platen).parked else s.arms
          | _ => s.arms) ∧
        t.items = s.items ∧ t.attnPending = s.attnPending ∧ KeptStation s t)

/-- R157, R160: a supply loss on a feed reaches every POLISHING or HELD pass whose current step's blend row gives the feed parts:
a POLISHING one becomes HELD with SUPPLY, a HELD one adds SUPPLY; no other pass changes. FAULT is raised exactly when one of
them did not hold SUPPLY before. The entry to HELD acts on what serves the pass (R75, R111, R133): the channels of its head
enter VENT, its platen no longer dispenses and has no demand, an arm sweeping IN_SITU there parks. Every other channel, platen
and arm stays as it was. -/
def Obligations.SupplyLossHolds : Prop :=
  ∀ (s : State) (f : Feed),
    let t := s.supplyLoss f
    let reached : Pass → Prop := fun r =>
      (r.state = .polishing ∨ r.state = .held) ∧ ∃ st, r.step = some st ∧ 0 < (s.row st.blendRow).parts f
    let newlyHeld : Head → Platen → Prop := fun h p => ∃ i r st, s.pass i = some r ∧ r.state = .polishing ∧ reached r ∧
      r.head = some h ∧ r.step = some st ∧ st.platen = p
    (∀ row : BlendRow, row.parts f = (match f with | .a => row.partA | .b => row.partB | .c => row.partC)) ∧
    (∀ i, s.pass i = none → t.pass i = none) ∧
    (∀ i r, s.pass i = some r →
      (¬reached r → t.pass i = some r) ∧
      (reached r → r.state = .held → t.pass i = some { r with holds := { r.holds with supply := true } }) ∧
      (reached r → r.state = .polishing → ∀ l, r.live = some l →
        t.pass i = some (r.heldAt l s.clock ⟨false, false, false, false, true⟩))) ∧
    (∀ h c,
      let x := s.channel h c
      (x.mode = .drive → (∃ p, newlyHeld h p) →
        t.channel h c = x.vented s.clock (s.headSettings.get h).drive.deadTime) ∧
      (x.mode = .vent ∨ (¬∃ p, newlyHeld h p) → t.channel h c = x)) ∧
    (∀ p,
      let a := s.arms.get p
      ((∃ h, newlyHeld h p) → t.supply.get p = (s.supply.get p).stopped ∧
        t.arms.get p = (match a.service with | .inSitu _ => if a.sweeping then a.parked else a | _ => a)) ∧
      ((¬∃ h, newlyHeld h p) → t.supply.get p = s.supply.get p ∧ t.arms.get p = a)) ∧
    ((∃ i r, s.pass i = some r ∧ reached r ∧ r.holds.supply = false) → t.attnPending = s.attnPending ||| 8#9) ∧
    ((¬∃ i r, s.pass i = some r ∧ reached r ∧ r.holds.supply = false) → t.attnPending = s.attnPending) ∧
    t.items = s.items ∧ KeptStation s t

/-- R28, R30, R31, R34, R35: a start attempt leaves a pass that is not eligible as it is. For an eligible one it writes the
reason of the first condition that fails, in the order TRIP, CAROUSEL, FAULT, PAD, RING, DISK, CONDITIONING, LOT, and changes
nothing else. When none fails the step starts: live progress with the captured ids, the head driven, the platen dispensing with
the step's row, an IN_SITU arm sweeping OUTWARD, the ring's usage one higher. The item mounted at a position is one of the kind
asked for whose position it is (R89). -/
def Obligations.StartAttempt : Prop :=
  (∀ (s : State) (kind : ItemKind) (pos : Position),
    (∀ x, s.mountedItem kind pos = some x → ∃ j, s.mounted kind pos = some j ∧ s.item j = some x ∧ x.kind = kind ∧
      x.position = some pos) ∧
    (s.mountedItem kind pos = none → ∀ j x, s.item j = some x → ¬(x.kind = kind ∧ x.position = some pos))) ∧
  ∀ (s : State) (i : PassSlot) (r : Pass), s.pass i = some r →
    (¬r.mayStart s.carousel.k → s.attempt i = s) ∧
    ∀ (h : Head) (st : StepProgram), r.state = .waiting → r.head = some h → r.step = some st →
      platenUnder s.carousel.k h = some st.platen →
      let p := st.platen
      let uses : Feed → Prop := fun f => 0 < (s.row st.blendRow).parts f
      let unsound : ItemKind → Position → Prop := fun kind pos =>
        ∀ x, s.mountedItem kind pos = some x → x.flags.worn = true ∨ x.flags.expired = true ∨ x.flags.empty = true
      let noLot : Position → Prop := fun pos =>
        ∀ x, s.mountedItem .lot pos = some x → x.flags.expired = true ∨ x.flags.empty = true
      let fails : StartBlock → Prop
        | .trip => s.tripLatch = true
        | .carousel => s.carousel.state ≠ .stopped
        | .fault => (s.rotation.get p).stall = true ∨ ∃ c, (s.channel h c).fault = true
        | .pad => unsound .pad (.platen p)
        | .ring => unsound .ring (.head h)
        | .disk => st.conditioning ≠ .none ∧ unsound .disk (.platen p)
        | .conditioning => 0 < (s.arms.get p).exSitu
        | .lot => (uses .a ∧ noLot .feedA) ∨ (uses .b ∧ noLot .feedB)
      let place : StartBlock → Nat
        | .trip => 1 | .carousel => 2 | .fault => 3 | .pad => 4 | .ring => 5 | .disk => 6 | .conditioning => 7 | .lot => 8
      (∀ reason, fails reason → (∀ b, place b < place reason → ¬fails b) →
        s.attempt i = s.setPass i (some { r with startBlock := some reason })) ∧
      ((∀ reason, ¬fails reason) → ∀ pad ring j, s.mountedItem .pad (.platen p) = some pad →
        s.mounted .ring (.head h) = some j → s.item j = some ring →
        let t := s.attempt i
        let used : Item := { ring with usage := min 4294967295 (ring.usage + 1) }
        let wears : Bool := decide (0 < ring.limit ∧ ring.limit ≤ used.usage)
        (∃ lotA lotB, t.pass i = some
            { r with
              state := .polishing, startBlock := none
              live := some (.fresh st s.clock pad.id ring.id lotA lotB) } ∧
          (uses .a → lotA = (s.mountedItem .lot .feedA).map Item.id) ∧ (¬uses .a → lotA = none) ∧
          (uses .b → lotB = (s.mountedItem .lot .feedB).map Item.id) ∧ (¬uses .b → lotB = none)) ∧
        (∀ k, k ≠ i → t.pass k = s.pass k) ∧ Driven s t h st ⟨false, false, false, false⟩ ∧
        t.supply = s.supply.set p { s.supply.get p with dispensing := some st.blendRow } ∧
        t.arms = (match st.conditioning with
          | .inSitu q => s.arms.set p
              (Arm.swept s.clock (s.profile q) { s.arms.get p with service := .inSitu q, direction := .outward })
          | _ => s.arms) ∧
        t.items = putAt s.items j (some { used with flags := { ring.flags with worn := ring.flags.worn || wears } }) ∧
        t.attnPending = (if wears = true ∧ ring.flags.worn = false then s.attnPending ||| 16#9 else s.attnPending) ∧
        KeptStation s t)

/-- R28 to R31: an event that reaches every eligible pass makes one attempt (StartAttempt) for each of them and none for any
other pass; one that reaches the pass over a platen or on a head makes that pass's attempt alone, and with no pass reached
nothing changes. With several reached, each record, channel, platen, arm and item, and the pending causes, are what the attempts
give made alone: each pass has the reason of the first of its own conditions that fails in R30's order, or its step started. -/
def Obligations.AttemptsReachTheEligible : Prop :=
  ∀ s : State,
    let eligible : Pass → Prop := fun r => r.mayStart s.carousel.k
    let eligibleOver : Platen → Pass → Prop := fun p r => eligible r ∧ ∃ st, r.step = some st ∧ st.platen = p
    let eligibleOn : Head → Pass → Prop := fun h r => eligible r ∧ r.head = some h
    AttemptsMade s s.attemptAll eligible ∧ (∀ p, AttemptsMade s (s.attemptOver p) (eligibleOver p)) ∧
      (∀ h, AttemptsMade s (s.attemptOn h) (eligibleOn h)) ∧
      (s.passesApart → ∀ i r, s.pass i = some r →
        (∀ p, eligibleOver p r → s.attemptOver p = s.attempt i) ∧ ∀ h, eligibleOn h r → s.attemptOn h = s.attempt i)

/-- R44 to R46, R134: a step end appends the result, drops the live progress and the causes, vents the head, stops the
dispensing, ends an IN_SITU service, raises STEP_END. A COMPLETE end with steps remaining leaves the pass WAITING at c + 1, with
a start attempt (StartAttempt), made after all of this, when its head is over the next step's platen; every other end leaves it
ENDED with its cause and raises PASS_END. An EX_SITU step that did not end ABORTED hands the platen over, unless the trip latch
is set or no sound disk is there. -/
def Obligations.StepEndCloses : Prop :=
  ∀ (s : State) (i : PassSlot) (cause : StepEnd) (r : Pass) (l : LiveProgress) (st : StepProgram) (h : Head),
    s.pass i = some r → r.live = some l → r.step = some st → r.head = some h →
    let t := s.endStep i cause
    let p := st.platen
    let result : StepResult :=
      { index := r.current, cause, revolutions := l.revolutions, polishTime := l.polishTime
        removal := ⟨reported l.acc.z0, reported l.acc.z1, reported l.acc.z2, reported l.acc.z3⟩
        pad := l.pad, lotA := l.lotA, lotB := l.lotB, ring := l.ring, supplyShort := l.supplyShort
        conditioningIncomplete := l.conditioningIncomplete }
    let results := r.results ++ [result]
    let noDisk : Prop := ∀ x, s.mountedItem .disk (.platen p) = some x → x.flags.worn = true
    let arms := match st.conditioning with
      | .none => s.arms
      | .inSitu _ =>
        if (s.arms.get p).service.isInSitu = true then s.arms.set p { (s.arms.get p).parked with service := .none }
        else s.arms
      | .exSitu q n =>
        let served : Arm := { s.arms.get p with service := .exSitu q, exSitu := n, direction := .outward, segment := 0 }
        if cause = .aborted ∨ s.tripLatch = true then s.arms
        else if (s.rotation.get p).stall = true then s.arms.set p served
        else s.arms.set p (served.swept s.clock (s.profile q))
    let dropped : Prop := (∃ q n, st.conditioning = .exSitu q n) ∧ cause ≠ .aborted ∧ s.tripLatch = false ∧ noDisk
    let released : State → Prop := fun u =>
      Vented s u h ∧ u.supply = s.supply.set p (s.supply.get p).stopped ∧ (¬dropped → u.arms = arms) ∧
        (dropped → u.arms = s.arms) ∧ u.items = s.items ∧ (∀ j, j ≠ i → u.pass j = s.pass j) ∧ KeptStation s u
    (∀ j, j ≠ i → t.pass j = s.pass j) ∧ KeptStation s t ∧ t.attnPending.has .stepEnd = true ∧
    (¬(cause = .complete ∧ r.current + 1 < r.steps.length) →
      t.pass i = some
        { r with
          state := .ended, head := none, startBlock := none, holds := HoldSet.empty, live := none, results
          endCause := some (match cause with | .complete => .complete | .timeout => .stepTimeout | .aborted => .aborted)
          current := results.length - 1 } ∧
        released t ∧ t.attnPending = s.attnPending ||| 3#9) ∧
    (cause = .complete → r.current + 1 < r.steps.length →
      let next : Pass :=
        { r with
          state := .waiting, startBlock := none, holds := HoldSet.empty, live := none, results
          current := r.current + 1 }
      t.attnPending.has .passEnd = s.attnPending.has .passEnd ∧
        ∃ u, u.pass i = some next ∧ released u ∧ u.attnPending = s.attnPending ||| 1#9 ∧
          (next.mayStart s.carousel.k → t = u.attempt i ∧ ∃ q, t.pass i = some q ∧ Attempted next q) ∧
          (¬next.mayStart s.carousel.k → t = u))

/-! ### Hold, resume, emergency stop -/

/-- R161, R162: PASS-HOLD's checks in their order, and an accepted hold: HOST is added (HoldCauseAdded) and the reply is the
hold-cause set as it then stands. -/
def Obligations.PassHoldAddsHost : Prop :=
  ∀ (s : State) (dt : Nat) (tag : Byte) (payload : List Byte), Offers s .passHold tag payload →
    let now := s.elapse dt
    (payload.length ≠ 1 → Answers (.passHold dt) s now tag .badLength []) ∧
    ∀ slot, payload = [slot] →
      (23 < slot.toNat → Answers (.passHold dt) s now tag .badParam []) ∧
      ∀ i : PassSlot, slot = byte i.val →
        (s.pass i = none → Answers (.passHold dt) s now tag .notFound []) ∧
        ∀ r, s.pass i = some r →
          (r.state ≠ .polishing → r.state ≠ .held → Answers (.passHold dt) s now tag .wrongState []) ∧
          (r.state = .held →
            Answers (.passHold dt) s (now.setPass i (some { r with holds := { r.holds with host := true } })) tag .ok
              [byte (1 + flagBit r.holds.trip 1 + flagBit r.holds.stall 2 + flagBit r.holds.sensor 3 +
                flagBit r.holds.supply 4)]) ∧
          (r.state = .polishing → ∀ l st h, r.live = some l → r.step = some st → r.head = some h →
            Answers (.passHold dt) s (now.addCause i .host) tag .ok [1#8])

/-- R161, R163, R164: PASS-RESUME's checks in their order, and an accepted resume: no causes, POLISHING, the settle revolutions
reloaded, the head driven with complete zones at Wmin, the platen dispensing, and an arm whose service still is IN_SITU
sweeping again, or stopped for good when its disk is worn. -/
def Obligations.PassResumeGoesOn : Prop :=
  ∀ (s : State) (dt : Nat) (tag : Byte) (payload : List Byte), Offers s .passResume tag payload → s.seated → s.passesApart →
    let now := s.elapse dt
    (payload.length ≠ 1 → Answers (.passResume dt) s now tag .badLength []) ∧
    ∀ slot, payload = [slot] →
      (23 < slot.toNat → Answers (.passResume dt) s now tag .badParam []) ∧
      ∀ i : PassSlot, slot = byte i.val →
        (s.pass i = none → Answers (.passResume dt) s now tag .notFound []) ∧
        ∀ r, s.pass i = some r →
          (r.state ≠ .held → Answers (.passResume dt) s now tag .wrongState []) ∧
          (r.state = .held → ∀ l st h, r.live = some l → r.step = some st → r.head = some h →
            let p := st.platen
            let uses : Feed → Prop := fun f => 0 < (s.row st.blendRow).parts f
            let noLot : Position → Prop := fun pos =>
              ∀ x, s.mountedItem .lot pos = some x → x.flags.expired = true ∨ x.flags.empty = true
            let blocked : Prop := s.tripLatch = true ∨ (s.rotation.get p).stall = true ∨
              (∃ c, (s.channel h c).fault = true) ∨ (uses .a ∧ noLot .feedA) ∨ (uses .b ∧ noLot .feedB)
            let worn : Prop := ∃ x, s.mountedItem .disk (.platen p) = some x ∧ x.flags.worn = true
            let sweeps : Prop := (∃ q, st.conditioning = .inSitu q) ∧ (s.arms.get p).service.isInSitu = true
            (blocked → Answers (.passResume dt) s now tag .busy []) ∧
            (¬blocked → ∃ t incomplete, Answers (.passResume dt) s t tag .ok [] ∧
              t.pass i = some
                { r with
                  state := .polishing, holds := HoldSet.empty
                  live := some
                    { l with settleLeft := st.settle, timerFrom := now.clock, conditioningIncomplete := incomplete } } ∧
              (sweeps → worn → incomplete = true ∧
                t.arms = s.arms.set p { (s.arms.get p).parked with service := .none }) ∧
              (¬(sweeps ∧ worn) → incomplete = l.conditioningIncomplete) ∧
              (sweeps → ¬worn → t.arms = s.arms.set p ((s.arms.get p).swept now.clock (s.armProfile p))) ∧
              (¬sweeps → t.arms = s.arms) ∧ (∀ j, j ≠ i → t.pass j = s.pass j) ∧ Driven now t h st l.complete ∧
              t.supply = s.supply.set p { s.supply.get p with dispensing := some st.blendRow } ∧ t.items = s.items ∧
              t.attnPending = s.attnPending ∧ KeptStation now t))

/-- R76, R120, R138, R148, R153, R154: ESTOP going active with the latch clear sets the latch and raises TRIP; every POLISHING
pass becomes HELD with TRIP, every HELD pass adds TRIP, STAGED and ENDED passes are untouched, and a WAITING pass changes only
where the end of an EX_SITU service calls an attempt, which fails with TRIP; every channel in DRIVE enters VENT and the others stay
as they are; every demand is 0, and a platen whose pass becomes HELD no longer dispenses; every SWEEPING arm parks, and an EX_SITU
service ends; an INDEXING carousel is LOST with CAROUSEL raised. With the latch set already nothing but the level changes. That
the command does nothing at an input already active, where its event cannot come, is the model's choice
(notes/assumptions/4.md). -/
def Obligations.TripEventHoldsEverything : Prop :=
  ∀ (s : State) (dt : Nat),
    (s.estop = true → exec (.tripEvent dt) s = .next (s.elapse dt)) ∧
    (s.estop = false → s.tripLatch = true → exec (.tripEvent dt) s = .next { s.elapse dt with estop := true }) ∧
    (s.estop = false → s.tripLatch = false → ∃ t, exec (.tripEvent dt) s = .next t ∧ t.tripLatch = true ∧ t.estop = true ∧
      t.clock = s.clock + dt ∧
      (∀ i, s.pass i = none → t.pass i = none) ∧
      (∀ i r, s.pass i = some r →
        (r.state = .staged ∨ r.state = .ended → t.pass i = some r) ∧
        (r.state = .waiting →
          ((∃ h st, r.head = some h ∧ r.step = some st ∧ platenUnder s.carousel.k h = some st.platen ∧
              (s.arms.get st.platen).service.isExSitu = true) → t.pass i = some { r with startBlock := some .trip }) ∧
          ((¬∃ h st, r.head = some h ∧ r.step = some st ∧ platenUnder s.carousel.k h = some st.platen ∧
              (s.arms.get st.platen).service.isExSitu = true) → t.pass i = some r)) ∧
        (r.state = .held → t.pass i = some { r with holds := { r.holds with trip := true } }) ∧
        (r.state = .polishing → ∀ l, r.live = some l →
          t.pass i = some (r.heldAt l (s.clock + dt) ⟨false, true, false, false, false⟩))) ∧
      (∀ h c, t.channel h c =
        if (s.channel h c).mode = .drive then (s.channel h c).vented (s.clock + dt) (s.headSettings.get h).drive.deadTime
        else s.channel h c) ∧
      (∀ p,
        let runs : Prop := ∃ i r h st, s.pass i = some r ∧ r.state = .polishing ∧ r.head = some h ∧ r.step = some st ∧
          st.platen = p
        (runs → t.supply.get p = (s.supply.get p).stopped) ∧
        (¬runs → t.supply.get p = { s.supply.get p with demand := ⟨0, 0, 0⟩, strokes := ⟨0, 0, 0⟩ })) ∧
      (∀ p,
        let a := s.arms.get p
        t.arms.get p =
          if a.service.isExSitu = true then { a.parked with service := .none, exSitu := 0 }
          else if a.sweeping = true then a.parked else a) ∧
      (s.carousel.state = .indexing →
        t.carousel = { s.carousel with state := .lost, drive := false, timer := none } ∧
        t.attnPending = s.attnPending ||| 68#9) ∧
      (s.carousel.state ≠ .indexing → t.carousel = s.carousel ∧ t.attnPending = s.attnPending ||| 4#9) ∧
      t.rotation = s.rotation ∧ t.windows = s.windows ∧ t.feeds = s.feeds ∧ t.items = s.items ∧
      Kept { s.elapse dt with estop := true } t)

/-- R154, R155: the release of ESTOP changes the level alone. TRIP-CLEAR answers BUSY while ESTOP is active; with ESTOP
released it clears a set latch and every eligible pass gets a start attempt, and with the latch clear it changes nothing. -/
def Obligations.TripClearClearsTheLatch : Prop :=
  ∀ (s : State) (dt : Nat) (tag : Byte) (payload : List Byte),
    exec (.estopRelease dt) s = .next { s.elapse dt with estop := false } ∧
    (Offers s .tripClear tag payload →
      let now := s.elapse dt
      (payload ≠ [] → Answers (.tripClear dt) s now tag .badLength []) ∧
      (payload = [] →
        (s.estop = true → Answers (.tripClear dt) s now tag .busy []) ∧
        (s.estop = false → s.tripLatch = false → Answers (.tripClear dt) s now tag .ok []) ∧
        (s.estop = false → s.tripLatch = true →
          let cleared : State := { now with tripLatch := false }
          Answers (.tripClear dt) s cleared.attemptAll tag .ok [] ∧
          ((∀ i r, s.pass i = some r → ¬r.mayStart s.carousel.k) → Answers (.tripClear dt) s cleared tag .ok []))))

/-! ### Levels, the step timer, the endpoint -/

/-- R27, R49, R115, R146: the falling edges write the last level seen and nothing else, and the end of a stroke pulse ends the
pulse and nothing else. R68, R115, R128, R142: the output lines follow the state: FILL and VNT the valves of their channel, PUMP
the stroke pulse, DIV the diverter selection, ARMn PARK the arm state, the direction line the direction while SWEEPING, ARMn
FORCE the downforce of the current segment while SWEEPING and 0 while PARKED, CDRV the drive request. The level of the direction
line while PARKED is free (notes/assumptions/16.md) and not spoken of. -/
def Obligations.FallingEdgesAndOutputLines : Prop :=
  (∀ (s : State) (dt : Nat) (p : Platen) (f : Feed),
    exec (.endpointFallingEdge dt p) s =
      .next { s with clock := s.clock + dt, endpointLevel := s.endpointLevel.set p false } ∧
    exec (.indexFallingEdge dt p) s =
      .next { s with clock := s.clock + dt, rotation := s.rotation.set p { s.rotation.get p with level := false } } ∧
    exec (.cdoneFallingEdge dt) s =
      .next { s with clock := s.clock + dt, carousel := { s.carousel with cdone := false } } ∧
    exec (.pumpPulseEnd dt f) s =
      .next { s with clock := s.clock + dt, feeds := s.feeds.set f { s.feeds.get f with pulse := false } }) ∧
  ∀ (s : State) (h : Head) (c : Chan) (f : Feed) (p : Platen),
    let a := s.arms.get p
    s.fillLine h c = (s.channel h c).fill.isOpen ∧ s.ventLine h c = (s.channel h c).vent.isOpen ∧
      s.pumpLine f = (s.feeds.get f).pulse ∧
      (s.diverterLines f).toNat = (match (s.feeds.get f).diverter with | .p0 => 0 | .p1 => 1 | .p2 => 2) ∧
      s.driveLine = s.carousel.drive ∧
      (a.sweeping = false → s.parkLine p = true ∧ s.forceLine p = 0) ∧
      (a.sweeping = true → s.parkLine p = false ∧ (s.directionLine p = true ↔ a.direction = .inward) ∧
        ∀ (q : Fin 4) (g : Segment), a.service = .inSitu q ∨ a.service = .exSitu q →
          (match a.direction with
            | .outward => (s.profile q)[a.segment]?
            | .inward => (s.profile q).reverse[a.segment]?) = some g →
          s.forceLine p = g.force)

/-- R36, R37, R42: the moment a POLISHING pass's remainder reaches 100,000 µs its polish time rises by 1, and when that brings
it to the time limit the step ends, COMPLETE in TIME mode and TIMEOUT in the others. STEP_TIMER_EXPIRY takes the time all units
that are left take and ends the step in the same way: the model's reading of the two rows (notes/assumptions/10.md). A rising
edge of the endpoint input ends the step of a POLISHING pass in EXTERNAL mode with no settle revolutions left, COMPLETE, and
does nothing else. That the timer commands do nothing at a head without a POLISHING pass, and the edge nothing at a level
already high, is the model's choice (notes/assumptions/4.md). -/
def Obligations.StepTimerAndEndpoint : Prop :=
  (∀ (s : State) (h : Head) (i : PassSlot) (r : Pass) (l : LiveProgress) (st : StepProgram),
    s.passesApart → s.pass i = some r → r.state = .polishing → r.head = some h → r.live = some l → r.step = some st →
    let due := l.timerFrom + (100000 - l.remainder)
    let now := max s.clock due
    let raised : LiveProgress :=
      { l with
        polishTime := l.polishTime + 1, remainder := l.remainder + (now - l.timerFrom) - 100000, timerFrom := now }
    let written : State := { s with clock := now }.setPass i (some { r with live := some raised })
    let cause : StepEnd := if st.mode = .time then .complete else .timeout
    (s.clock ≤ due → l.remainder < 100000 → raised.remainder = 0) ∧
    (l.polishTime + 1 < st.timeLimit → exec (.polishTimeAdvance h) s = .next written) ∧
    (st.timeLimit ≤ l.polishTime + 1 → exec (.polishTimeAdvance h) s = .next (written.endStep i cause)) ∧
    (l.polishTime < st.timeLimit →
      let units := st.timeLimit - l.polishTime
      let late := max s.clock (l.timerFrom + (units * 100000 - l.remainder))
      exec (.stepTimerExpiry h) s = .next
        (({ s with clock := late }.setPass i (some
          { r with
            live := some
              { l with
                polishTime := st.timeLimit, remainder := l.remainder + (late - l.timerFrom) - units * 100000
                timerFrom := late } })).endStep i cause))) ∧
  (∀ (s : State) (h : Head), (∀ i r, s.pass i = some r → r.state = .polishing → r.head ≠ some h) →
    exec (.polishTimeAdvance h) s = .next s ∧ exec (.stepTimerExpiry h) s = .next s) ∧
  ∀ (s : State) (dt : Nat) (p : Platen),
    let seen : State := { s with clock := s.clock + dt, endpointLevel := s.endpointLevel.set p true }
    let ends : Pass → Prop := fun r =>
      r.state = .polishing ∧ ∃ h st l, r.head = some h ∧ r.step = some st ∧ r.live = some l ∧ st.platen = p ∧
        platenUnder s.carousel.k h = some p ∧ st.mode = .external ∧ l.settleLeft = 0
    (s.endpointLevel.get p = true → exec (.endpointEdge dt p) s = .next { s with clock := s.clock + dt }) ∧
    (s.endpointLevel.get p = false → (∀ i r, s.pass i = some r → ¬ends r) → exec (.endpointEdge dt p) s = .next seen) ∧
    (s.endpointLevel.get p = false → s.passesApart → ∀ i r, s.pass i = some r → ends r →
      exec (.endpointEdge dt p) s = .next (seen.endStep i .complete))

/-! ### Removal integration -/

/-- R52, R57, R122, R123, R130: every accepted edge of a platen renews the reference and the stall timer, closes the windows of
the head over the platen, raises the glaze count, closes the supply counts into the ratio, the short run and SUPPLY_SHORT
(raising SUPPLY when newly set), and sets the supply-short flag of the pass running there at a short closing with the condition
set. Nothing else changes. -/
def Obligations.AcceptedEdgeActs : Prop :=
  ∀ (s : State) (p : Platen),
    let t := s.acceptEdge p
    let x := s.supply.get p
    let ratio := if x.demanded = 0 then 4096 else min 4096 (x.granted * 4096 / x.demanded)
    let run := if ratio < 3277 then min 3 (x.shortRun + 1) else 0
    let short : Bool := decide (ratio < 3277) && (x.short || decide (run = 3))
    let onPlaten : Pass → Prop := fun r =>
      (r.state = .polishing ∨ r.state = .held) ∧ ∃ h st, r.head = some h ∧ r.step = some st ∧ st.platen = p ∧
        platenUnder s.carousel.k h = some p
    t.rotation = s.rotation.set p
      { s.rotation.get p with reference := some (BitVec.ofNat 32 s.clock), stallTimer := some (s.clock + 8000000) } ∧
    (∀ h z, (t.windows.get h).get z =
      if platenUnder s.carousel.k h = some p then
        let w := (s.windows.get h).get z
        ⟨0, 0, if 0 < w.count then some (w.sum / w.count) else w.lastAverage⟩
      else (s.windows.get h).get z) ∧
    t.arms = s.arms.set p { s.arms.get p with glaze := min 65535 ((s.arms.get p).glaze + 1) } ∧
    t.supply = s.supply.set p { x with demanded := 0, granted := 0, lastRatio := ratio, shortRun := run, short } ∧
    t.attnPending = (if short = true ∧ x.short = false then s.attnPending ||| 32#9 else s.attnPending) ∧
    (∀ i r, s.pass i = some r →
      (short = false ∨ ¬onPlaten r → t.pass i = some r) ∧
      (s.passesApart → short = true → onPlaten r →
        t.pass i = some { r with live := r.live.map fun l => { l with supplyShort := true } })) ∧
    (∀ i, s.pass i = none → t.pass i = none) ∧ t.items = s.items ∧ t.channels = s.channels ∧ t.feeds = s.feeds ∧ Steady s t

/-- R49 to R51, R54, R136: the kinds of a rising index edge and what each does besides the accepted edge's own actions
(AcceptedEdgeActs). A bounce, less than 100,000 µs after the reference, does nothing; a first edge writes no period; a slow
edge, above 6,000,000 µs, and a normal one write their period; a stall-clearing edge writes its period, at least 8,000,000,
clears STALL, calls a start attempt over the platen and sets a paused EX_SITU arm sweeping. A normal edge with no pass running
on the platen credits nothing. That the command does nothing at an input already high, where no edge can come, is the model's
choice (notes/assumptions/4.md). -/
def Obligations.IndexEdgeKinds : Prop :=
  ∀ (s : State) (dt : Nat) (p : Platen),
    let x := s.rotation.get p
    let seen : State := { s with clock := s.clock + dt, rotation := s.rotation.set p { x with level := true } }
    let wrote : Word32 → Bool → State := fun period stall =>
      { seen with rotation := s.rotation.set p { x with level := true, lastPeriod := some period, stall } }
    (x.level = true → exec (.platenIndexEdge dt p) s = .next { s with clock := s.clock + dt }) ∧
    (x.level = false → x.reference = none → exec (.platenIndexEdge dt p) s = .next (seen.acceptEdge p)) ∧
    (x.level = false → ∀ reference, x.reference = some reference →
      let period : Word32 := BitVec.ofNat 32 (s.clock + dt) - reference
      (x.stall = false → period.toNat < 100000 → exec (.platenIndexEdge dt p) s = .next seen) ∧
      (x.stall = false → 6000000 < period.toNat →
        exec (.platenIndexEdge dt p) s = .next ((wrote period false).acceptEdge p)) ∧
      (x.stall = false → 100000 ≤ period.toNat → period.toNat ≤ 6000000 →
        (¬∃ i r h st, s.pass i = some r ∧ (r.state = .polishing ∨ r.state = .held) ∧ r.head = some h ∧ r.step = some st ∧
          st.platen = p ∧ platenUnder s.carousel.k h = some p) →
        exec (.platenIndexEdge dt p) s = .next ((wrote period false).acceptEdge p)) ∧
      (x.stall = true →
        let tried := ((wrote (if period.toNat < 8000000 then 8000000#32 else period) false).acceptEdge p).attemptOver p
        let a := tried.arms.get p
        ((∃ q, a.service = .exSitu q ∧ a.sweeping = false) →
          exec (.platenIndexEdge dt p) s = .next
            { tried with arms := tried.arms.set p (a.swept tried.clock (tried.armProfile p)) }) ∧
        ((¬∃ q, a.service = .exSitu q ∧ a.sweeping = false) → exec (.platenIndexEdge dt p) s = .next tried)))

/-- R38 to R40, R58 to R67: reported removal is the accumulator over 65,536 rounded to nearest with ties up, at most 16,777,215.
A normal edge of a platen with a pass running on it. With the first-revolution flag set it clears
the flag and credits nothing. Otherwise every zone's accumulator gains its increment, (base x F + 2048) / 4096 with base =
P x L x K / 65,536 and F the limited product of the pad, lot, supply and glaze factors, and the revolution counts. For a HELD
pass that is all. For a POLISHING one the settle revolutions fall, the pad's usage rises, targeted zones at their target
complete, and the step ends COMPLETE when it is in REMOVAL mode with every targeted zone complete; otherwise the head is
steered (SteeredSetpoints). -/
def Obligations.CreditedRevolution : Prop :=
  (∀ a : Nat, reported a = min 16777215 ((a + 32768) / 65536)) ∧
  ∀ (s : State) (dt : Nat) (p : Platen) (reference : Word32) (i : PassSlot) (r : Pass) (l : LiveProgress) (st : StepProgram)
    (h : Head) (j : ItemSlot) (pad : Item),
    let x := s.rotation.get p
    let period : Word32 := BitVec.ofNat 32 (s.clock + dt) - reference
    let accepted : State :=
      { s with
        clock := s.clock + dt
        rotation := s.rotation.set p { x with level := true, lastPeriod := some period } }.acceptEdge p
    x.level = false → x.stall = false → x.reference = some reference → 100000 ≤ period.toNat → period.toNat ≤ 6000000 →
    s.passesApart → s.itemsWf → accepted.pass i = some r → r.state = .polishing ∨ r.state = .held → r.live = some l →
    r.step = some st →
    r.head = some h → st.platen = p → platenUnder s.carousel.k h = some p → s.item j = some pad → pad.id = l.pad →
    pad.kind = .pad →
    let pressure : Zone → Nat := fun z =>
      let w := (s.windows.get h).get z
      if 0 < w.count then w.sum / w.count else w.lastAverage.getD 0
    let fpad := min 8191 (pad.f0 - pad.slope * pad.usage / 65536)
    let fsup := (accepted.supply.get p).lastRatio
    let fgl := max (s.glazeSettings.get p).floor (4096 - (s.glazeSettings.get p).rate * (s.arms.get p).glaze)
    ∀ flot,
      (l.lotA = none → flot = 4096) →
      (∀ id, l.lotA = some id → (∀ k y, s.item k = some y → y.id = id → y.kind ≠ .lot) → flot = 4096) →
      (∀ id k lot, l.lotA = some id → s.item k = some lot → lot.id = id → lot.kind = .lot →
        flot = min 8191 (lot.f0 - lot.slope * lot.age / 256)) →
      let factor := min 8191 (min 8191 (min 8191 (fpad * flot / 4096) * fsup / 4096) * fgl / 4096)
      let acc : Zone → Nat := fun z =>
        min (2 ^ 40 - 1)
          (l.acc.get z + (pressure z * (st.zones.get z).path * st.preston / 65536 * factor + 2048) / 4096)
      let credited : LiveProgress :=
        { l with acc := ⟨acc .z0, acc .z1, acc .z2, acc .z3⟩, revolutions := min 65535 (l.revolutions + 1) }
      let done : Zone → Bool := fun z =>
        l.complete.get z || decide (0 < (st.zones.get z).target ∧ (st.zones.get z).target ≤ reported (acc z))
      let tested : LiveProgress :=
        { credited with settleLeft := l.settleLeft - 1, complete := ⟨done .z0, done .z1, done .z2, done .z3⟩ }
      let used : Item := { pad with usage := min 4294967295 (pad.usage + 1) }
      let wears : Bool := decide (0 < pad.limit ∧ pad.limit ≤ used.usage)
      let written : State :=
        { accepted with
          items := putAt s.items j (some { used with flags := { pad.flags with worn := pad.flags.worn || wears } })
          attnPending :=
            if wears = true ∧ pad.flags.worn = false then accepted.attnPending ||| 16#9 else accepted.attnPending
          passes := putAt accepted.passes i (some { r with live := some tested }) }
      (l.firstRevolution = true → exec (.platenIndexEdge dt p) s = .next
        (accepted.setPass i (some { r with live := some { l with firstRevolution := false } }))) ∧
      (l.firstRevolution = false → r.state = .held → exec (.platenIndexEdge dt p) s = .next
        (accepted.setPass i (some { r with live := some credited }))) ∧
      (l.firstRevolution = false → r.state = .polishing →
        (st.mode = .removal → (∀ z, (st.zones.get z).target = 0 ∨ done z = true) →
          exec (.platenIndexEdge dt p) s = .next (written.endStep i .complete)) ∧
        (¬(st.mode = .removal ∧ ∀ z, (st.zones.get z).target = 0 ∨ done z = true) →
          exec (.platenIndexEdge dt p) s = .next (written.steerHead h st tested)))

/-- R80, R81: the setpoints of a head after a credited revolution. A complete zone takes Wmin, an untargeted one its base
pressure limited to the window. An active one takes base plus steering term, limited to the slew about its previous setpoint,
then to the window; the steering term is B x (m - f) x G / 65,536 truncated toward zero when the gain is above 0, no settle
revolutions remain and at least two zones are active, and 0 otherwise. RR, and a channel without a setpoint, stay as they
are. -/
def Obligations.SteeredSetpoints : Prop :=
  ∀ (s : State) (h : Head) (st : StepProgram) (l : LiveProgress),
    let t := s.steerHead h st l
    let target : Zone → Nat := fun z => (st.zones.get z).target
    let base : Zone → Nat := fun z => (st.zones.get z).base
    let active := [Zone.z0, .z1, .z2, .z3].filter fun z => decide (0 < target z) && !l.complete.get z
    let progress : Zone → Nat := fun z => min 8191 (reported (l.acc.get z) * 4096 / target z)
    let mean := (active.map progress).sum / active.length
    let term : Zone → Int := fun z =>
      if 0 < st.gain ∧ l.settleLeft = 0 ∧ 2 ≤ active.length then
        Int.tdiv ((base z : Int) * ((mean : Int) - (progress z : Int)) * (st.gain : Int)) 65536
      else 0
    t = { s with channels := t.channels } ∧ (∀ k c, k ≠ h → t.channel k c = s.channel k c) ∧
    t.channel h .rr = s.channel h .rr ∧
    ∀ z,
      let x := s.channel h (.zone z)
      let cs := (s.headSettings.get h).chans.get (.zone z)
      (x.setpoint = none → t.channel h (.zone z) = x) ∧
      ∀ previous, x.setpoint = some previous →
        (l.complete.get z = true → t.channel h (.zone z) = { x with setpoint := some cs.wmin }) ∧
        (l.complete.get z = false → target z = 0 → t.channel h (.zone z) = { x with setpoint := some (cs.clip (base z)) }) ∧
        (l.complete.get z = false → 0 < target z → cs.wmin ≤ cs.wmax →
          let slewed : Int :=
            max ((previous : Int) - (st.slew : Int)) (min ((previous : Int) + (st.slew : Int)) ((base z : Int) + term z))
          let limited : Int := max (cs.wmin : Int) (min (cs.wmax : Int) slewed)
          t.channel h (.zone z) = { x with setpoint := some limited.toNat })

/-- R53, R136, R158: the expiry of a stall timer sets STALL and stops the timer, adds STALL to the pass running on the platen
(HoldCauseAdded), raises FAULT, and parks an arm sweeping EX_SITU. That the command does nothing at a stopped timer, which cannot
expire, is the model's choice (notes/assumptions/4.md). -/
def Obligations.StallTimerExpires : Prop :=
  ∀ (s : State) (p : Platen),
    ((s.rotation.get p).stallTimer = none → exec (.stallTimerExpiry p) s = .next s) ∧
    ∀ moment, (s.rotation.get p).stallTimer = some moment →
      let set : State :=
        { s with
          clock := max s.clock moment
          rotation := s.rotation.set p { s.rotation.get p with stall := true, stallTimer := none } }
      let report : State → State := fun u =>
        { u with
          attnPending := u.attnPending ||| 8#9
          arms :=
            if (s.arms.get p).service.isExSitu = true ∧ (s.arms.get p).sweeping = true then u.arms.set p (s.arms.get p).parked
            else u.arms }
      ((¬∃ i r h st, s.pass i = some r ∧ (r.state = .polishing ∨ r.state = .held) ∧ r.head = some h ∧ r.step = some st ∧
          st.platen = p ∧ platenUnder s.carousel.k h = some p) → exec (.stallTimerExpiry p) s = .next (report set)) ∧
      (s.passesApart → ∀ i r h st, s.pass i = some r → r.state = .polishing ∨ r.state = .held → r.head = some h →
        r.step = some st → st.platen = p → platenUnder s.carousel.k h = some p →
        exec (.stallTimerExpiry p) s = .next (report (set.addCause i .stall)))

/-! ### Zone pressure control -/

/-- R56, R70 to R73, R159: a sample of a channel. A code of 0 or 4095 is bad; any other gives code x span / 4096 minus zero,
limited to 700, which replaces the latest good pressure and, on a zone channel, joins its window until 65,535 samples. The
eighth sample in a row that disagrees with the sensor fault changes it: newly set, SENSOR is added to the pass running on the
head and FAULT raised; cleared with none of the head's channels left in fault, the pass on the head gets a start attempt. -/
def Obligations.PressureSampleIsTaken : Prop :=
  ∀ (s : State) (h : Head) (c : Chan) (code : BitVec 12),
    let x := s.channel h c
    let cs := (s.headSettings.get h).chans.get c
    let pressure : Option Nat :=
      if code.toNat = 0 ∨ code.toNat = 4095 then none else some (min 700 (code.toNat * cs.span / 4096 - cs.zero))
    let disagrees : Prop := (pressure = none ∧ x.fault = false) ∨ (pressure ≠ none ∧ x.fault = true)
    let kept : Channel :=
      { x with latest := (match pressure with | some q => some q | none => x.latest), nextSample := x.nextSample + 2000 }
    let windows := match c, pressure with
      | .zone z, some q =>
        let w := (s.windows.get h).get z
        if w.count < 65535 then
          s.windows.set h ((s.windows.get h).set z { w with sum := w.sum + q, count := w.count + 1 })
        else s.windows
      | _, _ => s.windows
    let taken : Channel → State := fun y =>
      { s with
        clock := max s.clock x.nextSample, windows
        channels := s.channels.set h ((s.channels.get h).set c y) }
    (¬disagrees → exec (.pressureSample h c code) s = .next (taken { kept with runCount := 0 })) ∧
    (disagrees → x.runCount ≠ 7 →
      exec (.pressureSample h c code) s = .next (taken { kept with runCount := x.runCount + 1 })) ∧
    (disagrees → x.runCount = 7 →
      let after := taken { kept with runCount := 0, fault := !x.fault }
      (x.fault = false →
        ((∀ i r, s.pass i = some r → r.state = .polishing ∨ r.state = .held → r.head ≠ some h) →
          exec (.pressureSample h c code) s = .next { after with attnPending := s.attnPending ||| 8#9 }) ∧
        (s.passesApart → ∀ i r, s.pass i = some r → r.state = .polishing ∨ r.state = .held → r.head = some h →
          exec (.pressureSample h c code) s = .next
            { after.addCause i .sensor with attnPending := s.attnPending ||| 8#9 })) ∧
      (x.fault = true →
        ((∀ d, d ≠ c → (s.channel h d).fault = false) →
          exec (.pressureSample h c code) s = .next (after.attemptOn h)) ∧
        ((∃ d, d ≠ c ∧ (s.channel h d).fault = true) → exec (.pressureSample h c code) s = .next after)))

/-- R77, R78: a valve period start. A VENT channel gets none but its next period. A DRIVE channel decides one pulse: none while
in sensor fault, without a latest good pressure, within the deadband or with width 0; else |E| x kp limited to the pulse
maximum, on fill for a positive error and vent for a negative one. It begins at once, or when the dead time has passed since
the opposite valve closed, and ends by the period end; without time before the period end it is dropped. It speaks of a channel
with both valves closed and no pulse, as R78 gives for a period start. -/
def Obligations.ValvePeriodStarts : Prop :=
  ∀ (s : State) (h : Head) (c : Chan),
    let x := s.channel h c
    let d := (s.headSettings.get h).drive
    let now := max s.clock x.nextPeriod
    let next : Channel := { x with nextPeriod := x.nextPeriod + 20000 }
    let at' : Channel → State := fun y =>
      { s with clock := now, channels := s.channels.set h ((s.channels.get h).set c y) }
    (x.mode = .vent → exec (.valvePeriodStart h c) s = .next (at' next)) ∧
    (x.mode = .drive → x.pulse = none → x.fill.isOpen = false → x.vent.isOpen = false →
      (x.fault = true ∨ x.latest = none ∨ x.setpoint = none → exec (.valvePeriodStart h c) s = .next (at' next)) ∧
      (x.fault = false → ∀ pressure setpoint, x.latest = some pressure → x.setpoint = some setpoint →
        let error : Int := (setpoint : Int) - (pressure : Int)
        let width := min (error.natAbs * d.kp) d.pulseMax
        (error.natAbs ≤ d.deadband ∨ width = 0 → exec (.valvePeriodStart h c) s = .next (at' next)) ∧
        (d.deadband < error.natAbs → 0 < width →
          let opposite : Valve := if 0 < error then x.vent else x.fill
          let kind : ValveKind := if 0 < error then .fill else .vent
          let start := match opposite.lastClosed with | some m => max now (m + d.deadTime) | none => now
          (x.nextPeriod + 20000 ≤ start → exec (.valvePeriodStart h c) s = .next (at' next)) ∧
          (start < x.nextPeriod + 20000 →
            let placed : Channel :=
              { next with pulse := some ⟨kind, width, start, min (start + width) (x.nextPeriod + 20000)⟩ }
            (now < start → exec (.valvePeriodStart h c) s = .next (at' placed)) ∧
            (start = now → 0 < error →
              exec (.valvePeriodStart h c) s = .next (at' { placed with fill := { x.fill with isOpen := true } })) ∧
            (start = now → error < 0 →
              exec (.valvePeriodStart h c) s = .next (at' { placed with vent := { x.vent with isOpen := true } }))))))

/-- R75, R78, R79: a delayed pulse begins at its start moment by opening its valve; a pulse under way ends at its end moment by
closing its valve and recording the moment; the vent valve of a VENT channel opens once the dead time has passed since the fill
valve closed. That the three commands do nothing without such a pulse, or with the vent valve open or the channel in DRIVE,
where their events cannot come, is the model's choice (notes/assumptions/4.md). -/
def Obligations.PulsesAndVentOpen : Prop :=
  ∀ (s : State) (h : Head) (c : Chan),
    let x := s.channel h c
    let at' : Nat → Channel → State := fun moment y =>
      { s with clock := max s.clock moment, channels := s.channels.set h ((s.channels.get h).set c y) }
    (x.pulse = none → exec (.delayedPulseStart h c) s = .next s ∧ exec (.pulseEnd h c) s = .next s) ∧
    (∀ q, x.pulse = some q →
      (q.valve = .fill →
        (x.fill.isOpen = false →
          exec (.delayedPulseStart h c) s = .next (at' q.start { x with fill := { x.fill with isOpen := true } }) ∧
          exec (.pulseEnd h c) s = .next s) ∧
        (x.fill.isOpen = true → exec (.delayedPulseStart h c) s = .next s ∧
          exec (.pulseEnd h c) s = .next (at' q.stop { x with pulse := none, fill := ⟨false, some (max s.clock q.stop)⟩ }))) ∧
      (q.valve = .vent →
        (x.vent.isOpen = false →
          exec (.delayedPulseStart h c) s = .next (at' q.start { x with vent := { x.vent with isOpen := true } }) ∧
          exec (.pulseEnd h c) s = .next s) ∧
        (x.vent.isOpen = true → exec (.delayedPulseStart h c) s = .next s ∧
          exec (.pulseEnd h c) s = .next (at' q.stop { x with pulse := none, vent := ⟨false, some (max s.clock q.stop)⟩ })))) ∧
    (x.mode = .vent → x.vent.isOpen = false →
      exec (.ventOpen h c) s = .next
        (at' (match x.fill.lastClosed with | some m => m + (s.headSettings.get h).drive.deadTime | none => 0)
          { x with vent := { x.vent with isOpen := true } })) ∧
    (x.mode = .drive ∨ x.vent.isOpen = true → exec (.ventOpen h c) s = .next s)

/-- R84, R85, R78: HEAD-WRITE's checks, and an accepted write: the head's settings replaced; every setpoint of the head limited
to its new window, a complete zone's at the new Wmin; with a changed dead time a pulse not yet begun and a vent valve waiting to
open move to the moment the new dead time has passed, and a pulse already begun runs on; all else as it was. That a moved pulse
keeps the width it was decided with, and that it begins or the vent valve opens within the write when the moment has come, is
the model's reading (notes/assumptions/13.md). The 42 bytes hold the settings field by field, and their ranges are R69's. -/
def Obligations.HeadWriteActs : Prop :=
  (∀ x : HeadSettings, (x.fits → x.bytes.length = 42 ∧ x.storedAt x.bytes 0) ∧
    (x.inRange = true ↔
      x.drive.deadband ≤ 50 ∧ x.drive.kp ≤ 1000 ∧ 1000 ≤ x.drive.pulseMax ∧ x.drive.pulseMax ≤ 18000 ∧
        500 ≤ x.drive.deadTime ∧ x.drive.deadTime ≤ 5000 ∧
        ∀ c, (x.chans.get c).wmin ≤ (x.chans.get c).wmax ∧ (x.chans.get c).wmax ≤ 700 ∧ (x.chans.get c).span ≤ 2000 ∧
          (x.chans.get c).zero ≤ 200)) ∧
  ∀ (s : State) (dt : Nat) (tag : Byte) (payload : List Byte), Offers s .headWrite tag payload →
    let now := s.elapse dt
    (payload.length ≠ 43 → Answers (.headWrite dt) s now tag .badLength []) ∧
    (∀ hd rest, payload = hd :: rest → rest.length = 42 → 3 < hd.toNat →
      Answers (.headWrite dt) s now tag .badParam []) ∧
    ∀ (h : Head) (x : HeadSettings), payload = byte h.number :: x.bytes → x.fits →
      (x.inRange = false → Answers (.headWrite dt) s now tag .badParam []) ∧
      (x.inRange = true → ∃ t, Answers (.headWrite dt) s t tag .ok [] ∧
        t = { now with headSettings := s.headSettings.set h x, channels := t.channels } ∧
        (∀ k c, k ≠ h → t.channel k c = s.channel k c) ∧
        ∀ c,
          let old := s.channel h c
          let complete : Prop := ∃ z i r l, c = .zone z ∧ s.pass i = some r ∧ (r.state = .polishing ∨ r.state = .held) ∧
            r.head = some h ∧ r.live = some l ∧ l.complete.get z = true
          ((t.channel h c).mode = old.mode ∧ (t.channel h c).latest = old.latest ∧ (t.channel h c).fault = old.fault ∧
            (t.channel h c).runCount = old.runCount ∧ (t.channel h c).nextSample = old.nextSample ∧
            (t.channel h c).nextPeriod = old.nextPeriod) ∧
          (s.passesApart → complete → (t.channel h c).setpoint = old.setpoint.map fun _ => (x.chans.get c).wmin) ∧
          (s.passesApart → ¬complete → (t.channel h c).setpoint = old.setpoint.map (x.chans.get c).clip) ∧
          ((s.headSettings.get h).drive.deadTime = x.drive.deadTime →
            (t.channel h c).pulse = old.pulse ∧ (t.channel h c).fill = old.fill ∧ (t.channel h c).vent = old.vent) ∧
          ((old.mode = .drive ∧ old.pulse = none ∨ old.vent.isOpen = true ∧ old.pulse = none ∨
              old.mode = .drive ∧ old.pulsesOn .fill = true ∧ old.fill.isOpen = true ∨
              old.mode = .drive ∧ old.pulsesOn .vent = true ∧ old.vent.isOpen = true) →
            (t.channel h c).pulse = old.pulse ∧ (t.channel h c).fill = old.fill ∧ (t.channel h c).vent = old.vent) ∧
          ((s.headSettings.get h).drive.deadTime ≠ x.drive.deadTime →
            (old.pulse = none → old.mode = .vent → old.vent.isOpen = false →
              (t.channel h c).pulse = none ∧ (t.channel h c).fill = old.fill ∧
              (t.channel h c).vent.lastClosed = old.vent.lastClosed ∧
              ((t.channel h c).vent.isOpen = true ↔
                old.fill.lastClosed = none ∨ ∃ m, old.fill.lastClosed = some m ∧ m + x.drive.deadTime ≤ now.clock)) ∧
            (∀ q, old.pulse = some q → old.pulsesOn .fill = true → old.fill.isOpen = false →
              let start := match old.vent.lastClosed with | some m => max now.clock (m + x.drive.deadTime) | none => now.clock
              (t.channel h c).vent = old.vent ∧ (t.channel h c).fill.lastClosed = old.fill.lastClosed ∧
              (old.nextPeriod ≤ start → (t.channel h c).pulse = none ∧ (t.channel h c).fill = old.fill) ∧
              (start < old.nextPeriod →
                (t.channel h c).pulse = some ⟨.fill, q.width, start, min (start + q.width) old.nextPeriod⟩ ∧
                ((t.channel h c).fill.isOpen = true ↔ start = now.clock))) ∧
            (∀ q, old.pulse = some q → old.pulsesOn .vent = true → old.vent.isOpen = false →
              let start := match old.fill.lastClosed with | some m => max now.clock (m + x.drive.deadTime) | none => now.clock
              (t.channel h c).fill = old.fill ∧ (t.channel h c).vent.lastClosed = old.vent.lastClosed ∧
              (old.nextPeriod ≤ start → (t.channel h c).pulse = none ∧ (t.channel h c).vent = old.vent) ∧
              (start < old.nextPeriod →
                (t.channel h c).pulse = some ⟨.vent, q.width, start, min (start + q.width) old.nextPeriod⟩ ∧
                ((t.channel h c).vent.isOpen = true ↔ start = now.clock)))))

/-- R86, R125, R141: HEAD-READ, SLURRY-READ and CONDITIONING-READ report their settings and live state in 73, 218 and 200
bytes, field by field, and change nothing. A field shows its value's low bytes, which is the value itself within its range. -/
def Obligations.StationReads : Prop :=
  ∀ (s : State) (dt : Nat) (tag : Byte) (payload : List Byte),
    let now := s.elapse dt
    (Offers s .headRead tag payload →
      (payload.length ≠ 1 → Answers (.headRead dt) s now tag .badLength []) ∧
      (∀ hd, payload = [hd] → 3 < hd.toNat → Answers (.headRead dt) s now tag .badParam []) ∧
      ∀ h : Head, payload = [byte h.number] → ∃ reply, Answers (.headRead dt) s now tag .ok reply ∧ reply.length = 73 ∧
        field reply 0 1 = h.number ∧
        (let d := (s.headSettings.get h).drive
        field reply 1 1 = d.deadband % 256 ∧ field reply 2 2 = d.kp % 65536 ∧ field reply 4 2 = d.pulseMax % 65536 ∧
          field reply 6 2 = d.deadTime % 65536) ∧
        ∀ (i : Nat) (c : Chan), [Chan.zone .z0, .zone .z1, .zone .z2, .zone .z3, .rr][i]? = some c →
          let cs := (s.headSettings.get h).chans.get c
          let x := s.channel h c
          field reply (8 + 7 * i) 2 = cs.wmin % 65536 ∧ field reply (10 + 7 * i) 2 = cs.wmax % 65536 ∧
            field reply (12 + 7 * i) 2 = cs.span % 65536 ∧ field reply (14 + 7 * i) 1 = cs.zero % 256 ∧
            field reply (43 + 6 * i) 1 = (match x.mode with | .vent => 0 | .drive => 1) ∧
            field reply (44 + 6 * i) 2 = (match x.setpoint with | some v => v % 65536 | none => 65535) ∧
            field reply (46 + 6 * i) 2 = (match x.latest with | some v => v % 65536 | none => 65535) ∧
            field reply (48 + 6 * i) 1 = flagBit x.fault 0 + flagBit x.fill.isOpen 1 + flagBit x.vent.isOpen 2) ∧
    (Offers s .slurryRead tag payload →
      (payload ≠ [] → Answers (.slurryRead dt) s now tag .badLength []) ∧
      (payload = [] → ∃ reply, Answers (.slurryRead dt) s now tag .ok reply ∧ reply.length = 218 ∧
        (∀ r : Fin 8, field reply (5 * r.val) 2 = (s.row r).flow % 65536 ∧
          field reply (5 * r.val + 2) 1 = (s.row r).partA % 256 ∧ field reply (5 * r.val + 3) 1 = (s.row r).partB % 256 ∧
          field reply (5 * r.val + 4) 1 = (s.row r).partC % 256) ∧
        field reply 46 1 = (match s.load with
          | none => 0
          | some taken => 1 + flagBit taken.a 1 + flagBit taken.b 2 + flagBit taken.c 3) ∧
        field reply 47 1 = s.staged.length % 256 ∧
        (∀ n, n < 32 → field reply (48 + n) 1 =
          (match s.staged[n]? with | some (some p) => p.number | some none => 3 | none => 255)) ∧
        (∀ (i : Nat) (f : Feed), [Feed.a, .b, .c][i]? = some f →
          field reply (40 + 2 * i) 2 = (s.feeds.get f).volume % 65536 ∧
          field reply (80 + 34 * i) 1 = (s.feeds.get f).active.length % 256 ∧
          field reply (81 + 34 * i) 1 = (s.feeds.get f).pointer % 256 ∧
          ∀ n, n < 32 → field reply (82 + 34 * i + n) 1 =
            (match (s.feeds.get f).active[n]? with | some (some p) => p.number | some none => 3 | none => 255)) ∧
        ∀ p : Platen,
          let x := s.supply.get p
          let o := 182 + 12 * p.number
          field reply o 1 = (match x.dispensing with | some _ => 1 | none => 0) ∧
            field reply (o + 1) 1 = (match x.dispensing with | some r => r.val | none => 255) ∧
            field reply (o + 2) 1 = x.strokes.a % 256 ∧ field reply (o + 3) 1 = x.strokes.b % 256 ∧
            field reply (o + 4) 1 = x.strokes.c % 256 ∧ field reply (o + 5) 2 = x.demanded % 65536 ∧
            field reply (o + 7) 2 = x.granted % 65536 ∧ field reply (o + 9) 2 = x.lastRatio % 65536 ∧
            field reply (o + 11) 1 = (x.shortRun + flagBit x.short 2) % 256)) ∧
    (Offers s .conditioningRead tag payload →
      (payload ≠ [] → Answers (.conditioningRead dt) s now tag .badLength []) ∧
      (payload = [] → ∃ reply, Answers (.conditioningRead dt) s now tag .ok reply ∧ reply.length = 200 ∧
        (∀ q : Fin 4, field reply (41 * q.val) 1 = (s.profile q).length % 256 ∧
          ∀ n, n < 10 → field reply (41 * q.val + 1 + 4 * n) 2 =
              (match (s.profile q)[n]? with | some g => g.dwell % 65536 | none => 0) ∧
            field reply (41 * q.val + 3 + 4 * n) 2 =
              (match (s.profile q)[n]? with | some g => g.force % 65536 | none => 0)) ∧
        ∀ p : Platen,
          let a := s.arms.get p
          let o := 173 + 9 * p.number
          field reply (164 + 3 * p.number) 1 = (s.glazeSettings.get p).rate % 256 ∧
            field reply (165 + 3 * p.number) 2 = (s.glazeSettings.get p).floor % 65536 ∧
            field reply o 1 = (if a.sweeping then 1 else 0) ∧
            field reply (o + 1) 1 = (match a.service with | .none => 0 | .inSitu _ => 1 | .exSitu _ => 2) ∧
            field reply (o + 2) 1 = (match a.service with | .none => 255 | .inSitu q => q.val | .exSitu q => q.val) ∧
            field reply (o + 3) 1 = a.segment % 256 ∧
            field reply (o + 4) 1 = (match a.direction with | .outward => 0 | .inward => 1) ∧
            field reply (o + 5) 1 = a.exSitu % 256 ∧ field reply (o + 6) 2 = a.glaze % 65536 ∧
            field reply (o + 8) 1 = (if 0 < a.exSitu then 1 else 0)))

/-! ### The Item Table -/

/-- R98, R99: ITEM-REGISTER's checks in their order, and an accepted register: a record with the given values, no position and
the flags they give it in the lowest free slot, ITEM raised when it has a flag, and the slot answered. -/
def Obligations.ItemRegisterPlacesARecord : Prop :=
  ∀ (s : State) (dt : Nat) (tag : Byte) (payload : List Byte), Offers s .itemRegister tag payload →
    let now := s.elapse dt
    let id : Word32 := BitVec.ofNat 32 (field payload 0 4)
    let kind := field payload 4 1
    let usage := field payload 5 4
    let limit := field payload 9 4
    let f0 := field payload 13 2
    let slope := field payload 15 2
    let volume := field payload 17 4
    let age := field payload 21 2
    let potLife := field payload 23 2
    let bad : Prop := id = 0 ∨ 3 < kind ∨ 8191 < f0 ∨ (kind = 2 ∧ limit ≠ 0) ∨
      ((kind = 1 ∨ kind = 3) ∧ (f0 ≠ 0 ∨ slope ≠ 0)) ∨ (kind ≠ 2 ∧ (volume ≠ 0 ∨ age ≠ 0 ∨ potLife ≠ 0))
    let known : Prop := ∃ j x, s.item j = some x ∧ x.id = id
    (payload.length ≠ 25 → Answers (.itemRegister dt) s now tag .badLength []) ∧
    (payload.length = 25 → bad → Answers (.itemRegister dt) s now tag .badParam []) ∧
    (payload.length = 25 → ¬bad →
      (known → Answers (.itemRegister dt) s now tag .duplicate []) ∧
      (¬known →
        ((∀ j, s.item j ≠ none) → Answers (.itemRegister dt) s now tag .tableFull []) ∧
        ∀ (j : ItemSlot) (k : ItemKind), s.item j = none → (∀ i, i < j → s.item i ≠ none) →
          kind = (match k with | .pad => 0 | .disk => 1 | .lot => 2 | .ring => 3) →
          let worn := decide (k ≠ .lot ∧ 0 < limit ∧ limit ≤ usage)
          let expired := decide (k = .lot ∧ 0 < potLife ∧ potLife ≤ age)
          let empty := decide (k = .lot ∧ volume = 0)
          Answers (.itemRegister dt) s
            { now with
              items := putAt s.items j (some
                { id, kind := k, position := none, usage, limit, flags := ⟨worn, expired, empty⟩, f0, slope, volume, age,
                  potLife })
              attnPending := if worn || expired || empty then s.attnPending ||| 16#9 else s.attnPending }
            tag .ok [byte j.val]))

/-- R100, R106: ITEM-LOOKUP's checks in their order, and a found record answered in its 28-byte layout; ITEM-LIST's checks, and
the listed records, in ascending slot order, counted and answered in 8-byte entries. Neither changes anything. -/
def Obligations.ItemReads : Prop :=
  ∀ (s : State) (dt : Nat) (tag : Byte) (payload : List Byte),
    let now := s.elapse dt
    (Offers s .itemLookup tag payload →
      (payload = [] → Answers (.itemLookup dt) s now tag .badLength []) ∧
      ∀ (key : Byte) (rest : List Byte), payload = key :: rest →
        (1 < key.toNat → Answers (.itemLookup dt) s now tag .badParam []) ∧
        (key = 0 →
          (rest.length ≠ 1 → Answers (.itemLookup dt) s now tag .badLength []) ∧
          ∀ slot, rest = [slot] →
            (15 < slot.toNat → Answers (.itemLookup dt) s now tag .badParam []) ∧
            ∀ j : ItemSlot, slot = byte j.val →
              (s.item j = none → Answers (.itemLookup dt) s now tag .notFound []) ∧
              ∀ x, s.item j = some x → Answers (.itemLookup dt) s now tag .ok (x.layout j.val)) ∧
        (key = 1 →
          (rest.length ≠ 4 → Answers (.itemLookup dt) s now tag .badLength []) ∧
          ∀ id : Word32, rest = leBytes 4 id.toNat →
            (id = 0 → Answers (.itemLookup dt) s now tag .badParam []) ∧
            (id ≠ 0 → (∀ j x, s.item j = some x → x.id ≠ id) → Answers (.itemLookup dt) s now tag .notFound []) ∧
            (s.itemsWf → ∀ j x, s.item j = some x → x.id = id →
              Answers (.itemLookup dt) s now tag .ok (x.layout j.val)))) ∧
    (Offers s .itemList tag payload →
      (1 < payload.length → Answers (.itemList dt) s now tag .badLength []) ∧
      (∀ k, payload = [k] → 3 < k.toNat → Answers (.itemList dt) s now tag .badParam []) ∧
      ∀ wanted : Option ItemKind,
        payload = (match wanted with
          | none => [] | some .pad => [0#8] | some .disk => [1#8] | some .lot => [2#8] | some .ring => [3#8]) →
        ∃ listed : List (ItemSlot × Item),
          listed.Pairwise (fun a b => a.1 < b.1) ∧
          (∀ j x, (j, x) ∈ listed ↔ s.item j = some x ∧ ∀ k, wanted = some k → x.kind = k) ∧
          Answers (.itemList dt) s now tag .ok
            (byte listed.length :: (listed.map fun a => (a.2.layout a.1.val).take 8).flatten))

/-- R98, R101, R102: ITEM-MOUNT's checks in their order, and an accepted mount: another item of the kind at the position loses
it and its id is answered (0 when there is none), the mounted item's position is set, and every eligible pass gets a start
attempt. -/
def Obligations.ItemMountTakesThePosition : Prop :=
  ∀ (s : State) (dt : Nat) (tag : Byte) (payload : List Byte), Offers s .itemMount tag payload → s.itemsWf →
    let now := s.elapse dt
    (payload.length ≠ 5 → Answers (.itemMount dt) s now tag .badLength []) ∧
    ∀ (id : Word32) (code : Byte), payload = leBytes 4 id.toNat ++ [code] →
      (id = 0 ∨ 8 < code.toNat → Answers (.itemMount dt) s now tag .badParam []) ∧
      (id ≠ 0 → code.toNat ≤ 8 → (∀ j x, s.item j = some x → x.id ≠ id) →
        Answers (.itemMount dt) s now tag .notFound []) ∧
      ∀ (j : ItemSlot) (x : Item) (pos : Position), s.item j = some x → x.id = id →
        code.toNat = (match pos with | .platen p => p.number | .feedA => 3 | .feedB => 4 | .head h => 5 + h.number) →
        let takes : Prop := match pos with
          | .platen _ => x.kind = .pad ∨ x.kind = .disk
          | .feedA => x.kind = .lot
          | .feedB => x.kind = .lot
          | .head _ => x.kind = .ring
        let flagged : Prop := x.flags.worn = true ∨ x.flags.expired = true ∨ x.flags.empty = true
        (¬takes → Answers (.itemMount dt) s now tag .badParam []) ∧
        (takes → x.position ≠ none ∨ flagged → Answers (.itemMount dt) s now tag .wrongState []) ∧
        (takes → x.position = none → ¬flagged →
          (s.locked pos → Answers (.itemMount dt) s now tag .busy []) ∧
          (¬s.locked pos →
            ((∀ k y, s.item k = some y → y.kind = x.kind → y.position ≠ some pos) →
              Answers (.itemMount dt) s
                (State.attemptAll { now with items := putAt s.items j (some { x with position := some pos }) })
                tag .ok (leBytes 4 0)) ∧
            (∀ k y, s.item k = some y → y.kind = x.kind → y.position = some pos →
              Answers (.itemMount dt) s
                (State.attemptAll
                  { now with
                    items := putAt (putAt s.items k (some { y with position := none })) j
                      (some { x with position := some pos }) })
                tag .ok (leBytes 4 y.id.toNat))))

/-- R98, R103, R105: ITEM-DISMOUNT and ITEM-RETIRE. Their checks in their order; an accepted dismount removes the position, and
of a lot it is a supply loss on its feed (SupplyLossHolds); an accepted retire frees the slot. -/
def Obligations.ItemDismountAndRetire : Prop :=
  ∀ (s : State) (dt : Nat) (tag : Byte) (payload : List Byte), s.itemsWf →
    let now := s.elapse dt
    (Offers s .itemDismount tag payload →
      (payload.length ≠ 4 → Answers (.itemDismount dt) s now tag .badLength []) ∧
      ∀ id : Word32, payload = leBytes 4 id.toNat →
        (id = 0 → Answers (.itemDismount dt) s now tag .badParam []) ∧
        (id ≠ 0 → (∀ j x, s.item j = some x → x.id ≠ id) → Answers (.itemDismount dt) s now tag .notFound []) ∧
        ∀ j x, s.item j = some x → x.id = id →
          (x.position = none → Answers (.itemDismount dt) s now tag .wrongState []) ∧
          ∀ pos, x.position = some pos →
            let off : State := { now with items := putAt s.items j (some { x with position := none }) }
            (s.locked pos → Answers (.itemDismount dt) s now tag .busy []) ∧
            (¬s.locked pos →
              (x.kind ≠ .lot → Answers (.itemDismount dt) s off tag .ok []) ∧
              (pos = .feedA → Answers (.itemDismount dt) s (off.supplyLoss .a) tag .ok []) ∧
              (pos = .feedB → Answers (.itemDismount dt) s (off.supplyLoss .b) tag .ok []))) ∧
    (Offers s .itemRetire tag payload →
      (payload.length ≠ 4 → Answers (.itemRetire dt) s now tag .badLength []) ∧
      ∀ id : Word32, payload = leBytes 4 id.toNat →
        (id = 0 → Answers (.itemRetire dt) s now tag .badParam []) ∧
        (id ≠ 0 → (∀ j x, s.item j = some x → x.id ≠ id) → Answers (.itemRetire dt) s now tag .notFound []) ∧
        ∀ j x, s.item j = some x → x.id = id →
          (x.position ≠ none → Answers (.itemRetire dt) s now tag .wrongState []) ∧
          (x.position = none → Answers (.itemRetire dt) s { now with items := putAt s.items j none } tag .ok []))

/-- R98, R104: ITEM-ADJUST's checks in their order, and an accepted adjust: the named fields written, the flags worked out again
and answered, ITEM raised for a flag newly set; EMPTY newly set on a lot on a feed is a supply loss there, WORN newly set on the
disk of a parked arm a wear stop (WearStopAndDwell); a flag removed gives every eligible pass a start attempt. An adjust a
stands on the wire as its mask and the bytes of its fields. That the flags answered are those from before the attempts is the
model's choice (notes/assumptions/29.md): it shows only where a step started by an attempt sets WORN again on the item. -/
def Obligations.ItemAdjustRewrites : Prop :=
  ∀ (s : State) (dt : Nat) (tag : Byte) (payload : List Byte), Offers s .itemAdjust tag payload → s.itemsWf →
    let now := s.elapse dt
    (payload.length < 5 → Answers (.itemAdjust dt) s now tag .badLength []) ∧
    (∀ (id : Word32) (mask : Byte) (rest : List Byte), payload = leBytes 4 id.toNat ++ mask :: rest →
      let bytes := (if mask.getLsbD 0 then 4 else 0) + (if mask.getLsbD 1 then 2 else 0) +
        (if mask.getLsbD 2 then 2 else 0) + (if mask.getLsbD 3 then 2 else 0) + (if mask.getLsbD 4 then 4 else 0) +
        (if mask.getLsbD 5 then 2 else 0)
      (rest.length ≠ bytes → Answers (.itemAdjust dt) s now tag .badLength []) ∧
      (rest.length = bytes → id = 0 ∨ 64 ≤ mask.toNat → Answers (.itemAdjust dt) s now tag .badParam [])) ∧
    ∀ (id : Word32) (a : Adjust), a.fitsWire → payload = leBytes 4 id.toNat ++ a.wire → id ≠ 0 →
      ((∃ v, a.f0 = some v ∧ 8191 < v) → Answers (.itemAdjust dt) s now tag .badParam []) ∧
      ((∀ v, a.f0 = some v → v ≤ 8191) →
        ((∀ j x, s.item j = some x → x.id ≠ id) → Answers (.itemAdjust dt) s now tag .notFound []) ∧
        ∀ j x, s.item j = some x → x.id = id →
          let foreign : Prop := (x.kind = .lot ∧ a.limit ≠ none) ∨
            ((x.kind = .disk ∨ x.kind = .ring) ∧ (a.f0 ≠ none ∨ a.slope ≠ none)) ∨
            (x.kind ≠ .lot ∧ (a.potLife ≠ none ∨ a.volume ≠ none ∨ a.age ≠ none))
          let y : Item :=
            Item.reflagged
              { x with
                limit := a.limit.getD x.limit, f0 := a.f0.getD x.f0, slope := a.slope.getD x.slope
                potLife := a.potLife.getD x.potLife, volume := a.volume.getD x.volume, age := a.age.getD x.age }
          let written : State :=
            { now with
              items := putAt s.items j (some y)
              attnPending := if x.flagsGained y then s.attnPending ||| 16#9 else s.attnPending }
          let reported := match x.kind, x.position with
            | .lot, some .feedA => if y.flags.empty && !x.flags.empty then written.supplyLoss .a else written
            | .lot, some .feedB => if y.flags.empty && !x.flags.empty then written.supplyLoss .b else written
            | .disk, some (.platen p) =>
              if y.flags.worn && !x.flags.worn && !(s.arms.get p).sweeping then written.wearStop p else written
            | _, _ => written
          (foreign → Answers (.itemAdjust dt) s now tag .badParam []) ∧
          (¬foreign →
            let reply := [byte (flagBit y.flags.worn 0 + flagBit y.flags.expired 1 + flagBit y.flags.empty 2)]
            (y.flagsGained x = true → Answers (.itemAdjust dt) s reported.attemptAll tag .ok reply) ∧
            (y.flagsGained x = false → Answers (.itemAdjust dt) s reported tag .ok reply)))

/-- R91, R93: a minute tick raises the age of every live lot by 1, up to 65,535, sets EXPIRED on a lot whose pot life above 0
is at or below its age, raises ITEM exactly when a lot newly expires, and changes nothing else. -/
def Obligations.MinuteTickAges : Prop :=
  ∀ s : State,
    let older : Item → Nat := fun x => min 65535 (x.age + 1)
    let due : Item → Bool := fun x => decide (0 < x.potLife ∧ x.potLife ≤ older x)
    let expires : Prop := ∃ j x, s.item j = some x ∧ x.kind = .lot ∧ x.flags.expired = false ∧ due x = true
    ∃ t, exec .minuteTick s = .next t ∧
      (∀ j, s.item j = none → t.item j = none) ∧
      (∀ j x, s.item j = some x →
        (x.kind ≠ .lot → t.item j = some x) ∧
        (x.kind = .lot → t.item j =
          some { x with age := older x, flags := { x.flags with expired := x.flags.expired || due x } })) ∧
      (expires → t.attnPending = s.attnPending ||| 16#9) ∧ (¬expires → t.attnPending = s.attnPending) ∧
      t = { s with
        clock := max s.clock s.nextMinute, nextMinute := s.nextMinute + 60000000, items := t.items
        attnPending := t.attnPending }

/-! ### Slurry delivery -/

/-- R113, R117: the demand a slot adds on its feed, platen by platen, and the advance of the phase pointer. Q x parts joins the
accumulator of a dispensing platen whose row has both above 0; whole thresholds above the pending count are newly demanded, at
most four stay pending and those beyond are lost. The pointer goes on by 1, to 0 at the cycle length, where a feed that has not
taken an armed table takes it and the third taking disarms the load. -/
def Obligations.SlotDemandAndPointer : Prop :=
  ∀ (s : State) (f : Feed),
    let t := s.slotDemand f
    let u := s.advancePointer f
    (t = { s with supply := t.supply } ∧
      ∀ p,
        let x := s.supply.get p
        (x.dispensing = none → t.supply.get p = x) ∧
        ∀ row, x.dispensing = some row →
          let parts := match f with | .a => (s.row row).partA | .b => (s.row row).partB | .c => (s.row row).partC
          let h := (s.feeds.get f).volume * ((s.row row).partA + (s.row row).partB + (s.row row).partC) * 12
          let d := x.demand.get f + (s.row row).flow * parts
          ((s.row row).flow = 0 ∨ parts = 0 → t.supply.get p = x) ∧
          (0 < (s.row row).flow → 0 < parts → t.supply.get p =
            { x with
              demand := x.demand.set f (if d / h ≤ 4 then d else d - (d / h - 4) * h)
              strokes := x.strokes.set f (if d / h ≤ 4 then d / h else 4)
              demanded := if f = .a then min 65535 (x.demanded + (d / h - x.strokes.get f)) else x.demanded })) ∧
    let x := s.feeds.get f
    (x.pointer + 1 < x.active.length →
      u = { s with feeds := s.feeds.set f { x with pointer := x.pointer + 1 } }) ∧
    (x.active.length ≤ x.pointer + 1 →
      (s.load = none ∨ (∃ taken, s.load = some taken ∧ taken.get f = true) →
        u = { s with feeds := s.feeds.set f { x with pointer := 0 } }) ∧
      ∀ taken, s.load = some taken → taken.get f = false →
        let switched : State := { s with feeds := s.feeds.set f { x with pointer := 0, active := s.staged } }
        ((∀ g, g = f ∨ taken.get g = true) → u = { switched with load := none }) ∧
        ((∃ g, g ≠ f ∧ taken.get g = false) → u = { switched with load := some (taken.set f true) }))

/-- R112, R114 to R116, R120, R121: a stroke slot. While LOADING it does nothing but pass; while the trip latch is set it only
advances the pointer. Otherwise the demand is added, then the stroke goes to the platen the pointer's entry names when it has one
pending, or to the next in cyclic order that has, and to none when the entry is IDLE or nothing is pending. A granted stroke
leaves the pending count and the accumulator, moves the diverter and pulses the pump. On feed C it is always granted; on A and B
when the mounted lot's volume reaches, which it lowers; a refused debit empties the lot, and it and a missing lot are a supply
loss. The pointer advances last. The model's choices in it: a pulse still on ends at the slot (notes/assumptions/15.md), the
grant of a debit that empties the lot comes before the holds of its report (notes/assumptions/22.md), and a pointer beyond its
table reads IDLE (notes/assumptions/26.md). -/
def Obligations.StrokeSlotGrants : Prop :=
  ∀ (s : State) (f : Feed), s.itemsWf → s.demandWf →
    let x := s.feeds.get f
    let begun : State :=
      { s with clock := max s.clock x.nextSlot, feeds := s.feeds.set f { x with nextSlot := x.nextSlot + 5000, pulse := false } }
    let asked := begun.slotDemand f
    let pends : Platen → Prop := fun p => 0 < (asked.supply.get p).strokes.get f
    let after : Platen → List Platen
      | .p0 => [.p0, .p1, .p2] | .p1 => [.p1, .p2, .p0] | .p2 => [.p2, .p0, .p1]
    (s.startUp = .loading → exec (.strokeSlot f) s = .next begun) ∧
    (s.startUp = .ready → s.tripLatch = true → exec (.strokeSlot f) s = .next (begun.advancePointer f)) ∧
    (s.startUp = .ready → s.tripLatch = false →
      ((∀ p, x.active[x.pointer]? ≠ some (some p)) ∨ (∀ p, ¬pends p) →
        exec (.strokeSlot f) s = .next (asked.advancePointer f)) ∧
      ∀ first c before rest, x.active[x.pointer]? = some (some first) → after first = before ++ c :: rest →
        (∀ p ∈ before, ¬pends p) → pends c →
        let y := asked.supply.get c
        let granted : State → State := fun t =>
          { t with
            supply := t.supply.set c
              { y with
                demand := y.demand.set f (y.demand.get f - (match y.dispensing with
                  | some row => x.volume * ((s.row row).partA + (s.row row).partB + (s.row row).partC) * 12
                  | none => 0))
                strokes := y.strokes.set f (y.strokes.get f - 1)
                granted := if f = .a then min 65535 (y.granted + 1) else y.granted }
            feeds := t.feeds.set f { t.feeds.get f with diverter := c, pulse := true } }
        (f = .c → exec (.strokeSlot f) s = .next ((granted asked).advancePointer f)) ∧
        ∀ pos, (f = .a ∧ pos = Position.feedA) ∨ (f = .b ∧ pos = Position.feedB) →
          ((∀ j lot, s.item j = some lot → lot.position ≠ some pos) →
            exec (.strokeSlot f) s = .next ((asked.supplyLoss f).advancePointer f)) ∧
          ∀ j lot, s.item j = some lot → lot.position = some pos →
            let rewritten : Item → State := fun z =>
              { asked with
                items := putAt s.items j (some z)
                attnPending := if lot.flagsGained z then s.attnPending ||| 16#9 else s.attnPending }
            (x.volume ≤ lot.volume →
              let z : Item :=
                { lot with
                  usage := min 4294967295 (lot.usage + x.volume), volume := lot.volume - x.volume
                  flags := { lot.flags with empty := decide (lot.volume = x.volume) } }
              (lot.flagsGained z = false →
                exec (.strokeSlot f) s = .next ((granted (rewritten z)).advancePointer f)) ∧
              (lot.flagsGained z = true →
                exec (.strokeSlot f) s = .next (((granted (rewritten z)).supplyLoss f).advancePointer f))) ∧
            (lot.volume < x.volume →
              exec (.strokeSlot f) s = .next
                (((rewritten { lot with volume := 0, flags := { lot.flags with empty := true } }).supplyLoss f).advancePointer
                  f)))

/-- R109, R110, R118, R119: the four settings requests of slurry delivery, their checks in their order and what an accepted one
changes. BLEND-WRITE takes the six bytes of its fields (the model's reading, notes/assumptions/17.md). -/
def Obligations.SlurrySettings : Prop :=
  ∀ (s : State) (dt : Nat) (tag : Byte) (payload : List Byte),
    let now := s.elapse dt
    (Offers s .blendWrite tag payload →
      (payload.length ≠ 6 → Answers (.blendWrite dt) s now tag .badLength []) ∧
      ∀ r lo hi a b c, payload = [r, lo, hi, a, b, c] →
        let bad : Prop := 7 < r.toNat ∨ 500 < le2 lo hi ∨ (0 < le2 lo hi ∧ a.toNat + b.toNat + c.toNat = 0)
        (bad → Answers (.blendWrite dt) s now tag .badParam []) ∧
        (¬bad → ∀ i : Fin 8, r = byte i.val →
          let inUse : Prop := ∃ j q st, s.pass j = some q ∧ (q.state = .polishing ∨ q.state = .held) ∧ q.step = some st ∧
            st.blendRow = i
          (inUse → Answers (.blendWrite dt) s now tag .busy []) ∧
          (¬inUse → Answers (.blendWrite dt) s
            { now with rows := putAt s.rows i ⟨le2 lo hi, a.toNat, b.toNat, c.toNat⟩ } tag .ok []))) ∧
    (Offers s .feedWrite tag payload →
      (payload.length ≠ 3 → Answers (.feedWrite dt) s now tag .badLength []) ∧
      ∀ n lo hi, payload = [n, lo, hi] →
        (2 < n.toNat ∨ le2 lo hi < 10 ∨ 2000 < le2 lo hi → Answers (.feedWrite dt) s now tag .badParam []) ∧
        ∀ f : Feed, n.toNat = (match f with | .a => 0 | .b => 1 | .c => 2) → 10 ≤ le2 lo hi → le2 lo hi ≤ 2000 →
          ((s.feeds.get f).volume = le2 lo hi → Answers (.feedWrite dt) s now tag .ok []) ∧
          ((s.feeds.get f).volume ≠ le2 lo hi → ∃ t, Answers (.feedWrite dt) s t tag .ok [] ∧
            t = { now with
              feeds := s.feeds.set f { s.feeds.get f with volume := le2 lo hi }, supply := t.supply } ∧
            ∀ p, t.supply.get p =
              { s.supply.get p with
                demand := (s.supply.get p).demand.set f 0, strokes := (s.supply.get p).strokes.set f 0 })) ∧
    (Offers s .phaseWrite tag payload →
      (payload = [] → Answers (.phaseWrite dt) s now tag .badLength []) ∧
      ∀ n entries, payload = n :: entries →
        (n.toNat < 1 ∨ 32 < n.toNat → Answers (.phaseWrite dt) s now tag .badParam []) ∧
        (1 ≤ n.toNat → n.toNat ≤ 32 →
          (entries.length ≠ n.toNat → Answers (.phaseWrite dt) s now tag .badLength []) ∧
          (entries.length = n.toNat → (∃ e ∈ entries, 3 < e.toNat) → Answers (.phaseWrite dt) s now tag .badParam []) ∧
          ∀ t : PhaseTable, entries.length = n.toNat →
            entries = (t.map fun e => match e with | some p => byte p.number | none => 3#8) →
            (s.load ≠ none → Answers (.phaseWrite dt) s now tag .busy []) ∧
            (s.load = none → Answers (.phaseWrite dt) s { now with staged := t } tag .ok []))) ∧
    (Offers s .phaseLoad tag payload →
      (payload ≠ [] → Answers (.phaseLoad dt) s now tag .badLength []) ∧
      (payload = [] → s.load ≠ none → Answers (.phaseLoad dt) s now tag .busy []) ∧
      (payload = [] → s.load = none →
        Answers (.phaseLoad dt) s { now with load := some ⟨false, false, false⟩ } tag .ok []))

/-! ### Pad conditioning -/

/-- R128, R129, R135, R137: the wear stop parks the arm and ends its service; of an EX_SITU service the count goes to 0 and the
pass over the platen gets a start attempt, of an IN_SITU one the pass running on the platen is marked. At a dwell expiry the arm
goes on to the next segment; at the last one the sweep completes: the disk's usage rises, the glaze count goes to 0, the
direction turns, an EX_SITU count falls, and a worn disk stops the arm, an EX_SITU count of 0 ends the service, or the next
sweep begins. That the command does nothing at a stopped dwell timer, which cannot expire, is the model's choice
(notes/assumptions/4.md). -/
def Obligations.WearStopAndDwell : Prop :=
  ∀ (s : State) (p : Platen),
    let a := s.arms.get p
    let ended : State → State := fun t =>
      State.attemptOver { t with arms := t.arms.set p { (t.arms.get p).parked with service := .none, exSitu := 0 } } p
    s.armProfile p = (match a.service with | .none => [] | .inSitu q => s.profile q | .exSitu q => s.profile q) ∧
    (a.service = .none → s.wearStop p = s) ∧
    ((∃ q, a.service = .exSitu q) → s.wearStop p = ended s) ∧
    ((∃ q, a.service = .inSitu q) →
      let off : State := { s with arms := s.arms.set p { a.parked with service := .none } }
      ((∀ i r, s.pass i = some r → ¬r.onPlaten s.carousel.k p) → s.wearStop p = off) ∧
      (s.passesApart → ∀ i r, s.pass i = some r → r.onPlaten s.carousel.k p →
        s.wearStop p = off.setPass i (some
          { r with live := r.live.map fun l => { l with conditioningIncomplete := true } }))) ∧
    (a.dwell = none → exec (.dwellExpiry p) s = .next s) ∧
    ∀ moment, a.dwell = some moment →
      let now : State := { s with clock := max s.clock moment }
      let profile : Profile := match a.service with | .none => [] | .inSitu q => s.profile q | .exSitu q => s.profile q
      (∀ g, (match a.direction with
          | .outward => profile[a.segment + 1]?
          | .inward => profile.reverse[a.segment + 1]?) = some g →
        exec (.dwellExpiry p) s = .next
          { now with
            arms := s.arms.set p
              { a with
                segment := a.segment + 1, dwell := some (now.clock + g.dwell * 1000), advances := a.advances + 1 } }) ∧
      (profile.length ≤ a.segment + 1 →
        let turned : Arm :=
          { a with
            glaze := 0
            direction := (match a.direction with | .outward => .inward | .inward => .outward)
            exSitu := (match a.service with | .exSitu _ => a.exSitu - 1 | _ => a.exSitu) }
        let last : Prop := (∃ q, a.service = .exSitu q) ∧ a.exSitu ≤ 1
        let goesOn : State → State := fun t => { t with arms := s.arms.set p (turned.swept now.clock profile) }
        let turnedIn : State → State := fun t => { t with arms := s.arms.set p turned }
        ((∀ j x, s.item j = some x → x.kind = .disk → x.position ≠ some (.platen p)) →
          (last → exec (.dwellExpiry p) s = .next (ended (turnedIn now))) ∧
          (¬last → exec (.dwellExpiry p) s = .next (goesOn now))) ∧
        (s.itemsWf → ∀ j x, s.item j = some x → x.kind = .disk → x.position = some (.platen p) →
          let used : Item := { x with usage := min 4294967295 (x.usage + 1) }
          let y : Item :=
            { used with flags := { x.flags with worn := x.flags.worn || decide (0 < x.limit ∧ x.limit ≤ used.usage) } }
          let counted : State :=
            { now with
              items := putAt s.items j (some y)
              attnPending := if x.flagsGained y then s.attnPending ||| 16#9 else s.attnPending }
          (y.flags.worn = true → exec (.dwellExpiry p) s = .next ((turnedIn counted).wearStop p)) ∧
          (y.flags.worn = false → last → exec (.dwellExpiry p) s = .next (ended (turnedIn counted))) ∧
          (y.flags.worn = false → ¬last → exec (.dwellExpiry p) s = .next (goesOn counted))))

/-- R139, R140: PROFILE-WRITE and PLATEN-WRITE, their checks in their order and what an accepted one changes. -/
def Obligations.ConditioningSettings : Prop :=
  ∀ (s : State) (dt : Nat) (tag : Byte) (payload : List Byte),
    let now := s.elapse dt
    (Offers s .profileWrite tag payload →
      (payload.length < 2 → Answers (.profileWrite dt) s now tag .badLength []) ∧
      ∀ q n rest, payload = q :: n :: rest →
        (3 < q.toNat ∨ n.toNat < 1 ∨ 10 < n.toNat → Answers (.profileWrite dt) s now tag .badParam []) ∧
        (q.toNat ≤ 3 → 1 ≤ n.toNat → n.toNat ≤ 10 →
          (rest.length ≠ 4 * n.toNat → Answers (.profileWrite dt) s now tag .badLength []) ∧
          ∀ (i : Fin 4) (profile : Profile), q = byte i.val → profile.length = n.toNat →
            (∀ g ∈ profile, g.dwell < 65536 ∧ g.force < 65536) →
            rest = (profile.map fun (g : Segment) => leBytes 2 g.dwell ++ leBytes 2 g.force).flatten →
            let good : Prop := ∀ g ∈ profile, 10 ≤ g.dwell ∧ g.dwell ≤ 5000 ∧ g.force ≤ 500
            let inUse : Prop := ∃ p, (s.arms.get p).service = .inSitu i ∨ (s.arms.get p).service = .exSitu i
            (¬good → Answers (.profileWrite dt) s now tag .badParam []) ∧
            (good → inUse → Answers (.profileWrite dt) s now tag .busy []) ∧
            (good → ¬inUse →
              Answers (.profileWrite dt) s { now with profiles := putAt s.profiles i profile } tag .ok []))) ∧
    (Offers s .platenWrite tag payload →
      (payload.length ≠ 4 → Answers (.platenWrite dt) s now tag .badLength []) ∧
      ∀ n rate lo hi, payload = [n, rate, lo, hi] →
        (2 < n.toNat ∨ 4096 < le2 lo hi → Answers (.platenWrite dt) s now tag .badParam []) ∧
        ∀ p : Platen, n = byte p.number → le2 lo hi ≤ 4096 →
          Answers (.platenWrite dt) s
            { now with glazeSettings := s.glazeSettings.set p ⟨rate.toNat, le2 lo hi⟩ } tag .ok [])

/-! ### Carousel -/

/-- R144 to R146, R148, R150: CAROUSEL-INDEX's checks in their order and the move it begins; the rising edge of CDONE that
completes it, with CAROUSEL raised for a code that is not one quarter turn on; the expiry that loses the carousel; and
CAROUSEL-SYNC. A completion and a sync give every eligible pass a start attempt. That the completion's command does nothing at
a CDONE already high, and the expiry's nothing at a stopped index timer, where their events cannot come, is the model's choice
(notes/assumptions/4.md). -/
def Obligations.CarouselMoves : Prop :=
  ∀ (s : State) (dt : Nat) (tag : Byte) (payload : List Byte) (code : Fin 4),
    let now := s.elapse dt
    let c := s.carousel
    let runs : Prop := ∃ i r, s.pass i = some r ∧ (r.state = .polishing ∨ r.state = .held)
    let sweeps : Prop := ∃ p, (s.arms.get p).sweeping = true
    (Offers s .carouselIndex tag payload →
      (payload ≠ [] → Answers (.carouselIndex dt) s now tag .badLength []) ∧
      (payload = [] →
        (s.tripLatch = true → Answers (.carouselIndex dt) s now tag .tripped []) ∧
        (s.tripLatch = false →
          (runs ∨ sweeps → Answers (.carouselIndex dt) s now tag .busy []) ∧
          (¬(runs ∨ sweeps) →
            (c.state ≠ .stopped → Answers (.carouselIndex dt) s now tag .wrongState []) ∧
            (c.state = .stopped → Answers (.carouselIndex dt) s
              { now with
                carousel := { c with state := .indexing, drive := true, timer := some (s.clock + dt + 20000000) } }
              tag .ok []))))) ∧
    (c.cdone = true → exec (.carouselIndexCompletion dt code) s = .next now) ∧
    (c.cdone = false → c.state ≠ .indexing →
      exec (.carouselIndexCompletion dt code) s = .next { now with carousel := { c with cdone := true } }) ∧
    (c.cdone = false → c.state = .indexing →
      exec (.carouselIndexCompletion dt code) s = .next
        (State.attemptAll
          { now with
            carousel := ⟨.stopped, code, false, none, true⟩
            attnPending :=
              if code.val = (c.k.val + 1) % 4 then s.attnPending else s.attnPending ||| 64#9 })) ∧
    (c.timer = none → exec .indexTimerExpiry s = .next s) ∧
    (∀ moment, c.timer = some moment → exec .indexTimerExpiry s = .next
      { s with
        clock := max s.clock moment, carousel := { c with state := .lost, drive := false, timer := none }
        attnPending := s.attnPending ||| 64#9 }) ∧
    (Offers s .carouselSync tag payload →
      (payload ≠ [] → Answers (.carouselSync dt code) s now tag .badLength []) ∧
      (payload = [] →
        (s.tripLatch = true → Answers (.carouselSync dt code) s now tag .tripped []) ∧
        (s.tripLatch = false →
          (c.state = .indexing → Answers (.carouselSync dt code) s now tag .wrongState []) ∧
          (c.state ≠ .indexing →
            (runs → Answers (.carouselSync dt code) s now tag .busy []) ∧
            (¬runs → Answers (.carouselSync dt code) s
              (State.attemptAll { now with carousel := ⟨.stopped, code, false, none, c.cdone⟩ })
              tag .ok [byte c.k.val, byte code.val])))))

/-! ### Stored settings -/

/-- R180 to R182: the end of the load. An image whose bytes are all acknowledged, of version 1, length 422, with the right
checksum and every field in its range, is applied whole; any other leaves the defaults applied whole, the defaulted flag set and
SETTINGS raised. Either way the part is READY. That the command does nothing in a part that is READY, which reads nothing, is the
model's choice (notes/assumptions/4.md). -/
def Obligations.SettingsLoadActs : Prop :=
  ∀ (s : State) (dt : Nat) (nack : Option Nat) (bytes : List Byte), bytes.length = 427 →
    (∀ a, a < 427 → bytes[a]? = some (readCell a s.eeprom)) →
    let now := s.elapse dt
    let header : Prop := (∀ n, nack = some n → 427 ≤ n) ∧ field bytes 2 1 = 1 ∧ field bytes 0 2 = 422 ∧
      field bytes 3 2 = ((bytes.drop 5).map BitVec.toNat).sum % 65536
    (s.startUp = .ready → exec (.settingsLoad dt nack) s = .next now) ∧
    (s.startUp = .loading →
      (∀ u : State, header → u.settingsWf → phasesFit u.staged → u.storedIn bytes →
        ∃ t, exec (.settingsLoad dt nack) s = .next t ∧ AppliedSettings now u t ∧ t.attnMask = u.attnMask ∧
          t.defaulted = s.defaulted ∧ t.attnPending = s.attnPending) ∧
      (¬(header ∧ ∃ u : State, u.settingsWf ∧ phasesFit u.staged ∧ u.storedIn bytes) →
        ∃ t, exec (.settingsLoad dt nack) s = .next t ∧ AppliedSettings now State.reset t ∧ t.attnMask = 0x1FF#9 ∧
          t.defaulted = true ∧ t.attnPending = s.attnPending ||| 256#9))

/-- R182, R183: SETTINGS-SAVE composes the image of the settings as they stand, with the bytes beyond a count written as 0xFF
in the phase table and 0 in a profile, and begins to write it, or is BUSY with a save under way. The end of the writing leaves
every byte of the image in the EEPROM, the save DONE and SETTINGS raised; a byte that is not acknowledged leaves those before
it, the save FAILED and SETTINGS raised. That the two ends do nothing with no save under way, where they cannot come, is the
model's choice (notes/assumptions/4.md). -/
def Obligations.SaveLifecycle : Prop :=
  ∀ (s : State) (dt : Nat) (tag : Byte) (payload : List Byte) (written : Nat), s.storeWf →
    let now := s.elapse dt
    let writing : Prop := ∃ image, s.save = .writing image
    (Offers s .settingsSave tag payload →
      (payload ≠ [] → Answers (.settingsSave dt) s now tag .badLength []) ∧
      (payload = [] → writing → Answers (.settingsSave dt) s now tag .busy []) ∧
      (payload = [] → ¬writing → ∃ image, Answers (.settingsSave dt) s { now with save := .writing image } tag .ok [] ∧
        image.length = 427 ∧ field image 0 2 = 422 ∧ field image 2 1 = 1 ∧
        field image 3 2 = ((image.drop 5).map BitVec.toNat).sum % 65536 ∧
        (s.settingsWf → phasesFit s.staged → s.storedIn image ∧ s.paddedIn image))) ∧
    (¬writing → exec (.saveDone dt) s = .next now ∧ exec (.saveFailed dt written) s = .next now) ∧
    ∀ image, s.save = .writing image →
      (∃ t, exec (.saveDone dt) s = .next t ∧
        t = { now with eeprom := t.eeprom, save := .done, attnPending := s.attnPending ||| 256#9 } ∧
        ∀ a, readCell a t.eeprom = (match image[a]? with | some b => b | none => readCell a s.eeprom)) ∧
      (written < image.length → ∃ t, exec (.saveFailed dt written) s = .next t ∧
        t = { now with eeprom := t.eeprom, save := .failed, attnPending := s.attnPending ||| 256#9 } ∧
        ∀ a, readCell a t.eeprom =
          if a < written then (match image[a]? with | some b => b | none => readCell a s.eeprom) else readCell a s.eeprom)

/-! ### Invariants -/

/-- State.reset and the state after any full reset keep every invariant below. -/
def Obligations.InvariantsHoldAtReset : Prop :=
  ∀ (s : State) (pins : PinLevels) (written : Nat), s.storeWf →
    ∀ t, t = State.reset ∨ exec (.powerOnReset pins written) s = .next t ∨ exec (.resetPin pins written) s = .next t →
      t.settingsWf ∧ t.phasesWf ∧ t.storeWf ∧ t.linkWf ∧ t.passesWf ∧ t.passesApart ∧ t.itemsWf ∧ t.driveWf ∧ t.seated ∧
        t.channelsWf ∧ t.dwellsWf ∧ t.sweepsTimed ∧ t.tripStops ∧ t.demandWf

/-- R69, R107, R110, R117, R118, R139, R140, R170, R171, R182, R183: every step keeps every setting in its range, every phase
pointer within its table, the EEPROM's cells canonical with any image under way 427 bytes long, and at most two buffers in use,
at most one SENDING and one TAKEN, and none TAKEN with the transmitter idle. -/
def Obligations.SettingsStoreAndLinkKept : Prop :=
  ∀ s t : State, step s = .next t →
    (s.settingsWf → t.settingsWf) ∧ (s.phasesWf → t.phasesWf) ∧ (s.storeWf → t.storeWf) ∧ (s.linkWf → t.linkWf)

/-- R1 to R9, R87 to R92, R156: every step keeps every pass record and every item record well formed, no two live passes with one
wafer tag or one head, no two live items with one id, and no two of a kind at one position. -/
def Obligations.RecordTablesKept : Prop :=
  ∀ s t : State, step s = .next t →
    (s.passesWf → t.passesWf) ∧ (s.passesWf → s.passesApart → t.passesApart) ∧ (s.itemsWf → t.itemsWf)

/-- R34, R68, R78, R111, R113, R126, R138, R142, R145, R153: every step keeps the drive request and the index timer with INDEXING,
every running pass seated over its platen with the carousel STOPPED, every channel's valves as its mode allows, the dwell
timers running exactly while their arms are SWEEPING, nothing polishing or sweeping while the trip latch is set, and no demand
on a platen that does not dispense. -/
def Obligations.StationKept : Prop :=
  ∀ s t : State, step s = .next t →
    (s.driveWf → t.driveWf) ∧ (s.driveWf → s.seated → t.seated) ∧
      (s.channelsWf → s.dwellsWf → t.channelsWf ∧ t.dwellsWf) ∧
      (s.settingsWf → s.dwellsWf → s.sweepsTimed → t.sweepsTimed) ∧
      (s.dwellsWf → s.tripStops → t.tripStops) ∧ (s.demandWf → t.demandWf)

/-! ### Encodings -/

/-- R167, R168, R170: a break and the bytes of a request's frame, without error and each within the idle limit of 2,000 µs, that
reach a HUNTING receiver leave exactly that request HELD behind those before it, and nothing else changed but the clock. The last
byte comes as BYTE_ARRIVES_RECEIVING like the others, the model's reading of the byte rows (notes/assumptions/6.md). -/
def Obligations.FrameIsHeld : Prop :=
  ∀ (s : State) (dt : Nat) (bits : Nat) (q : Request), q.payload.length ≤ 1020 → 11 ≤ bits → dt ≤ 2000 →
    s.buffers.length < 2 → s.receiver = .hunting →
    runAll (.lineBreak dt bits :: q.frame.map fun b => .byteArrivesReceiving dt (charOf b)) s = .next
      { s with
        clock := s.clock + dt * (q.payload.length + 7), receiver := .hunting, buffers := s.buffers ++ [.held q] }

/-- R25: a valid step program's 39 bytes hold each field at its offset and read back as that program, with every field at every
value it may take; a step result's 35 bytes hold each field at its offset, 0 for an absent lot. So do the 42 bytes of live
progress of R26. A program is valid exactly when its bytes spell one that R6 allows. -/
def Obligations.StepProgramsReadBack : Prop :=
  (∀ b : List Byte, b.length = 39 → (spellsValidStep b ↔ ∃ st, readStep b = some st ∧ st.valid = true)) ∧
  (∀ st : StepProgram, st.valid = true →
    let b := st.bytes
    b.length = 39 ∧ readStep b = some st ∧ field b 0 1 = st.platen.number ∧
      field b 1 1 = (match st.mode with | .removal => 0 | .time => 1 | .external => 2) ∧ field b 2 2 = st.timeLimit ∧
      field b 4 2 = st.preston ∧ field b 6 1 = st.blendRow.val ∧
      (match st.conditioning with
        | .none => field b 7 1 = 0 ∧ field b 8 1 = 0 ∧ field b 9 1 = 0
        | .inSitu q => field b 7 1 = 1 ∧ field b 8 1 = q.val ∧ field b 9 1 = 0
        | .exSitu q n => field b 7 1 = 2 ∧ field b 8 1 = q.val ∧ field b 9 1 = n) ∧
      field b 10 2 = st.ringPressure ∧ field b 12 1 = st.settle ∧ field b 13 1 = st.gain ∧ field b 14 1 = st.slew ∧
      ∀ (i : Nat) (z : Zone), [Zone.z0, .z1, .z2, .z3][i]? = some z →
        field b (15 + 6 * i) 2 = (st.zones.get z).base ∧ field b (17 + 6 * i) 2 = (st.zones.get z).target ∧
          field b (19 + 6 * i) 2 = (st.zones.get z).path) ∧
  (∀ r : StepResult,
    let b := r.bytes
    b.length = 35 ∧ field b 0 1 = r.index % 256 ∧
      field b 1 1 = (match r.cause with | .complete => 0 | .timeout => 1 | .aborted => 2) ∧
      field b 2 2 = r.revolutions % 65536 ∧ field b 4 2 = r.polishTime % 65536 ∧
      (∀ (i : Nat) (z : Zone), [Zone.z0, .z1, .z2, .z3][i]? = some z →
        field b (6 + 3 * i) 3 = r.removal.get z % 16777216) ∧
      field b 18 4 = r.pad.toNat ∧ field b 22 4 = (match r.lotA with | some id => id.toNat | none => 0) ∧
      field b 26 4 = (match r.lotB with | some id => id.toNat | none => 0) ∧ field b 30 4 = r.ring.toNat ∧
      field b 34 1 = flagBit r.supplyShort 0 + flagBit r.conditioningIncomplete 1) ∧
  ∀ l : LiveProgress,
    let b := l.bytes
    b.length = 42 ∧
      (∀ (i : Nat) (z : Zone), [Zone.z0, .z1, .z2, .z3][i]? = some z → field b (5 * i) 5 = l.acc.get z % 2 ^ 40) ∧
      field b 20 1 =
        flagBit l.complete.z0 0 + flagBit l.complete.z1 1 + flagBit l.complete.z2 2 + flagBit l.complete.z3 3 +
          flagBit l.firstRevolution 4 + flagBit l.supplyShort 5 + flagBit l.conditioningIncomplete 6 ∧
      field b 21 2 = l.revolutions % 65536 ∧ field b 23 2 = l.polishTime % 65536 ∧ field b 25 1 = l.settleLeft % 256 ∧
      field b 26 4 = l.pad.toNat ∧ field b 30 4 = (match l.lotA with | some id => id.toNat | none => 0) ∧
      field b 34 4 = (match l.lotB with | some id => id.toNat | none => 0) ∧ field b 38 4 = l.ring.toNat

/-- R181 to R183: settings that are saved come back. After a SETTINGS-SAVE whose writing ends well, a full reset and a load, the
part is READY with the settings as they stood at the save, the staged phase table active on every feed from phase 0, and the
defaulted flag clear. -/
def Obligations.SavedSettingsComeBack : Prop :=
  ∀ (s : State) (dt dt' dt'' : Nat) (tag : Byte) (pins : PinLevels) (c : Instr) (written : Nat),
    Offers s .settingsSave tag [] → (∀ image, s.save ≠ .writing image) → s.settingsWf → phasesFit s.staged → s.storeWf →
    c = .powerOnReset pins written ∨ c = .resetPin pins written →
    ∃ t, runAll [.settingsSave dt, .saveDone dt', c, .settingsLoad dt'' none] s = .next t ∧ t.startUp = .ready ∧
      t.defaulted = false ∧ t.headSettings = s.headSettings ∧ t.rows = s.rows ∧ t.staged = s.staged ∧
      (∀ f, (t.feeds.get f).volume = (s.feeds.get f).volume ∧ (t.feeds.get f).active = s.staged ∧
        (t.feeds.get f).pointer = 0) ∧
      t.profiles = s.profiles ∧ t.glazeSettings = s.glazeSettings ∧ t.attnMask = s.attnMask
end

