-- ==== Sys2Proof/Laws/Banks.lean ====
section
/-! SUPPORT. Reading a table after one entry of it was written. -/

namespace Sys2Proof

theorem PerPlaten.get_set {α : Type} (t : PerPlaten α) (p q : Platen) (x : α) :
    (t.set p x).get q = if q = p then x else t.get q := by
  cases p <;> cases q <;> rfl

theorem PerHead.get_set {α : Type} (t : PerHead α) (p q : Head) (x : α) :
    (t.set p x).get q = if q = p then x else t.get q := by
  cases p <;> cases q <;> rfl

theorem PerFeed.get_set {α : Type} (t : PerFeed α) (p q : Feed) (x : α) :
    (t.set p x).get q = if q = p then x else t.get q := by
  cases p <;> cases q <;> rfl

theorem PerZone.get_set {α : Type} (t : PerZone α) (p q : Zone) (x : α) :
    (t.set p x).get q = if q = p then x else t.get q := by
  cases p <;> cases q <;> rfl

theorem PerChan.get_set {α : Type} (t : PerChan α) (p q : Chan) (x : α) :
    (t.set p x).get q = if q = p then x else t.get q := by
  cases p with
  | zone a => cases q with
    | zone b => cases a <;> cases b <;> rfl
    | rr => rfl
  | rr => cases q <;> rfl

@[simp] theorem PerPlaten.get_set_self {α : Type} (t : PerPlaten α) (p : Platen) (x : α) : (t.set p x).get p = x := by
  cases p <;> rfl

@[simp] theorem PerHead.get_set_self {α : Type} (t : PerHead α) (p : Head) (x : α) : (t.set p x).get p = x := by
  cases p <;> rfl

@[simp] theorem PerFeed.get_set_self {α : Type} (t : PerFeed α) (p : Feed) (x : α) : (t.set p x).get p = x := by
  cases p <;> rfl

@[simp] theorem PerZone.get_set_self {α : Type} (t : PerZone α) (p : Zone) (x : α) : (t.set p x).get p = x := by
  cases p <;> rfl

@[simp] theorem PerChan.get_set_self {α : Type} (t : PerChan α) (p : Chan) (x : α) : (t.set p x).get p = x := by
  rw [PerChan.get_set, if_pos rfl]

@[simp] theorem PerPlaten.set_get_self {α : Type} (t : PerPlaten α) (p : Platen) : t.set p (t.get p) = t := by
  cases p <;> rfl

@[simp] theorem PerHead.set_get_self {α : Type} (t : PerHead α) (p : Head) : t.set p (t.get p) = t := by
  cases p <;> rfl

@[simp] theorem PerFeed.set_get_self {α : Type} (t : PerFeed α) (p : Feed) : t.set p (t.get p) = t := by
  cases p <;> rfl

@[simp] theorem PerZone.get_tabulate {α : Type} (f : Zone → α) (z : Zone) : (PerZone.tabulate f).get z = f z := by
  cases z <;> rfl

@[simp] theorem PerChan.get_tabulate {α : Type} (f : Chan → α) (c : Chan) : (PerChan.tabulate f).get c = f c := by
  cases c with
  | zone z => cases z <;> rfl
  | rr => rfl

@[simp] theorem PerPlaten.get_all {α : Type} (x : α) (p : Platen) : (PerPlaten.all x).get p = x := by cases p <;> rfl

@[simp] theorem PerHead.get_all {α : Type} (x : α) (p : Head) : (PerHead.all x).get p = x := by cases p <;> rfl

@[simp] theorem PerFeed.get_all {α : Type} (x : α) (p : Feed) : (PerFeed.all x).get p = x := by cases p <;> rfl

@[simp] theorem PerZone.get_all {α : Type} (x : α) (p : Zone) : (PerZone.all x).get p = x := by cases p <;> rfl

@[simp] theorem PerChan.get_all {α : Type} (x : α) (p : Chan) : (PerChan.all x).get p = x := by
  cases p with
  | zone z => cases z <;> rfl
  | rr => rfl

@[simp] theorem PerPlaten.get_map {α β : Type} (f : α → β) (t : PerPlaten α) (p : Platen) :
    (t.map f).get p = f (t.get p) := by cases p <;> rfl

theorem slotAt_putAt {α : Type} {n : Nat} (t : Vector α n) (i j : Fin n) (x : α) :
    slotAt (putAt t i x) j = if j = i then x else slotAt t j := by
  unfold slotAt putAt
  by_cases h : j = i
  · subst h
    simp
  · have : i.val ≠ j.val := fun e => h (Fin.ext e.symm)
    rw [if_neg h, Vector.getElem_set_ne _ _ this]

@[simp] theorem slotAt_putAt_self {α : Type} {n : Nat} (t : Vector α n) (i : Fin n) (x : α) :
    slotAt (putAt t i x) i = x := by rw [slotAt_putAt, if_pos rfl]

@[simp] theorem slotAt_replicate {α : Type} {n : Nat} (x : α) (i : Fin n) : slotAt (Vector.replicate n x) i = x := by
  unfold slotAt
  simp

theorem mem_passSlots (i : Machine.PassSlot) : i ∈ passSlots := by
  revert i
  decide

theorem mem_itemSlots (j : Machine.ItemSlot) : j ∈ itemSlots := by
  revert j
  decide

theorem mem_heads (h : Head) : h ∈ heads := by cases h <;> decide

theorem mem_platens (p : Platen) : p ∈ platens := by cases p <;> decide

theorem mem_zones (z : Zone) : z ∈ zones := by cases z <;> decide

namespace Machine

@[simp] theorem pass_setPass_self (s : State) (i : PassSlot) (r : Option Pass) : (s.setPass i r).pass i = r :=
  slotAt_putAt_self _ _ _

theorem pass_setPass (s : State) (i j : PassSlot) (r : Option Pass) :
    (s.setPass i r).pass j = if j = i then r else s.pass j := slotAt_putAt _ _ _ _

@[simp] theorem item_setItem_self (s : State) (i : ItemSlot) (r : Option Item) : (s.setItem i r).item i = r :=
  slotAt_putAt_self _ _ _

theorem item_setItem (s : State) (i j : ItemSlot) (r : Option Item) :
    (s.setItem i r).item j = if j = i then r else s.item j := slotAt_putAt _ _ _ _

theorem channel_setChannel (s : State) (h k : Head) (c d : Chan) (x : Channel) :
    (s.setChannel h c x).channel k d = if k = h ∧ d = c then x else s.channel k d := by
  unfold State.setChannel State.channel
  rw [PerHead.get_set]
  by_cases e : k = h
  · subst e
    simp only [if_true, true_and, PerChan.get_set]
  · simp [e]

theorem channel_updateHead (s : State) (h k : Head) (f : Chan → Channel → Channel) (d : Chan) :
    (s.updateHead h f).channel k d = if k = h then f d (s.channel k d) else s.channel k d := by
  unfold State.updateHead State.channel
  rw [PerHead.get_set]
  by_cases e : k = h
  · subst e
    simp
  · simp [e]

/-- A search over the pass slots finds a live record with the property. -/
theorem findPass_some {s : State} {f : Pass → Bool} {i : PassSlot} (h : s.findPass f = some i) :
    ∃ r, s.pass i = some r ∧ f r = true := by
  have := List.find?_some h
  unfold State.passHas at this
  cases e : s.pass i with
  | none => simp [e] at this
  | some r => exact ⟨r, rfl, by simpa [e] using this⟩

theorem findPass_none {s : State} {f : Pass → Bool} (h : s.findPass f = none) (i : PassSlot) (r : Pass)
    (e : s.pass i = some r) : f r = false := by
  have := List.find?_eq_none.1 h i (mem_passSlots i)
  unfold State.passHas at this
  simpa [e] using this

theorem anyPass_false {s : State} {f : Pass → Bool} (h : s.anyPass f = false) (i : PassSlot) (r : Pass)
    (e : s.pass i = some r) : f r = false := by
  have := List.any_eq_false.1 h i (mem_passSlots i)
  unfold State.passHas at this
  simpa [e] using this

theorem anyPass_eq_false {s : State} {f : Pass → Bool} (h : ∀ i r, s.pass i = some r → f r = false) :
    s.anyPass f = false := by
  refine List.any_eq_false.2 fun i _ => ?_
  unfold State.passHas
  cases e : s.pass i with
  | none => simp
  | some r => simp [h i r e]

/-- A search over the item slots finds a live record with the property. -/
theorem findItem_some {s : State} {f : Item → Bool} {j : ItemSlot} (h : s.findItem f = some j) :
    ∃ r, s.item j = some r ∧ f r = true := by
  have := List.find?_some h
  unfold State.itemHas at this
  cases e : s.item j with
  | none => simp [e] at this
  | some r => exact ⟨r, rfl, by simpa [e] using this⟩

theorem findItem_none {s : State} {f : Item → Bool} (h : s.findItem f = none) (j : ItemSlot) (r : Item)
    (e : s.item j = some r) : f r = false := by
  have := List.find?_eq_none.1 h j (mem_itemSlots j)
  unfold State.itemHas at this
  simpa [e] using this

end Machine

end Sys2Proof
end

