-- ==== Sys2Proof/Laws/Bytes.lean ====
section
/-! SUPPORT. Fields of byte lists: what a number written least significant byte first reads back as (00_scope.md 0.5). -/

namespace Sys2Proof.Machine

@[simp] theorem length_leBytes (n : Nat) : ∀ v, (leBytes n v).length = n := by
  induction n with
  | zero => intro v; rfl
  | succ n ih => intro v; simp [leBytes, ih]

/-- A number written in `n` bytes reads back as its value below 256 ^ n. -/
theorem leValue_leBytes (n : Nat) : ∀ v, leValue (leBytes n v) = v % 256 ^ n := by
  induction n with
  | zero => intro v; simp [leBytes, leValue, Nat.mod_one]
  | succ n ih =>
    intro v
    have := Nat.mod_mul (x := v) (a := 256) (b := 256 ^ n)
    simp only [leBytes, leValue, ih, BitVec.toNat_ofNat]
    rw [show (256 : Nat) ^ (n + 1) = 256 * 256 ^ n from by ring, this]

theorem leValue_lt (bs : List Byte) : leValue bs < 256 ^ bs.length := by
  induction bs with
  | nil => simp [leValue]
  | cons b bs ih =>
    have := b.isLt
    simp only [leValue, List.length_cons, pow_succ]
    omega

theorem field_lt (bs : List Byte) (o n : Nat) : field bs o n < 256 ^ n := by
  unfold field
  refine lt_of_lt_of_le (leValue_lt _) (Nat.pow_le_pow_right (by omega) ?_)
  simp

/-- Bytes read as a number and written again are the same bytes. -/
theorem leBytes_leValue (bs : List Byte) : leBytes bs.length (leValue bs) = bs := by
  induction bs with
  | nil => rfl
  | cons b bs ih =>
    have h := b.isLt
    simp only [List.length_cons, leBytes, leValue]
    refine congrArg₂ _ ?_ ?_
    · apply BitVec.eq_of_toNat_eq
      simpa using h
    · have : (b.toNat + 256 * leValue bs) / 256 = leValue bs := by omega
      rw [this, ih]

/-- The field that stands at the front. -/
theorem field_front (a b : List Byte) (n : Nat) (h : a.length = n) : field (a ++ b) 0 n = leValue a := by
  unfold field
  simp [← h]

/-- A field beyond the front part. -/
theorem field_beyond (a b : List Byte) (o n : Nat) (h : a.length ≤ o) : field (a ++ b) o n = field b (o - a.length) n := by
  unfold field
  rw [List.drop_append, List.drop_eq_nil_of_le h, List.nil_append]

/-- A field within the front part. -/
theorem field_within (a b : List Byte) (o n : Nat) (h : o + n ≤ a.length) : field (a ++ b) o n = field a o n := by
  unfold field
  rw [List.drop_append_of_le_length (by omega), List.take_append_of_le_length (by simp; omega)]

@[simp] theorem field_cons_succ (x : Byte) (b : List Byte) (o n : Nat) : field (x :: b) (o + 1) n = field b o n := by
  unfold field
  simp

@[simp] theorem field_cons_one (x : Byte) (b : List Byte) : field (x :: b) 0 1 = x.toNat := by
  simp [field, leValue]

theorem field_cons_two (x y : Byte) (b : List Byte) : field (x :: y :: b) 0 2 = x.toNat + 256 * y.toNat := by
  simp [field, leValue]

theorem field_leBytes (n v : Nat) (b : List Byte) : field (leBytes n v ++ b) 0 n = v % 256 ^ n := by
  rw [field_front _ _ _ (length_leBytes n v), leValue_leBytes]

theorem field_drop (bs : List Byte) (k o n : Nat) : field (bs.drop k) o n = field bs (k + o) n := by
  unfold field
  rw [List.drop_drop]

theorem field_take (bs : List Byte) (k o n : Nat) (h : o + n ≤ k) : field (bs.take k) o n = field bs o n := by
  unfold field
  rw [List.drop_take, List.take_take, min_eq_left (by omega)]

@[simp] theorem toNat_byte (v : Nat) : (byte v).toNat = v % 256 := by simp [byte]

theorem byte_of_toNat (b : Byte) : byte b.toNat = b := by
  apply BitVec.eq_of_toNat_eq
  simpa using b.isLt

end Sys2Proof.Machine
end

