-- ==== Sys2Proof/Laws/Eeprom.lean ====
section
/-! SUPPORT. The EEPROM's cells: a write keeps the canonical form, and a read gives what was written. -/

namespace Sys2Proof.Machine

theorem cellsFrom_mono {b c : Nat} (h : c ≤ b) {l : List Host.Cell} (w : cellsFrom b l = true) : cellsFrom c l = true := by
  cases l with
  | nil => rfl
  | cons x rest =>
    obtain ⟨a, v⟩ := x
    simp only [cellsFrom, Bool.and_eq_true, decide_eq_true_eq] at w ⊢
    exact ⟨⟨by omega, w.1.2⟩, w.2⟩

theorem cellsFrom_writeCell (addr : Nat) (v : Byte) (l : List Host.Cell) :
    ∀ b, b ≤ addr → cellsFrom b l = true → cellsFrom b (writeCell addr v l) = true := by
  induction l with
  | nil =>
    intro b hb _
    by_cases hv : v = blankByte
    · simp [writeCell, hv, cellsFrom]
    · simp [writeCell, hv, cellsFrom, hb]
  | cons x rest ih =>
    obtain ⟨a, y⟩ := x
    intro b hb w
    simp only [cellsFrom, Bool.and_eq_true, decide_eq_true_eq, bne_iff_ne] at w
    obtain ⟨⟨hab, hy⟩, hr⟩ := w
    unfold writeCell
    by_cases h1 : addr < a
    · by_cases hv : v = blankByte
      · simp [h1, hv, cellsFrom, hab, hy, hr]
      · simp only [h1, if_true, hv, if_false, cellsFrom, Bool.and_eq_true, decide_eq_true_eq, bne_iff_ne]
        exact ⟨⟨hb, hv⟩, ⟨by omega, hy⟩, hr⟩
    · by_cases h2 : addr = a
      · subst h2
        by_cases hv : v = blankByte
        · simp only [Nat.lt_irrefl, if_false, if_true, hv]
          exact cellsFrom_mono (by omega) hr
        · simp only [Nat.lt_irrefl, if_false, if_true, hv, cellsFrom, Bool.and_eq_true, decide_eq_true_eq, bne_iff_ne]
          exact ⟨⟨hb, hv⟩, hr⟩
      · simp only [h1, if_false, h2, cellsFrom, Bool.and_eq_true, decide_eq_true_eq, bne_iff_ne]
        exact ⟨⟨hab, hy⟩, ih (a + 1) (by omega) hr⟩

/-- A write keeps the canonical form. -/
theorem wf_writeCell {l : List Host.Cell} (w : Memory.wf l = true) (addr : Nat) (v : Byte) :
    Memory.wf (writeCell addr v l) = true := cellsFrom_writeCell addr v l 0 (Nat.zero_le _) w

/-- The write of several bytes keeps the canonical form. -/
theorem wf_writeCells (bs : List Byte) : ∀ (addr : Nat) (l : List Host.Cell), Memory.wf l = true →
    Memory.wf (writeCells addr bs l) = true := by
  induction bs with
  | nil => exact fun _ _ w => w
  | cons b bs ih => exact fun addr l w => ih (addr + 1) _ (wf_writeCell w addr b)

theorem readCell_below {l : List Host.Cell} : ∀ {b addr : Nat}, addr < b → cellsFrom b l = true →
    readCell addr l = blankByte := by
  induction l with
  | nil => exact fun _ _ => rfl
  | cons x rest ih =>
    obtain ⟨a, y⟩ := x
    intro b addr h w
    simp only [cellsFrom, Bool.and_eq_true, decide_eq_true_eq] at w
    have hne : a ≠ addr := by omega
    simp only [readCell, hne, if_false]
    exact ih (by omega) w.2

theorem readCell_writeCell_from (addr : Nat) (v : Byte) (l : List Host.Cell) :
    ∀ b, cellsFrom b l = true → ∀ x, readCell x (writeCell addr v l) = if x = addr then v else readCell x l := by
  induction l with
  | nil =>
    intro b _ x
    by_cases hx : x = addr
    · subst hx
      by_cases hv : v = blankByte <;> simp [writeCell, hv, readCell]
    · by_cases hv : v = blankByte
      · simp [writeCell, hv, readCell, hx]
      · simp [writeCell, hv, readCell, hx, Ne.symm hx]
  | cons c rest ih =>
    obtain ⟨a, y⟩ := c
    intro b w x
    simp only [cellsFrom, Bool.and_eq_true, decide_eq_true_eq] at w
    obtain ⟨⟨_, _⟩, hr⟩ := w
    unfold writeCell
    by_cases h1 : addr < a
    · by_cases hx : x = addr
      · subst hx
        by_cases hv : v = blankByte
        · simp only [h1, if_true, hv, readCell]
          rw [if_neg (by omega)]
          exact readCell_below (b := a + 1) (by omega) hr
        · simp [h1, hv, readCell]
      · by_cases hv : v = blankByte
        · simp [h1, hv, hx]
        · simp [h1, hv, readCell, hx, Ne.symm hx]
    · by_cases h2 : addr = a
      · subst h2
        by_cases hx : x = addr
        · subst hx
          by_cases hv : v = blankByte
          · simp only [Nat.lt_irrefl, if_false, if_true, hv]
            exact readCell_below (b := x + 1) (by omega) hr
          · simp [hv, readCell]
        · by_cases hv : v = blankByte
          · simp [hv, hx, readCell, Ne.symm hx]
          · simp [hv, readCell, hx, Ne.symm hx]
      · simp only [h1, if_false, h2, readCell]
        by_cases ha : a = x
        · subst ha
          simp [Ne.symm h2]
        · simp only [ha, if_false]
          exact ih (a + 1) hr x

/-- A read after a write: the written byte at its address, what was there before at every other. -/
theorem readCell_writeCell {l : List Host.Cell} (w : Memory.wf l = true) (addr : Nat) (v : Byte) (x : Nat) :
    readCell x (writeCell addr v l) = if x = addr then v else readCell x l := readCell_writeCell_from addr v l 0 w x

/-- A read after the write of several bytes. -/
theorem readCell_writeCells (bs : List Byte) : ∀ (addr : Nat) (l : List Host.Cell), Memory.wf l = true → ∀ x,
    readCell x (writeCells addr bs l) =
      if addr ≤ x then (match bs[x - addr]? with | some b => b | none => readCell x l) else readCell x l := by
  induction bs with
  | nil =>
    intro addr l _ x
    simp [writeCells]
  | cons b bs ih =>
    intro addr l w x
    unfold writeCells
    rw [ih (addr + 1) _ (wf_writeCell w addr b), readCell_writeCell w]
    by_cases h : x = addr
    · subst h
      simp
    · by_cases h1 : addr ≤ x
      · have h2 : addr + 1 ≤ x := by omega
        have h3 : x - addr = (x - (addr + 1)) + 1 := by omega
        simp [h, h1, h2, h3]
      · have h2 : ¬ addr + 1 ≤ x := by omega
        simp [h, h1, h2]

@[simp] theorem length_readCells (n : Nat) : ∀ (addr : Nat) (l : List Host.Cell), (readCells addr n l).length = n := by
  induction n with
  | zero => exact fun _ _ => rfl
  | succ n ih => exact fun addr l => by simp [readCells, ih]

theorem getElem?_readCells (n : Nat) : ∀ (addr : Nat) (l : List Host.Cell) (k : Nat),
    (readCells addr n l)[k]? = if k < n then some (readCell (addr + k) l) else none := by
  induction n with
  | zero => exact fun _ _ _ => rfl
  | succ n ih =>
    intro addr l k
    cases k with
    | zero => simp [readCells]
    | succ k =>
      simp only [readCells, List.getElem?_cons_succ, ih]
      have : addr + 1 + k = addr + (k + 1) := by omega
      simp [this]

/-- Reading back as many bytes as were written gives those bytes. -/
theorem readCells_writeCells (bs : List Byte) (l : List Host.Cell) (w : Memory.wf l = true) :
    readCells 0 bs.length (writeCells 0 bs l) = bs := by
  apply List.ext_getElem?
  intro k
  rw [getElem?_readCells]
  by_cases h : k < bs.length
  · rw [if_pos h, readCell_writeCells bs 0 l w]
    simp [h]
  · rw [if_neg h]
    simp [Nat.not_lt.1 h]

end Sys2Proof.Machine
end

