-- ==== Sys2Proof/Laws/State.lean ====
section
/-! SUPPORT. What each update of the state leaves in each field. -/

namespace Sys2Proof.Machine

/-! ### elapse -/

@[simp] theorem elapse_clock (s : State) (dt : Nat) : (s.elapse dt).clock = s.clock + dt := rfl
@[simp] theorem elapse_passes (s : State) (dt : Nat) : (s.elapse dt).passes = s.passes := rfl
@[simp] theorem elapse_endpointLevel (s : State) (dt : Nat) : (s.elapse dt).endpointLevel = s.endpointLevel := rfl
@[simp] theorem elapse_rotation (s : State) (dt : Nat) : (s.elapse dt).rotation = s.rotation := rfl
@[simp] theorem elapse_windows (s : State) (dt : Nat) : (s.elapse dt).windows = s.windows := rfl
@[simp] theorem elapse_channels (s : State) (dt : Nat) : (s.elapse dt).channels = s.channels := rfl
@[simp] theorem elapse_headSettings (s : State) (dt : Nat) : (s.elapse dt).headSettings = s.headSettings := rfl
@[simp] theorem elapse_items (s : State) (dt : Nat) : (s.elapse dt).items = s.items := rfl
@[simp] theorem elapse_nextMinute (s : State) (dt : Nat) : (s.elapse dt).nextMinute = s.nextMinute := rfl
@[simp] theorem elapse_rows (s : State) (dt : Nat) : (s.elapse dt).rows = s.rows := rfl
@[simp] theorem elapse_feeds (s : State) (dt : Nat) : (s.elapse dt).feeds = s.feeds := rfl
@[simp] theorem elapse_staged (s : State) (dt : Nat) : (s.elapse dt).staged = s.staged := rfl
@[simp] theorem elapse_load (s : State) (dt : Nat) : (s.elapse dt).load = s.load := rfl
@[simp] theorem elapse_supply (s : State) (dt : Nat) : (s.elapse dt).supply = s.supply := rfl
@[simp] theorem elapse_arms (s : State) (dt : Nat) : (s.elapse dt).arms = s.arms := rfl
@[simp] theorem elapse_glazeSettings (s : State) (dt : Nat) : (s.elapse dt).glazeSettings = s.glazeSettings := rfl
@[simp] theorem elapse_profiles (s : State) (dt : Nat) : (s.elapse dt).profiles = s.profiles := rfl
@[simp] theorem elapse_carousel (s : State) (dt : Nat) : (s.elapse dt).carousel = s.carousel := rfl
@[simp] theorem elapse_tripLatch (s : State) (dt : Nat) : (s.elapse dt).tripLatch = s.tripLatch := rfl
@[simp] theorem elapse_estop (s : State) (dt : Nat) : (s.elapse dt).estop = s.estop := rfl
@[simp] theorem elapse_receiver (s : State) (dt : Nat) : (s.elapse dt).receiver = s.receiver := rfl
@[simp] theorem elapse_buffers (s : State) (dt : Nat) : (s.elapse dt).buffers = s.buffers := rfl
@[simp] theorem elapse_corrupt (s : State) (dt : Nat) : (s.elapse dt).corrupt = s.corrupt := rfl
@[simp] theorem elapse_overrun (s : State) (dt : Nat) : (s.elapse dt).overrun = s.overrun := rfl
@[simp] theorem elapse_fastLink (s : State) (dt : Nat) : (s.elapse dt).fastLink = s.fastLink := rfl
@[simp] theorem elapse_attnPending (s : State) (dt : Nat) : (s.elapse dt).attnPending = s.attnPending := rfl
@[simp] theorem elapse_attnMask (s : State) (dt : Nat) : (s.elapse dt).attnMask = s.attnMask := rfl
@[simp] theorem elapse_startUp (s : State) (dt : Nat) : (s.elapse dt).startUp = s.startUp := rfl
@[simp] theorem elapse_defaulted (s : State) (dt : Nat) : (s.elapse dt).defaulted = s.defaulted := rfl
@[simp] theorem elapse_save (s : State) (dt : Nat) : (s.elapse dt).save = s.save := rfl
@[simp] theorem elapse_eeprom (s : State) (dt : Nat) : (s.elapse dt).eeprom = s.eeprom := rfl
@[simp] theorem elapse_pending (s : State) (dt : Nat) : (s.elapse dt).pending = s.pending := rfl

/-! ### runTo -/

@[simp] theorem runTo_clock (s : State) (moment : Nat) : (s.runTo moment).clock = max s.clock moment := rfl
@[simp] theorem runTo_passes (s : State) (moment : Nat) : (s.runTo moment).passes = s.passes := rfl
@[simp] theorem runTo_endpointLevel (s : State) (moment : Nat) : (s.runTo moment).endpointLevel = s.endpointLevel := rfl
@[simp] theorem runTo_rotation (s : State) (moment : Nat) : (s.runTo moment).rotation = s.rotation := rfl
@[simp] theorem runTo_windows (s : State) (moment : Nat) : (s.runTo moment).windows = s.windows := rfl
@[simp] theorem runTo_channels (s : State) (moment : Nat) : (s.runTo moment).channels = s.channels := rfl
@[simp] theorem runTo_headSettings (s : State) (moment : Nat) : (s.runTo moment).headSettings = s.headSettings := rfl
@[simp] theorem runTo_items (s : State) (moment : Nat) : (s.runTo moment).items = s.items := rfl
@[simp] theorem runTo_nextMinute (s : State) (moment : Nat) : (s.runTo moment).nextMinute = s.nextMinute := rfl
@[simp] theorem runTo_rows (s : State) (moment : Nat) : (s.runTo moment).rows = s.rows := rfl
@[simp] theorem runTo_feeds (s : State) (moment : Nat) : (s.runTo moment).feeds = s.feeds := rfl
@[simp] theorem runTo_staged (s : State) (moment : Nat) : (s.runTo moment).staged = s.staged := rfl
@[simp] theorem runTo_load (s : State) (moment : Nat) : (s.runTo moment).load = s.load := rfl
@[simp] theorem runTo_supply (s : State) (moment : Nat) : (s.runTo moment).supply = s.supply := rfl
@[simp] theorem runTo_arms (s : State) (moment : Nat) : (s.runTo moment).arms = s.arms := rfl
@[simp] theorem runTo_glazeSettings (s : State) (moment : Nat) : (s.runTo moment).glazeSettings = s.glazeSettings := rfl
@[simp] theorem runTo_profiles (s : State) (moment : Nat) : (s.runTo moment).profiles = s.profiles := rfl
@[simp] theorem runTo_carousel (s : State) (moment : Nat) : (s.runTo moment).carousel = s.carousel := rfl
@[simp] theorem runTo_tripLatch (s : State) (moment : Nat) : (s.runTo moment).tripLatch = s.tripLatch := rfl
@[simp] theorem runTo_estop (s : State) (moment : Nat) : (s.runTo moment).estop = s.estop := rfl
@[simp] theorem runTo_receiver (s : State) (moment : Nat) : (s.runTo moment).receiver = s.receiver := rfl
@[simp] theorem runTo_buffers (s : State) (moment : Nat) : (s.runTo moment).buffers = s.buffers := rfl
@[simp] theorem runTo_corrupt (s : State) (moment : Nat) : (s.runTo moment).corrupt = s.corrupt := rfl
@[simp] theorem runTo_overrun (s : State) (moment : Nat) : (s.runTo moment).overrun = s.overrun := rfl
@[simp] theorem runTo_fastLink (s : State) (moment : Nat) : (s.runTo moment).fastLink = s.fastLink := rfl
@[simp] theorem runTo_attnPending (s : State) (moment : Nat) : (s.runTo moment).attnPending = s.attnPending := rfl
@[simp] theorem runTo_attnMask (s : State) (moment : Nat) : (s.runTo moment).attnMask = s.attnMask := rfl
@[simp] theorem runTo_startUp (s : State) (moment : Nat) : (s.runTo moment).startUp = s.startUp := rfl
@[simp] theorem runTo_defaulted (s : State) (moment : Nat) : (s.runTo moment).defaulted = s.defaulted := rfl
@[simp] theorem runTo_save (s : State) (moment : Nat) : (s.runTo moment).save = s.save := rfl
@[simp] theorem runTo_eeprom (s : State) (moment : Nat) : (s.runTo moment).eeprom = s.eeprom := rfl
@[simp] theorem runTo_pending (s : State) (moment : Nat) : (s.runTo moment).pending = s.pending := rfl

/-! ### raise -/

@[simp] theorem raise_clock (s : State) (c : Cause) : (s.raise c).clock = s.clock := rfl
@[simp] theorem raise_passes (s : State) (c : Cause) : (s.raise c).passes = s.passes := rfl
@[simp] theorem raise_endpointLevel (s : State) (c : Cause) : (s.raise c).endpointLevel = s.endpointLevel := rfl
@[simp] theorem raise_rotation (s : State) (c : Cause) : (s.raise c).rotation = s.rotation := rfl
@[simp] theorem raise_windows (s : State) (c : Cause) : (s.raise c).windows = s.windows := rfl
@[simp] theorem raise_channels (s : State) (c : Cause) : (s.raise c).channels = s.channels := rfl
@[simp] theorem raise_headSettings (s : State) (c : Cause) : (s.raise c).headSettings = s.headSettings := rfl
@[simp] theorem raise_items (s : State) (c : Cause) : (s.raise c).items = s.items := rfl
@[simp] theorem raise_nextMinute (s : State) (c : Cause) : (s.raise c).nextMinute = s.nextMinute := rfl
@[simp] theorem raise_rows (s : State) (c : Cause) : (s.raise c).rows = s.rows := rfl
@[simp] theorem raise_feeds (s : State) (c : Cause) : (s.raise c).feeds = s.feeds := rfl
@[simp] theorem raise_staged (s : State) (c : Cause) : (s.raise c).staged = s.staged := rfl
@[simp] theorem raise_load (s : State) (c : Cause) : (s.raise c).load = s.load := rfl
@[simp] theorem raise_supply (s : State) (c : Cause) : (s.raise c).supply = s.supply := rfl
@[simp] theorem raise_arms (s : State) (c : Cause) : (s.raise c).arms = s.arms := rfl
@[simp] theorem raise_glazeSettings (s : State) (c : Cause) : (s.raise c).glazeSettings = s.glazeSettings := rfl
@[simp] theorem raise_profiles (s : State) (c : Cause) : (s.raise c).profiles = s.profiles := rfl
@[simp] theorem raise_carousel (s : State) (c : Cause) : (s.raise c).carousel = s.carousel := rfl
@[simp] theorem raise_tripLatch (s : State) (c : Cause) : (s.raise c).tripLatch = s.tripLatch := rfl
@[simp] theorem raise_estop (s : State) (c : Cause) : (s.raise c).estop = s.estop := rfl
@[simp] theorem raise_receiver (s : State) (c : Cause) : (s.raise c).receiver = s.receiver := rfl
@[simp] theorem raise_buffers (s : State) (c : Cause) : (s.raise c).buffers = s.buffers := rfl
@[simp] theorem raise_corrupt (s : State) (c : Cause) : (s.raise c).corrupt = s.corrupt := rfl
@[simp] theorem raise_overrun (s : State) (c : Cause) : (s.raise c).overrun = s.overrun := rfl
@[simp] theorem raise_fastLink (s : State) (c : Cause) : (s.raise c).fastLink = s.fastLink := rfl
@[simp] theorem raise_attnPending (s : State) (c : Cause) : (s.raise c).attnPending = s.attnPending.add c := rfl
@[simp] theorem raise_attnMask (s : State) (c : Cause) : (s.raise c).attnMask = s.attnMask := rfl
@[simp] theorem raise_startUp (s : State) (c : Cause) : (s.raise c).startUp = s.startUp := rfl
@[simp] theorem raise_defaulted (s : State) (c : Cause) : (s.raise c).defaulted = s.defaulted := rfl
@[simp] theorem raise_save (s : State) (c : Cause) : (s.raise c).save = s.save := rfl
@[simp] theorem raise_eeprom (s : State) (c : Cause) : (s.raise c).eeprom = s.eeprom := rfl
@[simp] theorem raise_pending (s : State) (c : Cause) : (s.raise c).pending = s.pending := rfl

/-! ### setPass -/

@[simp] theorem setPass_clock (s : State) (i : PassSlot) (r : Option Pass) : (s.setPass i r).clock = s.clock := rfl
@[simp] theorem setPass_passes (s : State) (i : PassSlot) (r : Option Pass) : (s.setPass i r).passes = putAt s.passes i r := rfl
@[simp] theorem setPass_endpointLevel (s : State) (i : PassSlot) (r : Option Pass) : (s.setPass i r).endpointLevel = s.endpointLevel := rfl
@[simp] theorem setPass_rotation (s : State) (i : PassSlot) (r : Option Pass) : (s.setPass i r).rotation = s.rotation := rfl
@[simp] theorem setPass_windows (s : State) (i : PassSlot) (r : Option Pass) : (s.setPass i r).windows = s.windows := rfl
@[simp] theorem setPass_channels (s : State) (i : PassSlot) (r : Option Pass) : (s.setPass i r).channels = s.channels := rfl
@[simp] theorem setPass_headSettings (s : State) (i : PassSlot) (r : Option Pass) : (s.setPass i r).headSettings = s.headSettings := rfl
@[simp] theorem setPass_items (s : State) (i : PassSlot) (r : Option Pass) : (s.setPass i r).items = s.items := rfl
@[simp] theorem setPass_nextMinute (s : State) (i : PassSlot) (r : Option Pass) : (s.setPass i r).nextMinute = s.nextMinute := rfl
@[simp] theorem setPass_rows (s : State) (i : PassSlot) (r : Option Pass) : (s.setPass i r).rows = s.rows := rfl
@[simp] theorem setPass_feeds (s : State) (i : PassSlot) (r : Option Pass) : (s.setPass i r).feeds = s.feeds := rfl
@[simp] theorem setPass_staged (s : State) (i : PassSlot) (r : Option Pass) : (s.setPass i r).staged = s.staged := rfl
@[simp] theorem setPass_load (s : State) (i : PassSlot) (r : Option Pass) : (s.setPass i r).load = s.load := rfl
@[simp] theorem setPass_supply (s : State) (i : PassSlot) (r : Option Pass) : (s.setPass i r).supply = s.supply := rfl
@[simp] theorem setPass_arms (s : State) (i : PassSlot) (r : Option Pass) : (s.setPass i r).arms = s.arms := rfl
@[simp] theorem setPass_glazeSettings (s : State) (i : PassSlot) (r : Option Pass) : (s.setPass i r).glazeSettings = s.glazeSettings := rfl
@[simp] theorem setPass_profiles (s : State) (i : PassSlot) (r : Option Pass) : (s.setPass i r).profiles = s.profiles := rfl
@[simp] theorem setPass_carousel (s : State) (i : PassSlot) (r : Option Pass) : (s.setPass i r).carousel = s.carousel := rfl
@[simp] theorem setPass_tripLatch (s : State) (i : PassSlot) (r : Option Pass) : (s.setPass i r).tripLatch = s.tripLatch := rfl
@[simp] theorem setPass_estop (s : State) (i : PassSlot) (r : Option Pass) : (s.setPass i r).estop = s.estop := rfl
@[simp] theorem setPass_receiver (s : State) (i : PassSlot) (r : Option Pass) : (s.setPass i r).receiver = s.receiver := rfl
@[simp] theorem setPass_buffers (s : State) (i : PassSlot) (r : Option Pass) : (s.setPass i r).buffers = s.buffers := rfl
@[simp] theorem setPass_corrupt (s : State) (i : PassSlot) (r : Option Pass) : (s.setPass i r).corrupt = s.corrupt := rfl
@[simp] theorem setPass_overrun (s : State) (i : PassSlot) (r : Option Pass) : (s.setPass i r).overrun = s.overrun := rfl
@[simp] theorem setPass_fastLink (s : State) (i : PassSlot) (r : Option Pass) : (s.setPass i r).fastLink = s.fastLink := rfl
@[simp] theorem setPass_attnPending (s : State) (i : PassSlot) (r : Option Pass) : (s.setPass i r).attnPending = s.attnPending := rfl
@[simp] theorem setPass_attnMask (s : State) (i : PassSlot) (r : Option Pass) : (s.setPass i r).attnMask = s.attnMask := rfl
@[simp] theorem setPass_startUp (s : State) (i : PassSlot) (r : Option Pass) : (s.setPass i r).startUp = s.startUp := rfl
@[simp] theorem setPass_defaulted (s : State) (i : PassSlot) (r : Option Pass) : (s.setPass i r).defaulted = s.defaulted := rfl
@[simp] theorem setPass_save (s : State) (i : PassSlot) (r : Option Pass) : (s.setPass i r).save = s.save := rfl
@[simp] theorem setPass_eeprom (s : State) (i : PassSlot) (r : Option Pass) : (s.setPass i r).eeprom = s.eeprom := rfl
@[simp] theorem setPass_pending (s : State) (i : PassSlot) (r : Option Pass) : (s.setPass i r).pending = s.pending := rfl

/-! ### setItem -/

@[simp] theorem setItem_clock (s : State) (i : ItemSlot) (r : Option Item) : (s.setItem i r).clock = s.clock := rfl
@[simp] theorem setItem_passes (s : State) (i : ItemSlot) (r : Option Item) : (s.setItem i r).passes = s.passes := rfl
@[simp] theorem setItem_endpointLevel (s : State) (i : ItemSlot) (r : Option Item) : (s.setItem i r).endpointLevel = s.endpointLevel := rfl
@[simp] theorem setItem_rotation (s : State) (i : ItemSlot) (r : Option Item) : (s.setItem i r).rotation = s.rotation := rfl
@[simp] theorem setItem_windows (s : State) (i : ItemSlot) (r : Option Item) : (s.setItem i r).windows = s.windows := rfl
@[simp] theorem setItem_channels (s : State) (i : ItemSlot) (r : Option Item) : (s.setItem i r).channels = s.channels := rfl
@[simp] theorem setItem_headSettings (s : State) (i : ItemSlot) (r : Option Item) : (s.setItem i r).headSettings = s.headSettings := rfl
@[simp] theorem setItem_items (s : State) (i : ItemSlot) (r : Option Item) : (s.setItem i r).items = putAt s.items i r := rfl
@[simp] theorem setItem_nextMinute (s : State) (i : ItemSlot) (r : Option Item) : (s.setItem i r).nextMinute = s.nextMinute := rfl
@[simp] theorem setItem_rows (s : State) (i : ItemSlot) (r : Option Item) : (s.setItem i r).rows = s.rows := rfl
@[simp] theorem setItem_feeds (s : State) (i : ItemSlot) (r : Option Item) : (s.setItem i r).feeds = s.feeds := rfl
@[simp] theorem setItem_staged (s : State) (i : ItemSlot) (r : Option Item) : (s.setItem i r).staged = s.staged := rfl
@[simp] theorem setItem_load (s : State) (i : ItemSlot) (r : Option Item) : (s.setItem i r).load = s.load := rfl
@[simp] theorem setItem_supply (s : State) (i : ItemSlot) (r : Option Item) : (s.setItem i r).supply = s.supply := rfl
@[simp] theorem setItem_arms (s : State) (i : ItemSlot) (r : Option Item) : (s.setItem i r).arms = s.arms := rfl
@[simp] theorem setItem_glazeSettings (s : State) (i : ItemSlot) (r : Option Item) : (s.setItem i r).glazeSettings = s.glazeSettings := rfl
@[simp] theorem setItem_profiles (s : State) (i : ItemSlot) (r : Option Item) : (s.setItem i r).profiles = s.profiles := rfl
@[simp] theorem setItem_carousel (s : State) (i : ItemSlot) (r : Option Item) : (s.setItem i r).carousel = s.carousel := rfl
@[simp] theorem setItem_tripLatch (s : State) (i : ItemSlot) (r : Option Item) : (s.setItem i r).tripLatch = s.tripLatch := rfl
@[simp] theorem setItem_estop (s : State) (i : ItemSlot) (r : Option Item) : (s.setItem i r).estop = s.estop := rfl
@[simp] theorem setItem_receiver (s : State) (i : ItemSlot) (r : Option Item) : (s.setItem i r).receiver = s.receiver := rfl
@[simp] theorem setItem_buffers (s : State) (i : ItemSlot) (r : Option Item) : (s.setItem i r).buffers = s.buffers := rfl
@[simp] theorem setItem_corrupt (s : State) (i : ItemSlot) (r : Option Item) : (s.setItem i r).corrupt = s.corrupt := rfl
@[simp] theorem setItem_overrun (s : State) (i : ItemSlot) (r : Option Item) : (s.setItem i r).overrun = s.overrun := rfl
@[simp] theorem setItem_fastLink (s : State) (i : ItemSlot) (r : Option Item) : (s.setItem i r).fastLink = s.fastLink := rfl
@[simp] theorem setItem_attnPending (s : State) (i : ItemSlot) (r : Option Item) : (s.setItem i r).attnPending = s.attnPending := rfl
@[simp] theorem setItem_attnMask (s : State) (i : ItemSlot) (r : Option Item) : (s.setItem i r).attnMask = s.attnMask := rfl
@[simp] theorem setItem_startUp (s : State) (i : ItemSlot) (r : Option Item) : (s.setItem i r).startUp = s.startUp := rfl
@[simp] theorem setItem_defaulted (s : State) (i : ItemSlot) (r : Option Item) : (s.setItem i r).defaulted = s.defaulted := rfl
@[simp] theorem setItem_save (s : State) (i : ItemSlot) (r : Option Item) : (s.setItem i r).save = s.save := rfl
@[simp] theorem setItem_eeprom (s : State) (i : ItemSlot) (r : Option Item) : (s.setItem i r).eeprom = s.eeprom := rfl
@[simp] theorem setItem_pending (s : State) (i : ItemSlot) (r : Option Item) : (s.setItem i r).pending = s.pending := rfl

/-! ### setChannel -/

@[simp] theorem setChannel_clock (s : State) (h : Head) (c : Chan) (x : Channel) : (s.setChannel h c x).clock = s.clock := rfl
@[simp] theorem setChannel_passes (s : State) (h : Head) (c : Chan) (x : Channel) : (s.setChannel h c x).passes = s.passes := rfl
@[simp] theorem setChannel_endpointLevel (s : State) (h : Head) (c : Chan) (x : Channel) : (s.setChannel h c x).endpointLevel = s.endpointLevel := rfl
@[simp] theorem setChannel_rotation (s : State) (h : Head) (c : Chan) (x : Channel) : (s.setChannel h c x).rotation = s.rotation := rfl
@[simp] theorem setChannel_windows (s : State) (h : Head) (c : Chan) (x : Channel) : (s.setChannel h c x).windows = s.windows := rfl
@[simp] theorem setChannel_channels (s : State) (h : Head) (c : Chan) (x : Channel) : (s.setChannel h c x).channels = s.channels.set h ((s.channels.get h).set c x) := rfl
@[simp] theorem setChannel_headSettings (s : State) (h : Head) (c : Chan) (x : Channel) : (s.setChannel h c x).headSettings = s.headSettings := rfl
@[simp] theorem setChannel_items (s : State) (h : Head) (c : Chan) (x : Channel) : (s.setChannel h c x).items = s.items := rfl
@[simp] theorem setChannel_nextMinute (s : State) (h : Head) (c : Chan) (x : Channel) : (s.setChannel h c x).nextMinute = s.nextMinute := rfl
@[simp] theorem setChannel_rows (s : State) (h : Head) (c : Chan) (x : Channel) : (s.setChannel h c x).rows = s.rows := rfl
@[simp] theorem setChannel_feeds (s : State) (h : Head) (c : Chan) (x : Channel) : (s.setChannel h c x).feeds = s.feeds := rfl
@[simp] theorem setChannel_staged (s : State) (h : Head) (c : Chan) (x : Channel) : (s.setChannel h c x).staged = s.staged := rfl
@[simp] theorem setChannel_load (s : State) (h : Head) (c : Chan) (x : Channel) : (s.setChannel h c x).load = s.load := rfl
@[simp] theorem setChannel_supply (s : State) (h : Head) (c : Chan) (x : Channel) : (s.setChannel h c x).supply = s.supply := rfl
@[simp] theorem setChannel_arms (s : State) (h : Head) (c : Chan) (x : Channel) : (s.setChannel h c x).arms = s.arms := rfl
@[simp] theorem setChannel_glazeSettings (s : State) (h : Head) (c : Chan) (x : Channel) : (s.setChannel h c x).glazeSettings = s.glazeSettings := rfl
@[simp] theorem setChannel_profiles (s : State) (h : Head) (c : Chan) (x : Channel) : (s.setChannel h c x).profiles = s.profiles := rfl
@[simp] theorem setChannel_carousel (s : State) (h : Head) (c : Chan) (x : Channel) : (s.setChannel h c x).carousel = s.carousel := rfl
@[simp] theorem setChannel_tripLatch (s : State) (h : Head) (c : Chan) (x : Channel) : (s.setChannel h c x).tripLatch = s.tripLatch := rfl
@[simp] theorem setChannel_estop (s : State) (h : Head) (c : Chan) (x : Channel) : (s.setChannel h c x).estop = s.estop := rfl
@[simp] theorem setChannel_receiver (s : State) (h : Head) (c : Chan) (x : Channel) : (s.setChannel h c x).receiver = s.receiver := rfl
@[simp] theorem setChannel_buffers (s : State) (h : Head) (c : Chan) (x : Channel) : (s.setChannel h c x).buffers = s.buffers := rfl
@[simp] theorem setChannel_corrupt (s : State) (h : Head) (c : Chan) (x : Channel) : (s.setChannel h c x).corrupt = s.corrupt := rfl
@[simp] theorem setChannel_overrun (s : State) (h : Head) (c : Chan) (x : Channel) : (s.setChannel h c x).overrun = s.overrun := rfl
@[simp] theorem setChannel_fastLink (s : State) (h : Head) (c : Chan) (x : Channel) : (s.setChannel h c x).fastLink = s.fastLink := rfl
@[simp] theorem setChannel_attnPending (s : State) (h : Head) (c : Chan) (x : Channel) : (s.setChannel h c x).attnPending = s.attnPending := rfl
@[simp] theorem setChannel_attnMask (s : State) (h : Head) (c : Chan) (x : Channel) : (s.setChannel h c x).attnMask = s.attnMask := rfl
@[simp] theorem setChannel_startUp (s : State) (h : Head) (c : Chan) (x : Channel) : (s.setChannel h c x).startUp = s.startUp := rfl
@[simp] theorem setChannel_defaulted (s : State) (h : Head) (c : Chan) (x : Channel) : (s.setChannel h c x).defaulted = s.defaulted := rfl
@[simp] theorem setChannel_save (s : State) (h : Head) (c : Chan) (x : Channel) : (s.setChannel h c x).save = s.save := rfl
@[simp] theorem setChannel_eeprom (s : State) (h : Head) (c : Chan) (x : Channel) : (s.setChannel h c x).eeprom = s.eeprom := rfl
@[simp] theorem setChannel_pending (s : State) (h : Head) (c : Chan) (x : Channel) : (s.setChannel h c x).pending = s.pending := rfl

/-! ### updateHead -/

@[simp] theorem updateHead_clock (s : State) (h : Head) (f : Chan → Channel → Channel) : (s.updateHead h f).clock = s.clock := rfl
@[simp] theorem updateHead_passes (s : State) (h : Head) (f : Chan → Channel → Channel) : (s.updateHead h f).passes = s.passes := rfl
@[simp] theorem updateHead_endpointLevel (s : State) (h : Head) (f : Chan → Channel → Channel) : (s.updateHead h f).endpointLevel = s.endpointLevel := rfl
@[simp] theorem updateHead_rotation (s : State) (h : Head) (f : Chan → Channel → Channel) : (s.updateHead h f).rotation = s.rotation := rfl
@[simp] theorem updateHead_windows (s : State) (h : Head) (f : Chan → Channel → Channel) : (s.updateHead h f).windows = s.windows := rfl
@[simp] theorem updateHead_channels (s : State) (h : Head) (f : Chan → Channel → Channel) : (s.updateHead h f).channels = s.channels.set h (PerChan.tabulate fun c => f c ((s.channels.get h).get c)) := rfl
@[simp] theorem updateHead_headSettings (s : State) (h : Head) (f : Chan → Channel → Channel) : (s.updateHead h f).headSettings = s.headSettings := rfl
@[simp] theorem updateHead_items (s : State) (h : Head) (f : Chan → Channel → Channel) : (s.updateHead h f).items = s.items := rfl
@[simp] theorem updateHead_nextMinute (s : State) (h : Head) (f : Chan → Channel → Channel) : (s.updateHead h f).nextMinute = s.nextMinute := rfl
@[simp] theorem updateHead_rows (s : State) (h : Head) (f : Chan → Channel → Channel) : (s.updateHead h f).rows = s.rows := rfl
@[simp] theorem updateHead_feeds (s : State) (h : Head) (f : Chan → Channel → Channel) : (s.updateHead h f).feeds = s.feeds := rfl
@[simp] theorem updateHead_staged (s : State) (h : Head) (f : Chan → Channel → Channel) : (s.updateHead h f).staged = s.staged := rfl
@[simp] theorem updateHead_load (s : State) (h : Head) (f : Chan → Channel → Channel) : (s.updateHead h f).load = s.load := rfl
@[simp] theorem updateHead_supply (s : State) (h : Head) (f : Chan → Channel → Channel) : (s.updateHead h f).supply = s.supply := rfl
@[simp] theorem updateHead_arms (s : State) (h : Head) (f : Chan → Channel → Channel) : (s.updateHead h f).arms = s.arms := rfl
@[simp] theorem updateHead_glazeSettings (s : State) (h : Head) (f : Chan → Channel → Channel) : (s.updateHead h f).glazeSettings = s.glazeSettings := rfl
@[simp] theorem updateHead_profiles (s : State) (h : Head) (f : Chan → Channel → Channel) : (s.updateHead h f).profiles = s.profiles := rfl
@[simp] theorem updateHead_carousel (s : State) (h : Head) (f : Chan → Channel → Channel) : (s.updateHead h f).carousel = s.carousel := rfl
@[simp] theorem updateHead_tripLatch (s : State) (h : Head) (f : Chan → Channel → Channel) : (s.updateHead h f).tripLatch = s.tripLatch := rfl
@[simp] theorem updateHead_estop (s : State) (h : Head) (f : Chan → Channel → Channel) : (s.updateHead h f).estop = s.estop := rfl
@[simp] theorem updateHead_receiver (s : State) (h : Head) (f : Chan → Channel → Channel) : (s.updateHead h f).receiver = s.receiver := rfl
@[simp] theorem updateHead_buffers (s : State) (h : Head) (f : Chan → Channel → Channel) : (s.updateHead h f).buffers = s.buffers := rfl
@[simp] theorem updateHead_corrupt (s : State) (h : Head) (f : Chan → Channel → Channel) : (s.updateHead h f).corrupt = s.corrupt := rfl
@[simp] theorem updateHead_overrun (s : State) (h : Head) (f : Chan → Channel → Channel) : (s.updateHead h f).overrun = s.overrun := rfl
@[simp] theorem updateHead_fastLink (s : State) (h : Head) (f : Chan → Channel → Channel) : (s.updateHead h f).fastLink = s.fastLink := rfl
@[simp] theorem updateHead_attnPending (s : State) (h : Head) (f : Chan → Channel → Channel) : (s.updateHead h f).attnPending = s.attnPending := rfl
@[simp] theorem updateHead_attnMask (s : State) (h : Head) (f : Chan → Channel → Channel) : (s.updateHead h f).attnMask = s.attnMask := rfl
@[simp] theorem updateHead_startUp (s : State) (h : Head) (f : Chan → Channel → Channel) : (s.updateHead h f).startUp = s.startUp := rfl
@[simp] theorem updateHead_defaulted (s : State) (h : Head) (f : Chan → Channel → Channel) : (s.updateHead h f).defaulted = s.defaulted := rfl
@[simp] theorem updateHead_save (s : State) (h : Head) (f : Chan → Channel → Channel) : (s.updateHead h f).save = s.save := rfl
@[simp] theorem updateHead_eeprom (s : State) (h : Head) (f : Chan → Channel → Channel) : (s.updateHead h f).eeprom = s.eeprom := rfl
@[simp] theorem updateHead_pending (s : State) (h : Head) (f : Chan → Channel → Channel) : (s.updateHead h f).pending = s.pending := rfl

/-! ### setArm -/

@[simp] theorem setArm_clock (s : State) (p : Platen) (a : Arm) : (s.setArm p a).clock = s.clock := rfl
@[simp] theorem setArm_passes (s : State) (p : Platen) (a : Arm) : (s.setArm p a).passes = s.passes := rfl
@[simp] theorem setArm_endpointLevel (s : State) (p : Platen) (a : Arm) : (s.setArm p a).endpointLevel = s.endpointLevel := rfl
@[simp] theorem setArm_rotation (s : State) (p : Platen) (a : Arm) : (s.setArm p a).rotation = s.rotation := rfl
@[simp] theorem setArm_windows (s : State) (p : Platen) (a : Arm) : (s.setArm p a).windows = s.windows := rfl
@[simp] theorem setArm_channels (s : State) (p : Platen) (a : Arm) : (s.setArm p a).channels = s.channels := rfl
@[simp] theorem setArm_headSettings (s : State) (p : Platen) (a : Arm) : (s.setArm p a).headSettings = s.headSettings := rfl
@[simp] theorem setArm_items (s : State) (p : Platen) (a : Arm) : (s.setArm p a).items = s.items := rfl
@[simp] theorem setArm_nextMinute (s : State) (p : Platen) (a : Arm) : (s.setArm p a).nextMinute = s.nextMinute := rfl
@[simp] theorem setArm_rows (s : State) (p : Platen) (a : Arm) : (s.setArm p a).rows = s.rows := rfl
@[simp] theorem setArm_feeds (s : State) (p : Platen) (a : Arm) : (s.setArm p a).feeds = s.feeds := rfl
@[simp] theorem setArm_staged (s : State) (p : Platen) (a : Arm) : (s.setArm p a).staged = s.staged := rfl
@[simp] theorem setArm_load (s : State) (p : Platen) (a : Arm) : (s.setArm p a).load = s.load := rfl
@[simp] theorem setArm_supply (s : State) (p : Platen) (a : Arm) : (s.setArm p a).supply = s.supply := rfl
@[simp] theorem setArm_arms (s : State) (p : Platen) (a : Arm) : (s.setArm p a).arms = s.arms.set p a := rfl
@[simp] theorem setArm_glazeSettings (s : State) (p : Platen) (a : Arm) : (s.setArm p a).glazeSettings = s.glazeSettings := rfl
@[simp] theorem setArm_profiles (s : State) (p : Platen) (a : Arm) : (s.setArm p a).profiles = s.profiles := rfl
@[simp] theorem setArm_carousel (s : State) (p : Platen) (a : Arm) : (s.setArm p a).carousel = s.carousel := rfl
@[simp] theorem setArm_tripLatch (s : State) (p : Platen) (a : Arm) : (s.setArm p a).tripLatch = s.tripLatch := rfl
@[simp] theorem setArm_estop (s : State) (p : Platen) (a : Arm) : (s.setArm p a).estop = s.estop := rfl
@[simp] theorem setArm_receiver (s : State) (p : Platen) (a : Arm) : (s.setArm p a).receiver = s.receiver := rfl
@[simp] theorem setArm_buffers (s : State) (p : Platen) (a : Arm) : (s.setArm p a).buffers = s.buffers := rfl
@[simp] theorem setArm_corrupt (s : State) (p : Platen) (a : Arm) : (s.setArm p a).corrupt = s.corrupt := rfl
@[simp] theorem setArm_overrun (s : State) (p : Platen) (a : Arm) : (s.setArm p a).overrun = s.overrun := rfl
@[simp] theorem setArm_fastLink (s : State) (p : Platen) (a : Arm) : (s.setArm p a).fastLink = s.fastLink := rfl
@[simp] theorem setArm_attnPending (s : State) (p : Platen) (a : Arm) : (s.setArm p a).attnPending = s.attnPending := rfl
@[simp] theorem setArm_attnMask (s : State) (p : Platen) (a : Arm) : (s.setArm p a).attnMask = s.attnMask := rfl
@[simp] theorem setArm_startUp (s : State) (p : Platen) (a : Arm) : (s.setArm p a).startUp = s.startUp := rfl
@[simp] theorem setArm_defaulted (s : State) (p : Platen) (a : Arm) : (s.setArm p a).defaulted = s.defaulted := rfl
@[simp] theorem setArm_save (s : State) (p : Platen) (a : Arm) : (s.setArm p a).save = s.save := rfl
@[simp] theorem setArm_eeprom (s : State) (p : Platen) (a : Arm) : (s.setArm p a).eeprom = s.eeprom := rfl
@[simp] theorem setArm_pending (s : State) (p : Platen) (a : Arm) : (s.setArm p a).pending = s.pending := rfl

/-! ### setSupply -/

@[simp] theorem setSupply_clock (s : State) (p : Platen) (x : PlatenSupply) : (s.setSupply p x).clock = s.clock := rfl
@[simp] theorem setSupply_passes (s : State) (p : Platen) (x : PlatenSupply) : (s.setSupply p x).passes = s.passes := rfl
@[simp] theorem setSupply_endpointLevel (s : State) (p : Platen) (x : PlatenSupply) : (s.setSupply p x).endpointLevel = s.endpointLevel := rfl
@[simp] theorem setSupply_rotation (s : State) (p : Platen) (x : PlatenSupply) : (s.setSupply p x).rotation = s.rotation := rfl
@[simp] theorem setSupply_windows (s : State) (p : Platen) (x : PlatenSupply) : (s.setSupply p x).windows = s.windows := rfl
@[simp] theorem setSupply_channels (s : State) (p : Platen) (x : PlatenSupply) : (s.setSupply p x).channels = s.channels := rfl
@[simp] theorem setSupply_headSettings (s : State) (p : Platen) (x : PlatenSupply) : (s.setSupply p x).headSettings = s.headSettings := rfl
@[simp] theorem setSupply_items (s : State) (p : Platen) (x : PlatenSupply) : (s.setSupply p x).items = s.items := rfl
@[simp] theorem setSupply_nextMinute (s : State) (p : Platen) (x : PlatenSupply) : (s.setSupply p x).nextMinute = s.nextMinute := rfl
@[simp] theorem setSupply_rows (s : State) (p : Platen) (x : PlatenSupply) : (s.setSupply p x).rows = s.rows := rfl
@[simp] theorem setSupply_feeds (s : State) (p : Platen) (x : PlatenSupply) : (s.setSupply p x).feeds = s.feeds := rfl
@[simp] theorem setSupply_staged (s : State) (p : Platen) (x : PlatenSupply) : (s.setSupply p x).staged = s.staged := rfl
@[simp] theorem setSupply_load (s : State) (p : Platen) (x : PlatenSupply) : (s.setSupply p x).load = s.load := rfl
@[simp] theorem setSupply_supply (s : State) (p : Platen) (x : PlatenSupply) : (s.setSupply p x).supply = s.supply.set p x := rfl
@[simp] theorem setSupply_arms (s : State) (p : Platen) (x : PlatenSupply) : (s.setSupply p x).arms = s.arms := rfl
@[simp] theorem setSupply_glazeSettings (s : State) (p : Platen) (x : PlatenSupply) : (s.setSupply p x).glazeSettings = s.glazeSettings := rfl
@[simp] theorem setSupply_profiles (s : State) (p : Platen) (x : PlatenSupply) : (s.setSupply p x).profiles = s.profiles := rfl
@[simp] theorem setSupply_carousel (s : State) (p : Platen) (x : PlatenSupply) : (s.setSupply p x).carousel = s.carousel := rfl
@[simp] theorem setSupply_tripLatch (s : State) (p : Platen) (x : PlatenSupply) : (s.setSupply p x).tripLatch = s.tripLatch := rfl
@[simp] theorem setSupply_estop (s : State) (p : Platen) (x : PlatenSupply) : (s.setSupply p x).estop = s.estop := rfl
@[simp] theorem setSupply_receiver (s : State) (p : Platen) (x : PlatenSupply) : (s.setSupply p x).receiver = s.receiver := rfl
@[simp] theorem setSupply_buffers (s : State) (p : Platen) (x : PlatenSupply) : (s.setSupply p x).buffers = s.buffers := rfl
@[simp] theorem setSupply_corrupt (s : State) (p : Platen) (x : PlatenSupply) : (s.setSupply p x).corrupt = s.corrupt := rfl
@[simp] theorem setSupply_overrun (s : State) (p : Platen) (x : PlatenSupply) : (s.setSupply p x).overrun = s.overrun := rfl
@[simp] theorem setSupply_fastLink (s : State) (p : Platen) (x : PlatenSupply) : (s.setSupply p x).fastLink = s.fastLink := rfl
@[simp] theorem setSupply_attnPending (s : State) (p : Platen) (x : PlatenSupply) : (s.setSupply p x).attnPending = s.attnPending := rfl
@[simp] theorem setSupply_attnMask (s : State) (p : Platen) (x : PlatenSupply) : (s.setSupply p x).attnMask = s.attnMask := rfl
@[simp] theorem setSupply_startUp (s : State) (p : Platen) (x : PlatenSupply) : (s.setSupply p x).startUp = s.startUp := rfl
@[simp] theorem setSupply_defaulted (s : State) (p : Platen) (x : PlatenSupply) : (s.setSupply p x).defaulted = s.defaulted := rfl
@[simp] theorem setSupply_save (s : State) (p : Platen) (x : PlatenSupply) : (s.setSupply p x).save = s.save := rfl
@[simp] theorem setSupply_eeprom (s : State) (p : Platen) (x : PlatenSupply) : (s.setSupply p x).eeprom = s.eeprom := rfl
@[simp] theorem setSupply_pending (s : State) (p : Platen) (x : PlatenSupply) : (s.setSupply p x).pending = s.pending := rfl

/-! ### setFeed -/

@[simp] theorem setFeed_clock (s : State) (f : Feed) (x : FeedUnit) : (s.setFeed f x).clock = s.clock := rfl
@[simp] theorem setFeed_passes (s : State) (f : Feed) (x : FeedUnit) : (s.setFeed f x).passes = s.passes := rfl
@[simp] theorem setFeed_endpointLevel (s : State) (f : Feed) (x : FeedUnit) : (s.setFeed f x).endpointLevel = s.endpointLevel := rfl
@[simp] theorem setFeed_rotation (s : State) (f : Feed) (x : FeedUnit) : (s.setFeed f x).rotation = s.rotation := rfl
@[simp] theorem setFeed_windows (s : State) (f : Feed) (x : FeedUnit) : (s.setFeed f x).windows = s.windows := rfl
@[simp] theorem setFeed_channels (s : State) (f : Feed) (x : FeedUnit) : (s.setFeed f x).channels = s.channels := rfl
@[simp] theorem setFeed_headSettings (s : State) (f : Feed) (x : FeedUnit) : (s.setFeed f x).headSettings = s.headSettings := rfl
@[simp] theorem setFeed_items (s : State) (f : Feed) (x : FeedUnit) : (s.setFeed f x).items = s.items := rfl
@[simp] theorem setFeed_nextMinute (s : State) (f : Feed) (x : FeedUnit) : (s.setFeed f x).nextMinute = s.nextMinute := rfl
@[simp] theorem setFeed_rows (s : State) (f : Feed) (x : FeedUnit) : (s.setFeed f x).rows = s.rows := rfl
@[simp] theorem setFeed_feeds (s : State) (f : Feed) (x : FeedUnit) : (s.setFeed f x).feeds = s.feeds.set f x := rfl
@[simp] theorem setFeed_staged (s : State) (f : Feed) (x : FeedUnit) : (s.setFeed f x).staged = s.staged := rfl
@[simp] theorem setFeed_load (s : State) (f : Feed) (x : FeedUnit) : (s.setFeed f x).load = s.load := rfl
@[simp] theorem setFeed_supply (s : State) (f : Feed) (x : FeedUnit) : (s.setFeed f x).supply = s.supply := rfl
@[simp] theorem setFeed_arms (s : State) (f : Feed) (x : FeedUnit) : (s.setFeed f x).arms = s.arms := rfl
@[simp] theorem setFeed_glazeSettings (s : State) (f : Feed) (x : FeedUnit) : (s.setFeed f x).glazeSettings = s.glazeSettings := rfl
@[simp] theorem setFeed_profiles (s : State) (f : Feed) (x : FeedUnit) : (s.setFeed f x).profiles = s.profiles := rfl
@[simp] theorem setFeed_carousel (s : State) (f : Feed) (x : FeedUnit) : (s.setFeed f x).carousel = s.carousel := rfl
@[simp] theorem setFeed_tripLatch (s : State) (f : Feed) (x : FeedUnit) : (s.setFeed f x).tripLatch = s.tripLatch := rfl
@[simp] theorem setFeed_estop (s : State) (f : Feed) (x : FeedUnit) : (s.setFeed f x).estop = s.estop := rfl
@[simp] theorem setFeed_receiver (s : State) (f : Feed) (x : FeedUnit) : (s.setFeed f x).receiver = s.receiver := rfl
@[simp] theorem setFeed_buffers (s : State) (f : Feed) (x : FeedUnit) : (s.setFeed f x).buffers = s.buffers := rfl
@[simp] theorem setFeed_corrupt (s : State) (f : Feed) (x : FeedUnit) : (s.setFeed f x).corrupt = s.corrupt := rfl
@[simp] theorem setFeed_overrun (s : State) (f : Feed) (x : FeedUnit) : (s.setFeed f x).overrun = s.overrun := rfl
@[simp] theorem setFeed_fastLink (s : State) (f : Feed) (x : FeedUnit) : (s.setFeed f x).fastLink = s.fastLink := rfl
@[simp] theorem setFeed_attnPending (s : State) (f : Feed) (x : FeedUnit) : (s.setFeed f x).attnPending = s.attnPending := rfl
@[simp] theorem setFeed_attnMask (s : State) (f : Feed) (x : FeedUnit) : (s.setFeed f x).attnMask = s.attnMask := rfl
@[simp] theorem setFeed_startUp (s : State) (f : Feed) (x : FeedUnit) : (s.setFeed f x).startUp = s.startUp := rfl
@[simp] theorem setFeed_defaulted (s : State) (f : Feed) (x : FeedUnit) : (s.setFeed f x).defaulted = s.defaulted := rfl
@[simp] theorem setFeed_save (s : State) (f : Feed) (x : FeedUnit) : (s.setFeed f x).save = s.save := rfl
@[simp] theorem setFeed_eeprom (s : State) (f : Feed) (x : FeedUnit) : (s.setFeed f x).eeprom = s.eeprom := rfl
@[simp] theorem setFeed_pending (s : State) (f : Feed) (x : FeedUnit) : (s.setFeed f x).pending = s.pending := rfl

/-! ### setRotation -/

@[simp] theorem setRotation_clock (s : State) (p : Platen) (x : Rotation) : (s.setRotation p x).clock = s.clock := rfl
@[simp] theorem setRotation_passes (s : State) (p : Platen) (x : Rotation) : (s.setRotation p x).passes = s.passes := rfl
@[simp] theorem setRotation_endpointLevel (s : State) (p : Platen) (x : Rotation) : (s.setRotation p x).endpointLevel = s.endpointLevel := rfl
@[simp] theorem setRotation_rotation (s : State) (p : Platen) (x : Rotation) : (s.setRotation p x).rotation = s.rotation.set p x := rfl
@[simp] theorem setRotation_windows (s : State) (p : Platen) (x : Rotation) : (s.setRotation p x).windows = s.windows := rfl
@[simp] theorem setRotation_channels (s : State) (p : Platen) (x : Rotation) : (s.setRotation p x).channels = s.channels := rfl
@[simp] theorem setRotation_headSettings (s : State) (p : Platen) (x : Rotation) : (s.setRotation p x).headSettings = s.headSettings := rfl
@[simp] theorem setRotation_items (s : State) (p : Platen) (x : Rotation) : (s.setRotation p x).items = s.items := rfl
@[simp] theorem setRotation_nextMinute (s : State) (p : Platen) (x : Rotation) : (s.setRotation p x).nextMinute = s.nextMinute := rfl
@[simp] theorem setRotation_rows (s : State) (p : Platen) (x : Rotation) : (s.setRotation p x).rows = s.rows := rfl
@[simp] theorem setRotation_feeds (s : State) (p : Platen) (x : Rotation) : (s.setRotation p x).feeds = s.feeds := rfl
@[simp] theorem setRotation_staged (s : State) (p : Platen) (x : Rotation) : (s.setRotation p x).staged = s.staged := rfl
@[simp] theorem setRotation_load (s : State) (p : Platen) (x : Rotation) : (s.setRotation p x).load = s.load := rfl
@[simp] theorem setRotation_supply (s : State) (p : Platen) (x : Rotation) : (s.setRotation p x).supply = s.supply := rfl
@[simp] theorem setRotation_arms (s : State) (p : Platen) (x : Rotation) : (s.setRotation p x).arms = s.arms := rfl
@[simp] theorem setRotation_glazeSettings (s : State) (p : Platen) (x : Rotation) : (s.setRotation p x).glazeSettings = s.glazeSettings := rfl
@[simp] theorem setRotation_profiles (s : State) (p : Platen) (x : Rotation) : (s.setRotation p x).profiles = s.profiles := rfl
@[simp] theorem setRotation_carousel (s : State) (p : Platen) (x : Rotation) : (s.setRotation p x).carousel = s.carousel := rfl
@[simp] theorem setRotation_tripLatch (s : State) (p : Platen) (x : Rotation) : (s.setRotation p x).tripLatch = s.tripLatch := rfl
@[simp] theorem setRotation_estop (s : State) (p : Platen) (x : Rotation) : (s.setRotation p x).estop = s.estop := rfl
@[simp] theorem setRotation_receiver (s : State) (p : Platen) (x : Rotation) : (s.setRotation p x).receiver = s.receiver := rfl
@[simp] theorem setRotation_buffers (s : State) (p : Platen) (x : Rotation) : (s.setRotation p x).buffers = s.buffers := rfl
@[simp] theorem setRotation_corrupt (s : State) (p : Platen) (x : Rotation) : (s.setRotation p x).corrupt = s.corrupt := rfl
@[simp] theorem setRotation_overrun (s : State) (p : Platen) (x : Rotation) : (s.setRotation p x).overrun = s.overrun := rfl
@[simp] theorem setRotation_fastLink (s : State) (p : Platen) (x : Rotation) : (s.setRotation p x).fastLink = s.fastLink := rfl
@[simp] theorem setRotation_attnPending (s : State) (p : Platen) (x : Rotation) : (s.setRotation p x).attnPending = s.attnPending := rfl
@[simp] theorem setRotation_attnMask (s : State) (p : Platen) (x : Rotation) : (s.setRotation p x).attnMask = s.attnMask := rfl
@[simp] theorem setRotation_startUp (s : State) (p : Platen) (x : Rotation) : (s.setRotation p x).startUp = s.startUp := rfl
@[simp] theorem setRotation_defaulted (s : State) (p : Platen) (x : Rotation) : (s.setRotation p x).defaulted = s.defaulted := rfl
@[simp] theorem setRotation_save (s : State) (p : Platen) (x : Rotation) : (s.setRotation p x).save = s.save := rfl
@[simp] theorem setRotation_eeprom (s : State) (p : Platen) (x : Rotation) : (s.setRotation p x).eeprom = s.eeprom := rfl
@[simp] theorem setRotation_pending (s : State) (p : Platen) (x : Rotation) : (s.setRotation p x).pending = s.pending := rfl

/-! ### respond -/

@[simp] theorem respond_clock (s : State) (r : Response) : (s.respond r).clock = s.clock := rfl
@[simp] theorem respond_passes (s : State) (r : Response) : (s.respond r).passes = s.passes := rfl
@[simp] theorem respond_endpointLevel (s : State) (r : Response) : (s.respond r).endpointLevel = s.endpointLevel := rfl
@[simp] theorem respond_rotation (s : State) (r : Response) : (s.respond r).rotation = s.rotation := rfl
@[simp] theorem respond_windows (s : State) (r : Response) : (s.respond r).windows = s.windows := rfl
@[simp] theorem respond_channels (s : State) (r : Response) : (s.respond r).channels = s.channels := rfl
@[simp] theorem respond_headSettings (s : State) (r : Response) : (s.respond r).headSettings = s.headSettings := rfl
@[simp] theorem respond_items (s : State) (r : Response) : (s.respond r).items = s.items := rfl
@[simp] theorem respond_nextMinute (s : State) (r : Response) : (s.respond r).nextMinute = s.nextMinute := rfl
@[simp] theorem respond_rows (s : State) (r : Response) : (s.respond r).rows = s.rows := rfl
@[simp] theorem respond_feeds (s : State) (r : Response) : (s.respond r).feeds = s.feeds := rfl
@[simp] theorem respond_staged (s : State) (r : Response) : (s.respond r).staged = s.staged := rfl
@[simp] theorem respond_load (s : State) (r : Response) : (s.respond r).load = s.load := rfl
@[simp] theorem respond_supply (s : State) (r : Response) : (s.respond r).supply = s.supply := rfl
@[simp] theorem respond_arms (s : State) (r : Response) : (s.respond r).arms = s.arms := rfl
@[simp] theorem respond_glazeSettings (s : State) (r : Response) : (s.respond r).glazeSettings = s.glazeSettings := rfl
@[simp] theorem respond_profiles (s : State) (r : Response) : (s.respond r).profiles = s.profiles := rfl
@[simp] theorem respond_carousel (s : State) (r : Response) : (s.respond r).carousel = s.carousel := rfl
@[simp] theorem respond_tripLatch (s : State) (r : Response) : (s.respond r).tripLatch = s.tripLatch := rfl
@[simp] theorem respond_estop (s : State) (r : Response) : (s.respond r).estop = s.estop := rfl
@[simp] theorem respond_receiver (s : State) (r : Response) : (s.respond r).receiver = s.receiver := rfl
@[simp] theorem respond_buffers (s : State) (r : Response) : (s.respond r).buffers = answer r (s.buffers.any isSending) s.buffers := rfl
@[simp] theorem respond_corrupt (s : State) (r : Response) : (s.respond r).corrupt = s.corrupt := rfl
@[simp] theorem respond_overrun (s : State) (r : Response) : (s.respond r).overrun = s.overrun := rfl
@[simp] theorem respond_fastLink (s : State) (r : Response) : (s.respond r).fastLink = s.fastLink := rfl
@[simp] theorem respond_attnPending (s : State) (r : Response) : (s.respond r).attnPending = s.attnPending := rfl
@[simp] theorem respond_attnMask (s : State) (r : Response) : (s.respond r).attnMask = s.attnMask := rfl
@[simp] theorem respond_startUp (s : State) (r : Response) : (s.respond r).startUp = s.startUp := rfl
@[simp] theorem respond_defaulted (s : State) (r : Response) : (s.respond r).defaulted = s.defaulted := rfl
@[simp] theorem respond_save (s : State) (r : Response) : (s.respond r).save = s.save := rfl
@[simp] theorem respond_eeprom (s : State) (r : Response) : (s.respond r).eeprom = s.eeprom := rfl
@[simp] theorem respond_pending (s : State) (r : Response) : (s.respond r).pending = s.pending := rfl

end Sys2Proof.Machine
end

