-- ==== Sys2Proof/Laws/Frame.lean ====
section
/-! SUPPORT. What the operations that act in several blocks leave alone, said once for each of them. -/

namespace Sys2Proof.Machine

theorem Kept.same (s : State) : Kept s s := by constructor <;> rfl

theorem Kept.then {s t u : State} (a : Kept s t) (b : Kept t u) : Kept s u := by
  constructor
  · exact b.clock.trans a.clock
  · exact b.endpointLevel.trans a.endpointLevel
  · exact b.headSettings.trans a.headSettings
  · exact b.nextMinute.trans a.nextMinute
  · exact b.rows.trans a.rows
  · exact b.staged.trans a.staged
  · exact b.load.trans a.load
  · exact b.glazeSettings.trans a.glazeSettings
  · exact b.profiles.trans a.profiles
  · exact b.estop.trans a.estop
  · exact b.receiver.trans a.receiver
  · exact b.buffers.trans a.buffers
  · exact b.corrupt.trans a.corrupt
  · exact b.overrun.trans a.overrun
  · exact b.fastLink.trans a.fastLink
  · exact b.attnMask.trans a.attnMask
  · exact b.startUp.trans a.startUp
  · exact b.defaulted.trans a.defaulted
  · exact b.save.trans a.save
  · exact b.eeprom.trans a.eeprom
  · exact b.pending.trans a.pending

theorem KeptStation.same (s : State) : KeptStation s s := ⟨Kept.same s, rfl, rfl, rfl, rfl, rfl⟩

theorem KeptStation.then {s t u : State} (a : KeptStation s t) (b : KeptStation t u) : KeptStation s u :=
  ⟨a.outside.then b.outside, b.rotation.trans a.rotation, b.windows.trans a.windows, b.feeds.trans a.feeds,
    b.carousel.trans a.carousel, b.tripLatch.trans a.tripLatch⟩

theorem KeptStation.ite {s t u : State} (c : Prop) [Decidable c] (a : KeptStation s t) (b : KeptStation s u) :
    KeptStation s (if c then t else u) := by
  split
  · exact a
  · exact b

theorem Kept.ite {s t u : State} (c : Prop) [Decidable c] (a : Kept s t) (b : Kept s u) : Kept s (if c then t else u) := by
  split
  · exact a
  · exact b

theorem KeptStation.steady {s t : State} (a : KeptStation s t) : Steady s t := ⟨a.outside, a.carousel, a.tripLatch⟩

theorem Steady.same (s : State) : Steady s s := ⟨Kept.same s, rfl, rfl⟩

theorem Steady.then {s t u : State} (a : Steady s t) (b : Steady t u) : Steady s u :=
  ⟨a.outside.then b.outside, b.carousel.trans a.carousel, b.tripLatch.trans a.tripLatch⟩

theorem Steady.ite {s t u : State} (c : Prop) [Decidable c] (a : Steady s t) (b : Steady s u) :
    Steady s (if c then t else u) := by
  split
  · exact a
  · exact b

/-- What an operation leaves alone that changes no pass record either. -/
structure Served (s t : State) : Prop where
  station : KeptStation s t
  passes : t.passes = s.passes

theorem Served.same (s : State) : Served s s := ⟨.same s, rfl⟩

theorem Served.then {s t u : State} (a : Served s t) (b : Served t u) : Served s u :=
  ⟨a.station.then b.station, b.passes.trans a.passes⟩

theorem Served.ite {s t u : State} (c : Prop) [Decidable c] (a : Served s t) (b : Served s u) :
    Served s (if c then t else u) := by
  split
  · exact a
  · exact b

theorem Served.foldl {α : Type} (f : State → α → State) (h : ∀ t i, Served t (f t i)) (l : List α) :
    ∀ s : State, Served s (l.foldl f s) := by
  induction l with
  | nil => exact Served.same
  | cons i l ih => exact fun s => (h s i).then (ih (f s i))

theorem KeptStation.foldl {α : Type} (f : State → α → State) (h : ∀ t i, KeptStation t (f t i)) (l : List α) :
    ∀ s : State, KeptStation s (l.foldl f s) := by
  induction l with
  | nil => exact KeptStation.same
  | cons i l ih => exact fun s => (h s i).then (ih (f s i))

/-! ### Plain updates -/

theorem Served.raise (s : State) (c : Cause) : Served s (s.raise c) := by
  refine ⟨?_, rfl⟩; constructor <;> first | rfl | (constructor <;> rfl)

theorem KeptStation.raise (s : State) (c : Cause) : KeptStation s (s.raise c) :=
  (Served.raise s c).station

theorem Served.raiseIf (s : State) (b : Bool) (c : Cause) : Served s (s.raiseIf b c) :=
  .ite _ (.raise s c) (.same s)

theorem KeptStation.raiseIf (s : State) (b : Bool) (c : Cause) : KeptStation s (s.raiseIf b c) :=
  (Served.raiseIf s b c).station

theorem KeptStation.setPass (s : State) (i : PassSlot) (r : Option Pass) : KeptStation s (s.setPass i r) := by
  constructor <;> first | rfl | (constructor <;> rfl)

theorem Served.setItem (s : State) (i : ItemSlot) (r : Option Item) : Served s (s.setItem i r) := by
  refine ⟨?_, rfl⟩; constructor <;> first | rfl | (constructor <;> rfl)

theorem KeptStation.setItem (s : State) (i : ItemSlot) (r : Option Item) : KeptStation s (s.setItem i r) :=
  (Served.setItem s i r).station

theorem Served.setChannel (s : State) (h : Head) (c : Chan) (x : Channel) : Served s (s.setChannel h c x) := by
  refine ⟨?_, rfl⟩; constructor <;> first | rfl | (constructor <;> rfl)

theorem KeptStation.setChannel (s : State) (h : Head) (c : Chan) (x : Channel) : KeptStation s (s.setChannel h c x) :=
  (Served.setChannel s h c x).station

theorem Served.updateHead (s : State) (h : Head) (f : Chan → Channel → Channel) : Served s (s.updateHead h f) := by
  refine ⟨?_, rfl⟩; constructor <;> first | rfl | (constructor <;> rfl)

theorem KeptStation.updateHead (s : State) (h : Head) (f : Chan → Channel → Channel) : KeptStation s (s.updateHead h f) :=
  (Served.updateHead s h f).station

theorem Served.setArm (s : State) (p : Platen) (a : Arm) : Served s (s.setArm p a) := by
  refine ⟨?_, rfl⟩; constructor <;> first | rfl | (constructor <;> rfl)

theorem KeptStation.setArm (s : State) (p : Platen) (a : Arm) : KeptStation s (s.setArm p a) :=
  (Served.setArm s p a).station

theorem Served.setSupply (s : State) (p : Platen) (x : PlatenSupply) : Served s (s.setSupply p x) := by
  refine ⟨?_, rfl⟩; constructor <;> first | rfl | (constructor <;> rfl)

theorem KeptStation.setSupply (s : State) (p : Platen) (x : PlatenSupply) : KeptStation s (s.setSupply p x) :=
  (Served.setSupply s p x).station

/-! ### Channels, supply, arms -/

theorem Served.ventHead (s : State) (h : Head) : Served s (s.ventHead h) := .updateHead _ _ _

theorem KeptStation.ventHead (s : State) (h : Head) : KeptStation s (s.ventHead h) :=
  (Served.ventHead s h).station

theorem Served.driveHead (s : State) (h : Head) (st : StepProgram) (c : PerZone Bool) :
    Served s (s.driveHead h st c) := .updateHead _ _ _

theorem KeptStation.driveHead (s : State) (h : Head) (st : StepProgram) (c : PerZone Bool) : KeptStation s (s.driveHead h st c) :=
  (Served.driveHead s h st c).station

theorem Served.steerHead (s : State) (h : Head) (st : StepProgram) (l : LiveProgress) :
    Served s (s.steerHead h st l) := .updateHead _ _ _

theorem KeptStation.steerHead (s : State) (h : Head) (st : StepProgram) (l : LiveProgress) : KeptStation s (s.steerHead h st l) :=
  (Served.steerHead s h st l).station

theorem Served.startDispensing (s : State) (p : Platen) (row : Fin 8) : Served s (s.startDispensing p row) :=
  .setSupply _ _ _

theorem KeptStation.startDispensing (s : State) (p : Platen) (row : Fin 8) : KeptStation s (s.startDispensing p row) :=
  (Served.startDispensing s p row).station

theorem Served.stopDispensing (s : State) (p : Platen) : Served s (s.stopDispensing p) := .setSupply _ _ _

theorem KeptStation.stopDispensing (s : State) (p : Platen) : KeptStation s (s.stopDispensing p) :=
  (Served.stopDispensing s p).station

theorem Served.clearAllDemand (s : State) : Served s s.clearAllDemand := by
  refine ⟨?_, rfl⟩; constructor <;> first | rfl | (constructor <;> rfl)

theorem KeptStation.clearAllDemand (s : State) : KeptStation s s.clearAllDemand :=
  (Served.clearAllDemand s).station

theorem Served.beginSweep (s : State) (p : Platen) : Served s (s.beginSweep p) := .setArm _ _ _

theorem KeptStation.beginSweep (s : State) (p : Platen) : KeptStation s (s.beginSweep p) :=
  (Served.beginSweep s p).station

theorem Served.parkInSitu (s : State) (p : Platen) : Served s (s.parkInSitu p) := .ite _ (.setArm _ _ _) (.same s)

theorem KeptStation.parkInSitu (s : State) (p : Platen) : KeptStation s (s.parkInSitu p) :=
  (Served.parkInSitu s p).station

theorem Served.endInSitu (s : State) (p : Platen) : Served s (s.endInSitu p) := .ite _ (.setArm _ _ _) (.same s)

theorem KeptStation.endInSitu (s : State) (p : Platen) : KeptStation s (s.endInSitu p) :=
  (Served.endInSitu s p).station

theorem Served.startInSitu (s : State) (p : Platen) (q : Fin 4) : Served s (s.startInSitu p q) :=
  (Served.setArm _ _ _).then (.beginSweep _ _)

theorem KeptStation.startInSitu (s : State) (p : Platen) (q : Fin 4) : KeptStation s (s.startInSitu p q) :=
  (Served.startInSitu s p q).station

theorem Served.pauseSweeps (s : State) (p : Platen) : Served s (s.pauseSweeps p) := .ite _ (.setArm _ _ _) (.same s)

theorem KeptStation.pauseSweeps (s : State) (p : Platen) : KeptStation s (s.pauseSweeps p) :=
  (Served.pauseSweeps s p).station

theorem Served.resumeSweeps (s : State) (p : Platen) : Served s (s.resumeSweeps p) :=
  .ite _ (.beginSweep _ _) (.same s)

theorem KeptStation.resumeSweeps (s : State) (p : Platen) : KeptStation s (s.resumeSweeps p) :=
  (Served.resumeSweeps s p).station

/-! ### Records -/

theorem KeptStation.updateLive (s : State) (i : PassSlot) (f : LiveProgress → LiveProgress) :
    KeptStation s (s.updateLive i f) := by
  unfold State.updateLive
  split
  · exact .setPass _ _ _
  · exact .same s

theorem KeptStation.updateLiveOn (s : State) (p : Platen) (f : LiveProgress → LiveProgress) :
    KeptStation s (s.updateLiveOn p f) := by
  unfold State.updateLiveOn
  split
  · exact .updateLive _ _ _
  · exact .same s

theorem KeptStation.closeSupply (s : State) (p : Platen) : KeptStation s (s.closeSupply p) :=
  have h := (KeptStation.setSupply s p (s.supply.get p).close).then
    (.raiseIf _ ((s.supply.get p).close.short && !(s.supply.get p).short) .supply)
  .ite _ (h.then (.updateLiveOn _ _ _)) h

theorem Served.rewriteItem (s : State) (i : ItemSlot) (old new : Item) : Served s (s.rewriteItem i old new) :=
  (Served.setItem _ _ _).then (.raiseIf _ _ _)

theorem KeptStation.rewriteItem (s : State) (i : ItemSlot) (old new : Item) : KeptStation s (s.rewriteItem i old new) :=
  (Served.rewriteItem s i old new).station

theorem Served.addUsageAt (s : State) (i : ItemSlot) (n : Nat) : Served s (s.addUsageAt i n) := by
  unfold State.addUsageAt
  split
  · exact .rewriteItem _ _ _ _
  · exact .same s

theorem KeptStation.addUsageAt (s : State) (i : ItemSlot) (n : Nat) : KeptStation s (s.addUsageAt i n) :=
  (Served.addUsageAt s i n).station

theorem Served.addUsageOf (s : State) (found : Option ItemSlot) (n : Nat) : Served s (s.addUsageOf found n) := by
  unfold State.addUsageOf
  split
  · exact .addUsageAt _ _ _
  · exact .same s

theorem KeptStation.addUsageOf (s : State) (found : Option ItemSlot) (n : Nat) : KeptStation s (s.addUsageOf found n) :=
  (Served.addUsageOf s found n).station

theorem Served.debit (s : State) (f : Feed) (v : Nat) : Served s (s.debit f v).state := by
  unfold State.debit
  split
  · exact .same s
  · split
    · exact .same s
    · split
      · exact .rewriteItem _ _ _ _
      · exact .rewriteItem _ _ _ _

theorem KeptStation.debit (s : State) (f : Feed) (v : Nat) : KeptStation s (s.debit f v).state :=
  (Served.debit s f v).station

/-! ### Start attempts -/

theorem Served.conditionStart (s : State) (st : StepProgram) : Served s (s.conditionStart st) := by
  unfold State.conditionStart
  split
  · exact .startInSitu _ _ _
  · exact .same s
  · exact .same s

theorem KeptStation.conditionStart (s : State) (st : StepProgram) : KeptStation s (s.conditionStart st) :=
  (Served.conditionStart s st).station

theorem KeptStation.startStep (s : State) (i : PassSlot) (r : Pass) (h : Head) (st : StepProgram) :
    KeptStation s (s.startStep i r h st) :=
  ((((KeptStation.setPass _ _ _).then (.driveHead _ _ _ _)).then (.startDispensing _ _ _)).then (.conditionStart _ _)).then
    (.addUsageOf _ _ _)

theorem KeptStation.attempt (s : State) (i : PassSlot) : KeptStation s (s.attempt i) := by
  unfold State.attempt
  split
  · exact .same s
  · split
    · split
      · split
        · exact .setPass _ _ _
        · exact .startStep _ _ _ _ _
      · exact .same s
    · exact .same s

theorem KeptStation.attemptEach (s : State) (reaches : Pass → Bool) : KeptStation s (s.attemptEach reaches) :=
  KeptStation.foldl _ (fun t i => .ite _ (.attempt t i) (.same t)) _ s

theorem KeptStation.attemptAll (s : State) : KeptStation s s.attemptAll := .attemptEach _ _

theorem KeptStation.attemptOver (s : State) (p : Platen) : KeptStation s (s.attemptOver p) := .attemptEach _ _

theorem KeptStation.attemptOn (s : State) (h : Head) : KeptStation s (s.attemptOn h) := .attemptEach _ _

/-! ### Holds -/

theorem Served.suspendService (s : State) (r : Pass) : Served s (s.suspendService r) := by
  unfold State.suspendService
  split
  · exact ((Served.ventHead _ _).then (.stopDispensing _ _)).then (.parkInSitu _ _)
  · exact .same s

theorem KeptStation.suspendService (s : State) (r : Pass) : KeptStation s (s.suspendService r) :=
  (Served.suspendService s r).station

theorem KeptStation.addCause (s : State) (i : PassSlot) (c : HoldCause) : KeptStation s (s.addCause i c) := by
  unfold State.addCause
  split
  · exact .same s
  · split
    · exact (KeptStation.setPass _ _ _).then (.suspendService _ _)
    · exact .setPass _ _ _
    · exact .same s
    · exact .same s
    · exact .same s

theorem KeptStation.addCauseOf (s : State) (found : Option PassSlot) (c : HoldCause) :
    KeptStation s (s.addCauseOf found c) := by
  unfold State.addCauseOf
  split
  · exact .addCause _ _ _
  · exact .same s

theorem KeptStation.supplyLoss (s : State) (f : Feed) : KeptStation s (s.supplyLoss f) :=
  (KeptStation.foldl _ (fun t i => .ite _ (.addCause t i .supply) (.same t)) _ s).then (.raiseIf _ _ _)

theorem KeptStation.supplyLossAt (s : State) (pos : Option Position) : KeptStation s (s.supplyLossAt pos) := by
  unfold State.supplyLossAt
  split
  · exact .supplyLoss _ _
  · exact .same s

theorem KeptStation.supplyLossIf (s : State) (b : Bool) (f : Feed) : KeptStation s (s.supplyLossIf b f) :=
  .ite _ (.supplyLoss _ _) (.same s)

/-! ### Arms with a service -/

theorem KeptStation.endExSitu (s : State) (p : Platen) : KeptStation s (s.endExSitu p) :=
  (KeptStation.setArm _ _ _).then (.attemptOver _ _)

theorem KeptStation.wearStop (s : State) (p : Platen) : KeptStation s (s.wearStop p) := by
  unfold State.wearStop
  split
  · exact .same s
  · exact (KeptStation.setArm _ _ _).then (.updateLiveOn _ _ _)
  · exact .endExSitu _ _

theorem KeptStation.reportWear (s : State) (p : Platen) : KeptStation s (s.reportWear p) := .ite _ (.same s) (.wearStop _ _)

theorem Served.handOff (s : State) (p : Platen) (q : Fin 4) (n : Nat) : Served s (s.handOff p q n) :=
  .ite _ (.same s) (.ite _ (.same s) (.ite _ (.setArm _ _ _) ((Served.setArm _ _ _).then (.beginSweep _ _))))

theorem KeptStation.handOff (s : State) (p : Platen) (q : Fin 4) (n : Nat) : KeptStation s (s.handOff p q n) :=
  (Served.handOff s p q n).station

theorem KeptStation.goOnSweeping (s : State) (p : Platen) : KeptStation s (s.goOnSweeping p) :=
  .ite _ (.wearStop _ _) (.ite _ (.endExSitu _ _) (.beginSweep _ _))

theorem KeptStation.completeSweep (s : State) (p : Platen) : KeptStation s (s.completeSweep p) :=
  ((KeptStation.addUsageOf _ _ _).then (.setArm _ _ _)).then (.goOnSweeping _ _)

theorem KeptStation.dwellExpires (s : State) (p : Platen) : KeptStation s (s.dwellExpires p) :=
  .ite _ (.setArm _ _ _) (.completeSweep _ _)

/-! ### Step end -/

theorem Served.endService (s : State) (h : Head) (st : StepProgram) : Served s (s.endService h st) := by
  have base := (Served.ventHead s h).then (.stopDispensing _ st.platen)
  unfold State.endService
  dsimp only
  split
  · exact base.then (.endInSitu _ _)
  · exact base
  · exact base

theorem KeptStation.endService (s : State) (h : Head) (st : StepProgram) : KeptStation s (s.endService h st) :=
  (Served.endService s h st).station

theorem Served.handOffAfter (s : State) (st : StepProgram) (cause : StepEnd) :
    Served s (s.handOffAfter st cause) := by
  unfold State.handOffAfter
  split
  · exact .ite _ (.same s) (.handOff _ _ _ _)
  · exact .same s
  · exact .same s

theorem KeptStation.handOffAfter (s : State) (st : StepProgram) (cause : StepEnd) : KeptStation s (s.handOffAfter st cause) :=
  (Served.handOffAfter s st cause).station

theorem KeptStation.endStep (s : State) (i : PassSlot) (cause : StepEnd) : KeptStation s (s.endStep i cause) := by
  unfold State.endStep
  split
  · exact .same s
  · split
    · refine .ite _ (KeptStation.then ?_ (.attempt _ _)) ?_
      · exact ((((KeptStation.setPass _ _ _).then (.raise _ _)).then (.raiseIf _ _ _)).then (.endService _ _ _)).then
          (.handOffAfter _ _ _)
      · exact ((((KeptStation.setPass _ _ _).then (.raise _ _)).then (.raiseIf _ _ _)).then (.endService _ _ _)).then
          (.handOffAfter _ _ _)
    · exact .same s

/-! ### Credited revolutions -/

theorem KeptStation.testAndSteer (s : State) (i : PassSlot) (r : Pass) (l : LiveProgress) (st : StepProgram) (h : Head) :
    KeptStation s (s.testAndSteer i r l st h) :=
  .ite _ ((KeptStation.setPass _ _ _).then (.endStep _ _ _)) ((KeptStation.setPass _ _ _).then (.steerHead _ _ _ _))

theorem KeptStation.credit (s : State) (i : PassSlot) (pressures : PerZone Nat) (fsup fgl : Nat) :
    KeptStation s (s.credit i pressures fsup fgl) := by
  unfold State.credit
  split
  · exact .same s
  · split
    · exact .ite _ (.setPass _ _ _)
        (.ite _ (.setPass _ _ _) ((KeptStation.addUsageOf _ _ _).then (.testAndSteer _ _ _ _ _ _)))
    · exact .same s

theorem KeptStation.abort (s : State) (i : PassSlot) (r : Pass) : KeptStation s (s.abort i r) :=
  .ite _ (.endStep _ _ _) ((KeptStation.setPass _ _ _).then (.raise _ _))

theorem KeptStation.amend (s : State) (a : AcceptedAmend) : KeptStation s (s.amend a) :=
  .ite _ ((KeptStation.setPass _ _ _).then (.endStep _ _ _)) (.setPass _ _ _)

/-! ### The hold requests -/

theorem KeptStation.conditionResume (s : State) (st : StepProgram) : KeptStation s (s.conditionResume st) := by
  unfold State.conditionResume
  split
  · exact .ite _ (.ite _ (.wearStop _ _) (.beginSweep _ _)) (.same s)
  · exact .same s
  · exact .same s

theorem KeptStation.resume (s : State) (a : Resume) : KeptStation s (s.resume a) :=
  (((KeptStation.setPass _ _ _).then (.driveHead _ _ _ _)).then (.startDispensing _ _ _)).then (.conditionResume _ _)

/-! ### Items -/

theorem Served.displace (s : State) (kind : ItemKind) (pos : Position) : Served s (s.displace kind pos) := by
  unfold State.displace
  split
  · exact .same s
  · split
    · exact .setItem _ _ _
    · exact .same s

theorem KeptStation.displace (s : State) (kind : ItemKind) (pos : Position) : KeptStation s (s.displace kind pos) :=
  (Served.displace s kind pos).station

theorem KeptStation.mount (s : State) (m : Mount) : KeptStation s (s.mount m) :=
  ((KeptStation.displace _ _ _).then (.setItem _ _ _)).then (.attemptAll _)

theorem KeptStation.dismount (s : State) (j : ItemSlot) (i : Item) : KeptStation s (s.dismount j i) :=
  (KeptStation.setItem _ _ _).then (.supplyLossAt _ _)

theorem KeptStation.reportEmpty (s : State) (old new : Item) : KeptStation s (s.reportEmpty old new) :=
  .ite _ (.supplyLossAt _ _) (.same s)

theorem KeptStation.reportDisk (s : State) (old new : Item) : KeptStation s (s.reportDisk old new) := by
  unfold State.reportDisk
  split
  · exact .ite _ (.reportWear _ _) (.same s)
  · exact .same s

theorem KeptStation.adjust (s : State) (a : AcceptedAdjust) : KeptStation s (s.adjust a) :=
  have h := ((KeptStation.rewriteItem s a.slot a.old a.new).then (.reportEmpty _ a.old a.new)).then
    (.reportDisk _ a.old a.new)
  .ite _ (h.then (.attemptAll _)) h

theorem Served.ageItem (s : State) (j : ItemSlot) : Served s (s.ageItem j) := by
  unfold State.ageItem
  split
  · exact .rewriteItem _ _ _ _
  · exact .same s

theorem KeptStation.ageItem (s : State) (j : ItemSlot) : KeptStation s (s.ageItem j) :=
  (Served.ageItem s j).station

/-! ### Operations that change the RI's state or a feed -/

theorem Steady.setRotation (s : State) (p : Platen) (x : Rotation) : Steady s (s.setRotation p x) := by constructor <;> first | rfl | (constructor <;> rfl)

theorem Steady.setFeed (s : State) (f : Feed) (x : FeedUnit) : Steady s (s.setFeed f x) := by constructor <;> first | rfl | (constructor <;> rfl)

theorem Steady.closeWindows (s : State) (p : Platen) : Steady s (s.closeWindows p) := by constructor <;> first | rfl | (constructor <;> rfl)

theorem Steady.acceptEdge (s : State) (p : Platen) : Steady s (s.acceptEdge p) :=
  (((Steady.setRotation _ _ _).then (.closeWindows _ _)).then (KeptStation.setArm _ _ _).steady).then
    (KeptStation.closeSupply _ _).steady

theorem Steady.writePeriod (s : State) (p : Platen) (period : Word32) : Steady s (s.writePeriod p period) := .setRotation _ _ _

theorem Steady.risingIndexEdge (s : State) (p : Platen) : Steady s (s.risingIndexEdge p) := by
  unfold State.risingIndexEdge
  split
  · exact .same s
  · exact .acceptEdge _ _
  · exact (Steady.writePeriod _ _ _).then (.acceptEdge _ _)
  · exact ((((Steady.writePeriod _ _ _).then (.setRotation _ _ _)).then (.acceptEdge _ _)).then
      (KeptStation.attemptOver _ _).steady).then (KeptStation.resumeSweeps _ _).steady
  · dsimp only
    split
    · exact ((Steady.writePeriod _ _ _).then (.acceptEdge _ _)).then (KeptStation.credit _ _ _ _ _).steady
    · exact (Steady.writePeriod _ _ _).then (.acceptEdge _ _)

theorem Steady.stallSet (s : State) (p : Platen) : Steady s (s.stallSet p) :=
  (((Steady.setRotation _ _ _).then (KeptStation.addCauseOf _ _ _).steady).then (KeptStation.raise _ _).steady).then
    (KeptStation.pauseSweeps _ _).steady

theorem Kept.stopCarousel (s : State) (k : Fin 4) : Kept s (s.stopCarousel k) := by constructor <;> rfl

theorem Kept.loseCarousel (s : State) : Kept s s.loseCarousel := by constructor <;> rfl

theorem Kept.completeIndex (s : State) (code : Fin 4) : Kept s (s.completeIndex code) :=
  (((KeptStation.raiseIf _ _ _).outside).then (.stopCarousel _ _)).then (KeptStation.attemptAll _).outside

theorem Kept.cdoneRises (s : State) (code : Fin 4) : Kept s (s.cdoneRises code) := .ite _ (.completeIndex _ _) (.same s)

theorem KeptStation.holdAll (s : State) : KeptStation s s.holdAll := KeptStation.foldl _ (fun t i => .addCause t i .trip) _ s

theorem Served.ventAll (s : State) : Served s s.ventAll :=
  (((Served.ventHead _ _).then (.ventHead _ _)).then (.ventHead _ _)).then (.ventHead _ _)

theorem KeptStation.ventAll (s : State) : KeptStation s s.ventAll :=
  (Served.ventAll s).station

theorem KeptStation.tripArm (s : State) (p : Platen) : KeptStation s (s.tripArm p) :=
  .ite _ (.endExSitu _ _) (.ite _ (.setArm _ _ _) (.same s))

theorem KeptStation.tripArms (s : State) : KeptStation s s.tripArms :=
  ((KeptStation.tripArm _ _).then (.tripArm _ _)).then (.tripArm _ _)

theorem Kept.tripCarousel (s : State) : Kept s s.tripCarousel := .ite _ (.loseCarousel s) (.same s)

theorem Kept.trip (s : State) : Kept s s.trip :=
  have latched : Kept s ({ s with tripLatch := true }.raise .trip) := by constructor <;> rfl
  ((((latched.then (KeptStation.holdAll _).outside).then (KeptStation.ventAll _).outside).then
    (KeptStation.clearAllDemand _).outside).then (KeptStation.tripArms _).outside).then (.tripCarousel _)

theorem Steady.handSample (s : State) (h : Head) (c : Chan) (pressure : Option Nat) : Steady s (s.handSample h c pressure) := by
  unfold State.handSample
  split
  · constructor <;> first | rfl | (constructor <;> rfl)
  · exact .same s
  · exact .same s

theorem KeptStation.reportFault (s : State) (h : Head) (before after : Bool) : KeptStation s (s.reportFault h before after) :=
  .ite _ ((KeptStation.addCauseOf _ _ _).then (.raise _ _)) (.ite _ (.attemptOn _ _) (.same s))

theorem Steady.sample (s : State) (h : Head) (c : Chan) (code : BitVec 12) : Steady s (s.sample h c code) :=
  (((KeptStation.setChannel _ _ _ _).steady).then (.handSample _ _ _ _)).then (KeptStation.reportFault _ _ _ _).steady

theorem Served.addDemandOn (f : Feed) (s : State) (p : Platen) : Served s (s.addDemandOn f p) := by
  unfold State.addDemandOn
  dsimp only
  split
  · exact .setSupply _ _ _
  · exact .same s

theorem KeptStation.addDemandOn (f : Feed) (s : State) (p : Platen) : KeptStation s (s.addDemandOn f p) :=
  (Served.addDemandOn f s p).station

theorem Served.slotDemand (s : State) (f : Feed) : Served s (s.slotDemand f) :=
  Served.foldl _ (fun t p => .addDemandOn f t p) _ s

theorem KeptStation.slotDemand (s : State) (f : Feed) : KeptStation s (s.slotDemand f) :=
  (Served.slotDemand s f).station

theorem Steady.grant (s : State) (f : Feed) (p : Platen) : Steady s (s.grant f p) :=
  (KeptStation.setSupply _ _ _).steady.then (.setFeed _ _ _)

theorem Steady.grantTo (s : State) (f : Feed) (p : Platen) : Steady s (s.grantTo f p) := by
  unfold State.grantTo
  split
  · exact .grant _ _ _
  · dsimp only
    refine Steady.then ?_ (KeptStation.supplyLossIf _ _ _).steady
    exact .ite _ ((KeptStation.debit _ _ _).steady.then (.grant _ _ _)) (KeptStation.debit _ _ _).steady

theorem Steady.slotGrant (s : State) (f : Feed) : Steady s (s.slotGrant f) := by
  unfold State.slotGrant
  split
  · exact .same s
  · dsimp only
    split
    · exact (KeptStation.slotDemand _ _).steady.then (.grantTo _ _ _)
    · exact (KeptStation.slotDemand _ _).steady

end Sys2Proof.Machine
end

