-- ==== Sys2Proof/Laws/Serve.lean ====
section
/-! SUPPORT. Everything the taking of a request can do. -/

namespace Sys2Proof.Machine

/-- With no request to take, nothing is taken. -/
theorem serve_none {α : Type} {s : State} {name : RequestName} {rule : Handler α} (h : takeable s.buffers = none) :
    s.serve name rule = s := by
  unfold State.serve
  rw [h]

/-- A request of another code is not taken. -/
theorem serve_other {α : Type} {s : State} {name : RequestName} {rule : Handler α} {req : Request}
    (h : takeable s.buffers = some req) (c : RequestName.ofCode req.code.toNat ≠ some name) : s.serve name rule = s := by
  unfold State.serve
  rw [h]
  simp [c]

/-- A request taken while LOADING is answered NOT_READY and changes nothing else (R173). -/
theorem serve_loading {α : Type} {s : State} {name : RequestName} {rule : Handler α} {req : Request}
    (h : takeable s.buffers = some req) (c : RequestName.ofCode req.code.toNat = some name) (l : s.startUp = .loading) :
    s.serve name rule = s.respond ⟨req.tag, .notReady, []⟩ := by
  unfold State.serve
  rw [h]
  simp [c, l]

/-- A request that fails a check is answered its status and changes nothing else (R173). -/
theorem serve_error {α : Type} {s : State} {name : RequestName} {rule : Handler α} {req : Request} {e : Status}
    (h : takeable s.buffers = some req) (c : RequestName.ofCode req.code.toNat = some name) (l : s.startUp = .ready)
    (k : rule.check req.payload s = .error e) : s.serve name rule = s.respond ⟨req.tag, e, []⟩ := by
  unfold State.serve
  rw [h]
  simp [c, l, k]

/-- A request that passes its checks acts and is answered OK (R171, R173). -/
theorem serve_ok {α : Type} {s : State} {name : RequestName} {rule : Handler α} {req : Request} {a : α}
    (h : takeable s.buffers = some req) (c : RequestName.ofCode req.code.toNat = some name) (l : s.startUp = .ready)
    (k : rule.check req.payload s = .ok a) :
    s.serve name rule = (rule.act a s).1.respond ⟨req.tag, .ok, (rule.act a s).2⟩ := by
  unfold State.serve
  rw [h]
  simp [c, l, k]

/-- What holds of the state, is kept by a response and is kept by an accepted request's action holds after the taking of the
request. -/
theorem serve_keeps {α : Type} {P : State → Prop} (s : State) (name : RequestName) (rule : Handler α) (base : P s)
    (resp : ∀ t r, P t → P (t.respond r)) (act : ∀ payload a, rule.check payload s = .ok a → P (rule.act a s).1) :
    P (s.serve name rule) := by
  unfold State.serve
  split
  · exact base
  · rename_i req _
    split
    · split
      · exact resp _ _ base
      · cases e : rule.check req.payload s with
        | error status => exact resp _ _ base
        | ok a => exact resp _ _ (act req.payload a e)
    · exact base

/-- The same for a request of no known code. -/
theorem serveUnknown_keeps {P : State → Prop} (s : State) (base : P s) (resp : ∀ t r, P t → P (t.respond r)) :
    P s.serveUnknown := by
  unfold State.serveUnknown
  split
  · exact base
  · split
    · exact resp _ _ base
    · exact base

end Sys2Proof.Machine
end

