-- ==== Sys2Proof/Laws/Step.lean ====
section
/-! SUPPORT. What a command leaves alone of the queue, the store and the carousel, command by command. -/

namespace Sys2Proof.Machine

/-- A next state is one state. -/
theorem next_inj {s t : State} (h : (Host.Outcome.next s : Host.Outcome State Fault Refusal) = .next t) : t = s := by
  cases h
  rfl

/-- Every command answers a next state. -/
theorem exec_next (c : Instr) (s : State) : ∃ t, exec c s = .next t := by
  cases c <;> exact ⟨_, rfl⟩

/-- A step runs the command at the front of the queue. -/
theorem step_cons (c : Instr) (s : State) (rest : List Instr) :
    step { s with pending := c :: rest } = exec c { s with pending := rest } := rfl

/-- The queue, the store, the carousel and the trip latch are left alone. -/
structure Quiet (s t : State) : Prop where
  pending : t.pending = s.pending
  eeprom : t.eeprom = s.eeprom
  save : t.save = s.save
  carousel : t.carousel = s.carousel
  tripLatch : t.tripLatch = s.tripLatch

theorem Quiet.same (s : State) : Quiet s s := ⟨rfl, rfl, rfl, rfl, rfl⟩

theorem Quiet.then {s t u : State} (a : Quiet s t) (b : Quiet t u) : Quiet s u :=
  ⟨b.pending.trans a.pending, b.eeprom.trans a.eeprom, b.save.trans a.save, b.carousel.trans a.carousel,
    b.tripLatch.trans a.tripLatch⟩

theorem Quiet.ite {s t u : State} (c : Prop) [Decidable c] (a : Quiet s t) (b : Quiet s u) : Quiet s (if c then t else u) := by
  split
  · exact a
  · exact b

theorem Steady.quiet {s t : State} (a : Steady s t) : Quiet s t :=
  ⟨a.outside.pending, a.outside.eeprom, a.outside.save, a.carousel, a.tripLatch⟩

theorem Quiet.elapse (s : State) (dt : Nat) : Quiet s (s.elapse dt) := ⟨rfl, rfl, rfl, rfl, rfl⟩

theorem Quiet.runTo (s : State) (moment : Nat) : Quiet s (s.runTo moment) := ⟨rfl, rfl, rfl, rfl, rfl⟩

/-- The taking of a request is quiet when its action is. -/
theorem quiet_serve {α : Type} (s : State) (dt : Nat) (name : RequestName) (rule : Handler α)
    (act : ∀ payload a, rule.check payload (s.elapse dt) = .ok a → Quiet (s.elapse dt) (rule.act a (s.elapse dt)).1) :
    Quiet s ((s.elapse dt).serve name rule) :=
  (Quiet.elapse s dt).then
    (serve_keeps (P := Quiet (s.elapse dt)) _ name rule (.same _) (fun _ _ h => h.then ⟨rfl, rfl, rfl, rfl, rfl⟩) act)

theorem quiet_advancePointer (s : State) (f : Feed) : Quiet s (s.advancePointer f) := by
  unfold State.advancePointer
  dsimp only
  split
  · unfold State.takeTable
    split
    · constructor <;> rfl
    · split <;> constructor <;> rfl
  · constructor <;> rfl

theorem quiet_beginSlot (s : State) (f : Feed) : Quiet s (s.beginSlot f) := by constructor <;> rfl

theorem quiet_runStepTimer (s : State) (h : Head) (units : LiveProgress → StepProgram → Nat) :
    Quiet s (s.runStepTimer h units) := by
  unfold State.runStepTimer
  split
  · exact .same s
  · split
    · exact .same s
    · split
      · unfold State.advanceTimer
        exact .ite _
          (((Quiet.runTo _ _).then (KeptStation.setPass _ _ _).steady.quiet).then (KeptStation.endStep _ _ _).steady.quiet)
          ((Quiet.runTo _ _).then (KeptStation.setPass _ _ _).steady.quiet)
      · exact .same s

theorem quiet_endpointRises (s : State) (p : Platen) : Quiet s (s.endpointRises p) := by
  unfold State.endpointRises
  split
  · exact .same s
  · exact .ite _ (KeptStation.endStep _ _ _).steady.quiet (.same s)

theorem quiet_receive (s : State) (ch : LinkChar) : Quiet s (s.receive ch) := by
  unfold State.receive
  split
  · constructor <;> rfl
  · dsimp only
    split
    · constructor <;> rfl
    · split
      · constructor <;> rfl
      · split
        · unfold State.judgeFrame
          split
          · unfold State.storeRequest
            split <;> constructor <;> rfl
          · constructor <;> rfl
        · constructor <;> rfl

theorem quiet_receiveBreak (s : State) : Quiet s s.receiveBreak := by
  unfold State.receiveBreak
  dsimp only
  split
  · constructor <;> rfl
  · split <;> constructor <;> rfl

theorem quiet_idleEnds (s : State) (bytes : List Byte) : Quiet s (s.idleEnds bytes) := by
  unfold State.idleEnds
  split <;> constructor <;> rfl

theorem quiet_setEndpointLevel (s : State) (p : Platen) (level : Bool) : Quiet s (s.setEndpointLevel p level) := by
  constructor <;> rfl

theorem quiet_nextMinute (s : State) (moment next : Nat) : Quiet s { s.runTo moment with nextMinute := next } := by
  constructor <;> rfl

theorem quiet_endLoad (s : State) (nack : Option Nat) : Quiet s (s.endLoad nack) := by
  unfold State.endLoad
  split <;> constructor <;> rfl

theorem quiet_status (dt : Nat) (s t : State) (h : exec (.status dt) s = .next t) : Quiet s t := by
  rw [next_inj h]
  exact quiet_serve _ _ _ _ fun _ _ _ => .same _

theorem quiet_identify (dt : Nat) (s t : State) (h : exec (.identify dt) s = .next t) : Quiet s t := by
  rw [next_inj h]
  exact quiet_serve _ _ _ _ fun _ _ _ => .same _

theorem quiet_attnAck (dt : Nat) (s t : State) (h : exec (.attnAck dt) s = .next t) : Quiet s t := by
  rw [next_inj h]
  exact quiet_serve _ _ _ _ fun _ _ _ => by
    dsimp only [attnAckRule, State.acknowledge]
    split <;> constructor <;> rfl

theorem quiet_attnMask (dt : Nat) (s t : State) (h : exec (.attnMask dt) s = .next t) : Quiet s t := by
  rw [next_inj h]
  exact quiet_serve _ _ _ _ fun _ _ _ => by constructor <;> rfl

theorem quiet_restart (dt : Nat) (s t : State) (h : exec (.restart dt) s = .next t) : Quiet s t := by
  rw [next_inj h]
  exact quiet_serve _ _ _ _ fun _ _ _ => by constructor <;> rfl

theorem quiet_passCreate (dt : Nat) (s t : State) (h : exec (.passCreate dt) s = .next t) : Quiet s t := by
  rw [next_inj h]
  refine quiet_serve _ _ _ _ fun _ _ _ => ?_
  dsimp only [passCreateRule]
  exact Steady.quiet (KeptStation.steady (.setPass _ _ _))

theorem quiet_passLookup (dt : Nat) (s t : State) (h : exec (.passLookup dt) s = .next t) : Quiet s t := by
  rw [next_inj h]
  exact quiet_serve _ _ _ _ fun _ _ _ => .same _

theorem quiet_passList (dt : Nat) (s t : State) (h : exec (.passList dt) s = .next t) : Quiet s t := by
  rw [next_inj h]
  exact quiet_serve _ _ _ _ fun _ _ _ => .same _

theorem quiet_passBind (dt : Nat) (s t : State) (h : exec (.passBind dt) s = .next t) : Quiet s t := by
  rw [next_inj h]
  refine quiet_serve _ _ _ _ fun _ _ _ => ?_
  dsimp only [passBindRule]
  exact Steady.quiet (KeptStation.steady (.setPass _ _ _))

theorem quiet_passAmend (dt : Nat) (s t : State) (h : exec (.passAmend dt) s = .next t) : Quiet s t := by
  rw [next_inj h]
  refine quiet_serve _ _ _ _ fun _ _ _ => ?_
  dsimp only [passAmendRule]
  exact Steady.quiet (KeptStation.steady (.amend _ _))

theorem quiet_passAbort (dt : Nat) (s t : State) (h : exec (.passAbort dt) s = .next t) : Quiet s t := by
  rw [next_inj h]
  refine quiet_serve _ _ _ _ fun _ _ _ => ?_
  dsimp only [passAbortRule]
  exact Steady.quiet (KeptStation.steady (.abort _ _ _))

theorem quiet_passRetire (dt : Nat) (s t : State) (h : exec (.passRetire dt) s = .next t) : Quiet s t := by
  rw [next_inj h]
  refine quiet_serve _ _ _ _ fun _ _ _ => ?_
  dsimp only [passRetireRule]
  exact Steady.quiet (KeptStation.steady (.setPass _ _ _))

theorem quiet_passHold (dt : Nat) (s t : State) (h : exec (.passHold dt) s = .next t) : Quiet s t := by
  rw [next_inj h]
  refine quiet_serve _ _ _ _ fun _ _ _ => ?_
  dsimp only [passHoldRule]
  exact Steady.quiet (KeptStation.steady (.addCause _ _ _))

theorem quiet_passResume (dt : Nat) (s t : State) (h : exec (.passResume dt) s = .next t) : Quiet s t := by
  rw [next_inj h]
  refine quiet_serve _ _ _ _ fun _ _ _ => ?_
  dsimp only [passResumeRule]
  exact Steady.quiet (KeptStation.steady (.resume _ _))

/-- TRIP-CLEAR leaves the queue, the store and the carousel alone. -/
theorem tripClear_leaves (dt : Nat) (s t : State) (h : exec (.tripClear dt) s = .next t) :
    t.pending = s.pending ∧ t.eeprom = s.eeprom ∧ t.save = s.save ∧ t.carousel = s.carousel := by
  rw [next_inj h]
  refine serve_keeps (P := fun u => u.pending = s.pending ∧ u.eeprom = s.eeprom ∧ u.save = s.save ∧ u.carousel = s.carousel)
    _ _ _ ⟨rfl, rfl, rfl, rfl⟩ (fun _ _ x => x) fun _ _ _ => ?_
  dsimp only [tripClearRule]
  split
  · have a := (KeptStation.attemptAll { s.elapse dt with tripLatch := false }).steady
    exact ⟨a.outside.pending, a.outside.eeprom, a.outside.save, a.carousel⟩
  · exact ⟨rfl, rfl, rfl, rfl⟩

theorem quiet_itemRegister (dt : Nat) (s t : State) (h : exec (.itemRegister dt) s = .next t) : Quiet s t := by
  rw [next_inj h]
  refine quiet_serve _ _ _ _ fun _ _ _ => ?_
  dsimp only [itemRegisterRule]
  exact Steady.quiet (KeptStation.steady ((KeptStation.setItem _ _ _).then (.raiseIf _ _ _)))

theorem quiet_itemLookup (dt : Nat) (s t : State) (h : exec (.itemLookup dt) s = .next t) : Quiet s t := by
  rw [next_inj h]
  exact quiet_serve _ _ _ _ fun _ _ _ => .same _

theorem quiet_itemList (dt : Nat) (s t : State) (h : exec (.itemList dt) s = .next t) : Quiet s t := by
  rw [next_inj h]
  exact quiet_serve _ _ _ _ fun _ _ _ => .same _

theorem quiet_itemMount (dt : Nat) (s t : State) (h : exec (.itemMount dt) s = .next t) : Quiet s t := by
  rw [next_inj h]
  refine quiet_serve _ _ _ _ fun _ _ _ => ?_
  dsimp only [itemMountRule]
  exact Steady.quiet (KeptStation.steady (.mount _ _))

theorem quiet_itemDismount (dt : Nat) (s t : State) (h : exec (.itemDismount dt) s = .next t) : Quiet s t := by
  rw [next_inj h]
  refine quiet_serve _ _ _ _ fun _ _ _ => ?_
  dsimp only [itemDismountRule]
  exact Steady.quiet (KeptStation.steady (.dismount _ _ _))

theorem quiet_itemAdjust (dt : Nat) (s t : State) (h : exec (.itemAdjust dt) s = .next t) : Quiet s t := by
  rw [next_inj h]
  refine quiet_serve _ _ _ _ fun _ _ _ => ?_
  dsimp only [itemAdjustRule]
  exact Steady.quiet (KeptStation.steady (.adjust _ _))

theorem quiet_itemRetire (dt : Nat) (s t : State) (h : exec (.itemRetire dt) s = .next t) : Quiet s t := by
  rw [next_inj h]
  refine quiet_serve _ _ _ _ fun _ _ _ => ?_
  dsimp only [itemRetireRule]
  exact Steady.quiet (KeptStation.steady (.setItem _ _ _))

theorem quiet_headWrite (dt : Nat) (s t : State) (h : exec (.headWrite dt) s = .next t) : Quiet s t := by
  rw [next_inj h]
  exact quiet_serve _ _ _ _ fun _ _ _ => by constructor <;> rfl

theorem quiet_headRead (dt : Nat) (s t : State) (h : exec (.headRead dt) s = .next t) : Quiet s t := by
  rw [next_inj h]
  exact quiet_serve _ _ _ _ fun _ _ _ => .same _

theorem quiet_blendWrite (dt : Nat) (s t : State) (h : exec (.blendWrite dt) s = .next t) : Quiet s t := by
  rw [next_inj h]
  exact quiet_serve _ _ _ _ fun _ _ _ => by constructor <;> rfl

theorem quiet_feedWrite (dt : Nat) (s t : State) (h : exec (.feedWrite dt) s = .next t) : Quiet s t := by
  rw [next_inj h]
  exact quiet_serve _ _ _ _ fun _ _ _ => .ite _ (.same _) (by constructor <;> rfl)

theorem quiet_phaseWrite (dt : Nat) (s t : State) (h : exec (.phaseWrite dt) s = .next t) : Quiet s t := by
  rw [next_inj h]
  exact quiet_serve _ _ _ _ fun _ _ _ => by constructor <;> rfl

theorem quiet_phaseLoad (dt : Nat) (s t : State) (h : exec (.phaseLoad dt) s = .next t) : Quiet s t := by
  rw [next_inj h]
  exact quiet_serve _ _ _ _ fun _ _ _ => by constructor <;> rfl

theorem quiet_slurryRead (dt : Nat) (s t : State) (h : exec (.slurryRead dt) s = .next t) : Quiet s t := by
  rw [next_inj h]
  exact quiet_serve _ _ _ _ fun _ _ _ => .same _

theorem quiet_profileWrite (dt : Nat) (s t : State) (h : exec (.profileWrite dt) s = .next t) : Quiet s t := by
  rw [next_inj h]
  exact quiet_serve _ _ _ _ fun _ _ _ => by constructor <;> rfl

theorem quiet_platenWrite (dt : Nat) (s t : State) (h : exec (.platenWrite dt) s = .next t) : Quiet s t := by
  rw [next_inj h]
  exact quiet_serve _ _ _ _ fun _ _ _ => by constructor <;> rfl

theorem quiet_conditioningRead (dt : Nat) (s t : State) (h : exec (.conditioningRead dt) s = .next t) : Quiet s t := by
  rw [next_inj h]
  exact quiet_serve _ _ _ _ fun _ _ _ => .same _

theorem quiet_settingsLoad (dt : Nat) (nack : Option Nat) (s t : State) (h : exec (.settingsLoad dt nack) s = .next t) : Quiet s t := by
  rw [next_inj h]
  exact .ite _ ((Quiet.elapse _ _).then (quiet_endLoad _ _)) (.elapse _ _)

theorem quiet_lineBreak (dt : Nat) (lowBits : Nat) (s t : State) (h : exec (.lineBreak dt lowBits) s = .next t) : Quiet s t := by
  rw [next_inj h]
  exact .ite _ ((Quiet.elapse _ _).then (quiet_receiveBreak _)) (.elapse _ _)

theorem quiet_strayByte (dt : Nat) (ch : LinkChar) (s t : State) (h : exec (.strayByte dt ch) s = .next t) : Quiet s t := by
  rw [next_inj h]
  exact (Quiet.elapse _ _).then (quiet_receive _ _)

theorem quiet_idleLimit (s t : State) (h : exec (.idleLimit) s = .next t) : Quiet s t := by
  rw [next_inj h]
  split
  · exact .same _
  · exact (Quiet.runTo _ _).then (quiet_idleEnds _ _)

theorem quiet_frameComplete (dt : Nat) (ch : LinkChar) (s t : State) (h : exec (.frameComplete dt ch) s = .next t) : Quiet s t := by
  rw [next_inj h]
  exact (Quiet.elapse _ _).then (quiet_receive _ _)

theorem quiet_responseStart (dt : Nat) (s t : State) (h : exec (.responseStart dt) s = .next t) : Quiet s t := by
  rw [next_inj h]
  exact .ite _ (.elapse _ _) (by constructor <;> rfl)

theorem quiet_responseEnd (dt : Nat) (s t : State) (h : exec (.responseEnd dt) s = .next t) : Quiet s t := by
  rw [next_inj h]
  constructor <;> rfl

theorem quiet_unknown (dt : Nat) (s t : State) (h : exec (.unknown dt) s = .next t) : Quiet s t := by
  rw [next_inj h]
  exact (Quiet.elapse _ _).then (serveUnknown_keeps (P := Quiet _) _ (.same _) fun t r a => a.then (by constructor <;> rfl))

theorem quiet_estopRelease (dt : Nat) (s t : State) (h : exec (.estopRelease dt) s = .next t) : Quiet s t := by
  rw [next_inj h]
  constructor <;> rfl

theorem quiet_polishTimeAdvance (h : Head) (s t : State) (h : exec (.polishTimeAdvance h) s = .next t) : Quiet s t := by
  rw [next_inj h]
  exact quiet_runStepTimer _ _ _

theorem quiet_stepTimerExpiry (h : Head) (s t : State) (h : exec (.stepTimerExpiry h) s = .next t) : Quiet s t := by
  rw [next_inj h]
  exact quiet_runStepTimer _ _ _

theorem quiet_endpointEdge (dt : Nat) (p : Platen) (s t : State) (h : exec (.endpointEdge dt p) s = .next t) : Quiet s t := by
  rw [next_inj h]
  exact .ite _ (.elapse _ _) (((Quiet.elapse _ _).then (quiet_setEndpointLevel _ _ _)).then (quiet_endpointRises _ _))

theorem quiet_platenIndexEdge (dt : Nat) (p : Platen) (s t : State) (h : exec (.platenIndexEdge dt p) s = .next t) : Quiet s t := by
  rw [next_inj h]
  exact .ite _ (.elapse _ _) (((Quiet.elapse _ _).then (Steady.setRotation _ _ _).quiet).then (Steady.risingIndexEdge _ _).quiet)

theorem quiet_stallTimerExpiry (p : Platen) (s t : State) (h : exec (.stallTimerExpiry p) s = .next t) : Quiet s t := by
  rw [next_inj h]
  split
  · exact .same _
  · exact (Quiet.runTo _ _).then (Steady.stallSet _ _).quiet

theorem quiet_pressureSample (h : Head) (c : Chan) (code : BitVec 12) (s t : State) (h : exec (.pressureSample h c code) s = .next t) : Quiet s t := by
  rw [next_inj h]
  exact (Quiet.runTo _ _).then (Steady.sample _ _ _ _).quiet

theorem quiet_valvePeriodStart (h : Head) (c : Chan) (s t : State) (h : exec (.valvePeriodStart h c) s = .next t) : Quiet s t := by
  rw [next_inj h]
  constructor <;> rfl

theorem quiet_delayedPulseStart (h : Head) (c : Chan) (s t : State) (h : exec (.delayedPulseStart h c) s = .next t) : Quiet s t := by
  rw [next_inj h]
  split
  · exact .same _
  · constructor <;> rfl

theorem quiet_pulseEnd (h : Head) (c : Chan) (s t : State) (h : exec (.pulseEnd h c) s = .next t) : Quiet s t := by
  rw [next_inj h]
  split
  · exact .same _
  · constructor <;> rfl

theorem quiet_ventOpen (h : Head) (c : Chan) (s t : State) (h : exec (.ventOpen h c) s = .next t) : Quiet s t := by
  rw [next_inj h]
  dsimp only
  split
  · constructor <;> rfl
  · exact .same _

theorem quiet_strokeSlot (f : Feed) (s t : State) (h : exec (.strokeSlot f) s = .next t) : Quiet s t := by
  rw [next_inj h]
  exact .ite _ (quiet_beginSlot _ _) (((quiet_beginSlot _ _).then (Steady.slotGrant _ _).quiet).then (quiet_advancePointer _ _))

theorem quiet_pumpPulseEnd (dt : Nat) (f : Feed) (s t : State) (h : exec (.pumpPulseEnd dt f) s = .next t) : Quiet s t := by
  rw [next_inj h]
  constructor <;> rfl

theorem quiet_minuteTick (s t : State) (h : exec (.minuteTick) s = .next t) : Quiet s t := by
  rw [next_inj h]
  exact (quiet_nextMinute s s.nextMinute _).then
    (Steady.quiet (KeptStation.steady (KeptStation.foldl State.ageItem KeptStation.ageItem itemSlots _)))

theorem quiet_dwellExpiry (p : Platen) (s t : State) (h : exec (.dwellExpiry p) s = .next t) : Quiet s t := by
  rw [next_inj h]
  split
  · exact .same _
  · exact (Quiet.runTo _ _).then (KeptStation.dwellExpires _ _).steady.quiet

theorem quiet_byteArrivesReceiving (dt : Nat) (ch : LinkChar) (s t : State) (h : exec (.byteArrivesReceiving dt ch) s = .next t) : Quiet s t := by
  rw [next_inj h]
  exact (Quiet.elapse _ _).then (quiet_receive _ _)

theorem quiet_indexFallingEdge (dt : Nat) (p : Platen) (s t : State) (h : exec (.indexFallingEdge dt p) s = .next t) : Quiet s t := by
  rw [next_inj h]
  exact (Quiet.elapse _ _).then (Steady.setRotation _ _ _).quiet

theorem quiet_endpointFallingEdge (dt : Nat) (p : Platen) (s t : State) (h : exec (.endpointFallingEdge dt p) s = .next t) : Quiet s t := by
  rw [next_inj h]
  constructor <;> rfl

end Sys2Proof.Machine
end

