-- ==== Sys2Proof/Laws/Passes.lean ====
section
/-! SUPPORT. A property of every pass record, and the operations that keep it: each case of a record's life is asked once. -/

namespace Sys2Proof.Machine

/-- A property of every live record. -/
def AllPass (Q : PassSlot → Pass → Prop) (s : State) : Prop := ∀ i r, s.pass i = some r → Q i r

/-- A property of records that every change the station makes to a record keeps. `k` is the carousel offset; `free` is what
a start needs of the station. -/
structure Closed (k : Fin 4) (free : Prop) (Q : PassSlot → Pass → Prop) : Prop where
  block : ∀ i r b, Q i r → r.state = .waiting → Q i { r with startBlock := some b }
  start : ∀ i r p l, free → Q i r → r.state = .waiting → r.seat k = some p →
    Q i { r with state := .polishing, startBlock := none, live := some l }
  hold : ∀ i r moment c, Q i r → r.state = .polishing →
    Q i { r.freezeTimer moment with state := .held, holds := HoldSet.empty.add c }
  addHold : ∀ i r c, Q i r → r.state = .held → Q i { r with holds := r.holds.add c }
  live : ∀ i r f, Q i r → Q i { r with live := r.live.map f }
  close : ∀ i r l cause, Q i r → r.live = some l → Q i (r.closeStep l cause)

/-- What is wanted of a station besides a property of its records: that every channel is well-formed, that dwell timers run
only on sweeping arms, that every arm is PARKED with no EX_SITU service. -/
structure Wanted where
  channels : Prop
  dwells : Prop
  parked : Prop
  needs : parked → dwells

/-- Nothing more is wanted. -/
def Wanted.nothing : Wanted := ⟨False, False, False, False.elim⟩

/-- The property holds of every record, at an offset and under what a start needs, and what else is wanted holds. -/
structure Records (k : Fin 4) (free : Prop) (L : Wanted) (Q : PassSlot → Pass → Prop) (s : State) : Prop where
  all : AllPass Q s
  offset : s.carousel.k = k
  starts : s.tripLatch = false → s.carousel.state = .stopped → free
  latched : s.tripLatch = false → ¬L.parked
  channels : L.channels → s.channelsWf
  dwells : L.dwells → s.dwellsWf
  parked : L.parked → ∀ p, (s.arms.get p).sweeping = false ∧ (s.arms.get p).service.isExSitu = false

variable {k : Fin 4} {free : Prop} {L : Wanted} {Q : PassSlot → Pass → Prop}

/-- Operations that leave the records, the channels, the arms, the carousel and the trip latch alone. -/
theorem Records.steady {s t : State} (h : Records k free L Q s) (e : t.passes = s.passes) (c : t.channels = s.channels)
    (a : t.arms = s.arms) (cs : t.carousel = s.carousel) (l : t.tripLatch = s.tripLatch) : Records k free L Q t := by
  refine ⟨?_, ?_, ?_, ?_, ?_, ?_, ?_⟩
  · intro i r hr
    refine h.all i r ?_
    unfold State.pass at hr ⊢
    rwa [e] at hr
  · rw [cs]
    exact h.offset
  · rw [l, cs]
    exact h.starts
  · rw [l]
    exact h.latched
  · intro want hd ch
    have := h.channels want hd ch
    unfold State.channel at this ⊢
    rwa [c]
  · intro want p
    rw [a]
    exact h.dwells want p
  · rw [a]
    exact h.parked

/-- What an operation that changes no record, no channel and no arm keeps. -/
structure Plain (s t : State) : Prop where
  served : Served s t
  channels : t.channels = s.channels
  arms : t.arms = s.arms

theorem Plain.same (s : State) : Plain s s := ⟨.same s, rfl, rfl⟩

theorem Plain.then {s t u : State} (a : Plain s t) (b : Plain t u) : Plain s u :=
  ⟨a.served.then b.served, b.channels.trans a.channels, b.arms.trans a.arms⟩

theorem Plain.ite {s t u : State} (c : Prop) [Decidable c] (a : Plain s t) (b : Plain s u) :
    Plain s (if c then t else u) := by
  split
  · exact a
  · exact b

theorem Plain.foldl {α : Type} (f : State → α → State) (h : ∀ t i, Plain t (f t i)) (l : List α) :
    ∀ s : State, Plain s (l.foldl f s) := by
  induction l with
  | nil => exact Plain.same
  | cons i l ih => exact fun s => (h s i).then (ih (f s i))

theorem Plain.raise (s : State) (c : Cause) : Plain s (s.raise c) := ⟨.raise s c, rfl, rfl⟩

theorem Plain.raiseIf (s : State) (b : Bool) (c : Cause) : Plain s (s.raiseIf b c) := .ite _ (.raise s c) (.same s)

theorem Plain.setItem (s : State) (i : ItemSlot) (r : Option Item) : Plain s (s.setItem i r) := ⟨.setItem s i r, rfl, rfl⟩

theorem Plain.setSupply (s : State) (p : Platen) (x : PlatenSupply) : Plain s (s.setSupply p x) := ⟨.setSupply s p x, rfl, rfl⟩

theorem Plain.clearAllDemand (s : State) : Plain s s.clearAllDemand := ⟨.clearAllDemand s, rfl, rfl⟩

theorem Plain.rewriteItem (s : State) (i : ItemSlot) (old new : Item) : Plain s (s.rewriteItem i old new) :=
  (Plain.setItem _ _ _).then (.raiseIf _ _ _)

theorem Plain.addUsageAt (s : State) (i : ItemSlot) (n : Nat) : Plain s (s.addUsageAt i n) := by
  unfold State.addUsageAt
  split
  · exact .rewriteItem _ _ _ _
  · exact .same s

theorem Plain.addUsageOf (s : State) (found : Option ItemSlot) (n : Nat) : Plain s (s.addUsageOf found n) := by
  unfold State.addUsageOf
  split
  · exact .addUsageAt _ _ _
  · exact .same s

theorem Plain.debit (s : State) (f : Feed) (v : Nat) : Plain s (s.debit f v).state := by
  unfold State.debit
  split
  · exact .same s
  · split
    · exact .same s
    · split
      · exact .rewriteItem _ _ _ _
      · exact .rewriteItem _ _ _ _

theorem Plain.displace (s : State) (kind : ItemKind) (pos : Position) : Plain s (s.displace kind pos) := by
  unfold State.displace
  split
  · exact .same s
  · split
    · exact .setItem _ _ _
    · exact .same s

theorem Plain.ageItem (s : State) (j : ItemSlot) : Plain s (s.ageItem j) := by
  unfold State.ageItem
  split
  · exact .rewriteItem _ _ _ _
  · exact .same s

theorem Plain.addDemandOn (f : Feed) (s : State) (p : Platen) : Plain s (s.addDemandOn f p) := by
  unfold State.addDemandOn
  dsimp only
  split
  · exact .setSupply _ _ _
  · exact .same s

theorem Plain.slotDemand (s : State) (f : Feed) : Plain s (s.slotDemand f) := Plain.foldl _ (fun t p => .addDemandOn f t p) _ s

theorem Records.plain {s t : State} (h : Records k free L Q s) (e : Plain s t) : Records k free L Q t :=
  h.steady e.served.passes e.channels e.arms e.served.station.carousel e.served.station.tripLatch

/-! ### Channels -/

/-- A valve that was shut is closed. -/
@[simp] theorem Valve.shut_isOpen (now : Nat) (v : Valve) : (v.shut now).isOpen = false := by
  unfold Valve.shut
  cases h : v.isOpen <;> simp [h]

theorem Channel.wf_endPulse {c : Channel} (now : Nat) (h : c.wf = true) : (c.endPulse now).wf = true := by
  cases c with
  | mk mode setpoint latest fault runCount fill vent pulse nextSample nextPeriod =>
    cases mode <;> cases pulse with
    | none => exact h
    | some p =>
      cases p with
      | mk valve width start stop =>
        cases valve <;> simp_all [Channel.wf, Channel.endPulse, Channel.pulsesOn, Channel.setValve, Channel.valve]

theorem Channel.wf_openVentIfRested {c : Channel} (now d : Nat) (h : c.wf = true) : (c.openVentIfRested now d).wf = true := by
  unfold Channel.openVentIfRested
  split
  · rename_i e
    simp_all [Channel.wf]
  · exact h

theorem Channel.wf_enterVent {c : Channel} (now d : Nat) (h : c.wf = true) : (c.enterVent now d).wf = true := by
  unfold Channel.enterVent
  split
  · exact h
  · apply Channel.wf_openVentIfRested
    simp [Channel.wf]

theorem Channel.wf_enterDrive {c : Channel} (now x : Nat) (h : c.wf = true) : (c.enterDrive now x).wf = true := by
  cases c with
  | mk mode setpoint latest fault runCount fill vent pulse nextSample nextPeriod =>
    cases mode <;> cases pulse with
    | none =>
      simp_all [Channel.wf, Channel.enterDrive, Channel.endPulse, Channel.pulsesOn]
    | some p =>
      cases p with
      | mk valve width start stop =>
        cases valve <;> simp_all [Channel.wf, Channel.enterDrive, Channel.endPulse, Channel.pulsesOn, Channel.setValve,
          Channel.valve]

theorem Channel.wf_moveSetpoint {c : Channel} (f : Nat → Nat) (h : c.wf = true) : (c.moveSetpoint f).wf = true := by
  unfold Channel.moveSetpoint
  unfold Channel.wf at h ⊢
  cases e : c.mode <;> simp_all [Channel.pulsesOn]

theorem Records.updateHead {s : State} (h : Records k free L Q s) (hd : Head) (f : Chan → Channel → Channel)
    (w : ∀ ch x, x.wf = true → (f ch x).wf = true) : Records k free L Q (s.updateHead hd f) := by
  refine ⟨h.all, h.offset, h.starts, h.latched, ?_, h.dwells, h.parked⟩
  intro want hd' ch
  rw [channel_updateHead]
  split
  · exact w _ _ (h.channels want hd' ch)
  · exact h.channels want hd' ch

theorem Records.setChannel {s : State} (h : Records k free L Q s) (hd : Head) (ch : Chan) (x : Channel)
    (w : L.channels → x.wf = true) : Records k free L Q (s.setChannel hd ch x) := by
  refine ⟨h.all, h.offset, h.starts, h.latched, ?_, h.dwells, h.parked⟩
  intro want hd' ch'
  rw [channel_setChannel]
  split
  · exact w want
  · exact h.channels want hd' ch'

theorem Records.ventHead {s : State} (h : Records k free L Q s) (hd : Head) : Records k free L Q (s.ventHead hd) :=
  h.updateHead hd _ fun _ _ w => Channel.wf_enterVent _ _ w

theorem Records.driveHead {s : State} (h : Records k free L Q s) (hd : Head) (st : StepProgram) (f : PerZone Bool) :
    Records k free L Q (s.driveHead hd st f) := h.updateHead hd _ fun _ _ w => Channel.wf_enterDrive _ _ w

theorem Records.steerHead {s : State} (h : Records k free L Q s) (hd : Head) (st : StepProgram) (l : LiveProgress) :
    Records k free L Q (s.steerHead hd st l) := by
  refine h.updateHead hd _ fun ch x w => ?_
  cases ch with
  | zone z => exact Channel.wf_moveSetpoint _ w
  | rr => exact w

/-! ### Arms -/

theorem Records.setArm {s : State} (h : Records k free L Q s) (p : Platen) (a : Arm)
    (d : L.dwells → a.dwell ≠ none → a.sweeping = true) (q : L.parked → a.sweeping = false ∧ a.service.isExSitu = false) : Records k free L Q (s.setArm p a) := by
  refine ⟨h.all, h.offset, h.starts, h.latched, h.channels, ?_, ?_⟩
  · intro want p'
    simp only [setArm_arms, PerPlaten.get_set]
    split
    · exact d want
    · exact h.dwells want p'
  · intro hl p'
    simp only [setArm_arms, PerPlaten.get_set]
    split
    · exact q hl
    · exact h.parked hl p'

/-- An arm that parks, whatever its service becomes short of a new EX_SITU one. -/
theorem Records.park {s : State} (h : Records k free L Q s) (p : Platen) (a : Arm) (d : a.dwell = none)
    (w : a.sweeping = false) (e : a.service.isExSitu = true → (s.arms.get p).service.isExSitu = true) :
    Records k free L Q (s.setArm p a) := by
  refine h.setArm p a (fun _ x => absurd d x) fun hl => ⟨w, ?_⟩
  cases c : a.service.isExSitu
  · rfl
  · exact absurd (e c) (by simp [(h.parked hl p).2])

theorem Records.beginSweep {s : State} (h : Records k free L Q s) (p : Platen) (nl : ¬L.parked) :
    Records k free L Q (s.beginSweep p) := h.setArm p _ (fun _ _ => rfl) fun hl => absurd hl nl

theorem Records.parkInSitu {s : State} (h : Records k free L Q s) (p : Platen) : Records k free L Q (s.parkInSitu p) := by
  unfold State.parkInSitu
  dsimp only
  split
  · exact h.park p _ rfl rfl id
  · exact h

theorem Records.endInSitu {s : State} (h : Records k free L Q s) (p : Platen) : Records k free L Q (s.endInSitu p) := by
  unfold State.endInSitu
  dsimp only
  split
  · exact h.park p _ rfl rfl fun e => by simp [Service.isExSitu] at e
  · exact h

theorem Records.startInSitu {s : State} (h : Records k free L Q s) (p : Platen) (q : Fin 4) (nl : ¬L.parked) :
    Records k free L Q (s.startInSitu p q) := by
  refine Records.beginSweep ?_ p nl
  exact h.setArm p _ (fun want => h.dwells want p) fun hl => absurd hl nl

theorem Records.pauseSweeps {s : State} (h : Records k free L Q s) (p : Platen) : Records k free L Q (s.pauseSweeps p) := by
  unfold State.pauseSweeps
  dsimp only
  split
  · exact h.park p _ rfl rfl id
  · exact h

theorem Records.resumeSweeps {s : State} (h : Records k free L Q s) (p : Platen) : Records k free L Q (s.resumeSweeps p) := by
  unfold State.resumeSweeps
  dsimp only
  split
  · rename_i e
    refine h.beginSweep p fun hl => ?_
    simp [(h.parked hl p).2] at e
  · exact h

theorem Records.stopDispensing {s : State} (h : Records k free L Q s) (p : Platen) : Records k free L Q (s.stopDispensing p) :=
  h.plain (.setSupply _ _ _)

theorem Records.startDispensing {s : State} (h : Records k free L Q s) (p : Platen) (row : Fin 8) :
    Records k free L Q (s.startDispensing p row) := h.plain (.setSupply _ _ _)

theorem Records.raise {s : State} (h : Records k free L Q s) (c : Cause) : Records k free L Q (s.raise c) := h.plain (.raise s c)

theorem Records.raiseIf {s : State} (h : Records k free L Q s) (b : Bool) (c : Cause) : Records k free L Q (s.raiseIf b c) :=
  h.plain (.raiseIf s b c)

/-! ### Records -/

theorem Records.setPass {s : State} (h : Records k free L Q s) (i : PassSlot) (r : Pass) (q : Q i r) :
    Records k free L Q (s.setPass i (some r)) := by
  refine ⟨?_, h.offset, h.starts, h.latched, h.channels, h.dwells, h.parked⟩
  intro j r' hr
  rw [pass_setPass] at hr
  split at hr
  · rename_i e
    cases hr
    exact e ▸ q
  · exact h.all j r' hr

theorem Records.setFree {s : State} (h : Records k free L Q s) (i : PassSlot) : Records k free L Q (s.setPass i none) := by
  refine ⟨?_, h.offset, h.starts, h.latched, h.channels, h.dwells, h.parked⟩
  intro j r' hr
  rw [pass_setPass] at hr
  split at hr
  · cases hr
  · exact h.all j r' hr

theorem Records.foldl {α : Type} (f : State → α → State) (hf : ∀ t i, Records k free L Q t → Records k free L Q (f t i))
    (l : List α) : ∀ s : State, Records k free L Q s → Records k free L Q (l.foldl f s) := by
  induction l with
  | nil => exact fun _ h => h
  | cons i l ih => exact fun s h => ih (f s i) (hf s i h)

theorem Records.ite {s t : State} (c : Prop) [Decidable c] (a : Records k free L Q s) (b : Records k free L Q t) :
    Records k free L Q (if c then s else t) := by
  split
  · exact a
  · exact b

/-- An attempt that finds no failing condition has the trip latch clear and the carousel STOPPED (R30). -/
theorem startFailure_none {s : State} {h : Head} {st : StepProgram} (e : s.startFailure h st = none) :
    s.tripLatch = false ∧ s.carousel.state = .stopped := by
  unfold State.startFailure at e
  split at e
  · cases e
  · rename_i a
    split at e
    · cases e
    · rename_i b
      exact ⟨by simpa using a, by simpa using b⟩

theorem Records.conditionStart {s : State} (h : Records k free L Q s) (st : StepProgram) (nl : ¬L.parked) :
    Records k free L Q (s.conditionStart st) := by
  unfold State.conditionStart
  split
  · exact h.startInSitu _ _ nl
  · exact h
  · exact h

theorem Records.startStep {s : State} (h : Records k free L Q s) (i : PassSlot) (r : Pass) (hd : Head) (st : StepProgram)
    (nl : ¬L.parked) (q : Q i { r with state := .polishing, startBlock := none, live := some (s.freshLive hd st) }) :
    Records k free L Q (s.startStep i r hd st) :=
  ((((h.setPass i _ q).driveHead hd st _).startDispensing _ _).conditionStart st nl).plain (.addUsageOf _ _ _)

theorem Records.attempt (c : Closed k free Q) {s : State} (h : Records k free L Q s) (i : PassSlot) :
    Records k free L Q (s.attempt i) := by
  unfold State.attempt
  split
  · exact h
  · rename_i r hr
    split
    · rename_i el
      rw [h.offset] at el
      simp only [Pass.eligible, Bool.and_eq_true, decide_eq_true_eq] at el
      obtain ⟨p, hp⟩ := Option.isSome_iff_exists.1 el.2
      split
      · split
        · exact h.setPass i _ (c.block _ _ _ (h.all i r hr) el.1)
        · rename_i hf
          have hs := startFailure_none hf
          exact h.startStep i r _ _ (h.latched hs.1) (c.start _ _ p _ (h.starts hs.1 hs.2) (h.all i r hr) el.1 hp)
      · exact h
    · exact h

theorem Records.attemptEach (c : Closed k free Q) {s : State} (h : Records k free L Q s) (reaches : Pass → Bool) :
    Records k free L Q (s.attemptEach reaches) :=
  Records.foldl _ (fun _ i a => .ite _ (a.attempt c i) a) _ s h

theorem Records.attemptAll (c : Closed k free Q) {s : State} (h : Records k free L Q s) : Records k free L Q s.attemptAll :=
  h.attemptEach c _

theorem Records.attemptOver (c : Closed k free Q) {s : State} (h : Records k free L Q s) (p : Platen) :
    Records k free L Q (s.attemptOver p) := h.attemptEach c _

theorem Records.attemptOn (c : Closed k free Q) {s : State} (h : Records k free L Q s) (hd : Head) :
    Records k free L Q (s.attemptOn hd) := h.attemptEach c _

theorem Records.suspendService {s : State} (h : Records k free L Q s) (r : Pass) :
    Records k free L Q (s.suspendService r) := by
  unfold State.suspendService
  split
  · exact ((h.ventHead _).stopDispensing _).parkInSitu _
  · exact h

theorem Records.addCause (c : Closed k free Q) {s : State} (h : Records k free L Q s) (i : PassSlot) (cause : HoldCause) :
    Records k free L Q (s.addCause i cause) := by
  unfold State.addCause
  split
  · exact h
  · rename_i r hr
    split
    · rename_i e
      exact (h.setPass i _ (c.hold _ _ _ _ (h.all i r hr) e)).suspendService r
    · rename_i e
      exact h.setPass i _ (c.addHold _ _ _ (h.all i r hr) e)
    · exact h
    · exact h
    · exact h

theorem Records.addCauseOf (c : Closed k free Q) {s : State} (h : Records k free L Q s) (found : Option PassSlot)
    (cause : HoldCause) : Records k free L Q (s.addCauseOf found cause) := by
  unfold State.addCauseOf
  split
  · exact h.addCause c _ _
  · exact h

theorem Records.supplyLoss (c : Closed k free Q) {s : State} (h : Records k free L Q s) (f : Feed) :
    Records k free L Q (s.supplyLoss f) :=
  (Records.foldl _ (fun _ i a => .ite _ (a.addCause c i .supply) a) _ s h).raiseIf _ _

theorem Records.supplyLossAt (c : Closed k free Q) {s : State} (h : Records k free L Q s) (pos : Option Position) :
    Records k free L Q (s.supplyLossAt pos) := by
  unfold State.supplyLossAt
  split
  · exact h.supplyLoss c _
  · exact h

theorem Records.supplyLossIf (c : Closed k free Q) {s : State} (h : Records k free L Q s) (b : Bool) (f : Feed) :
    Records k free L Q (s.supplyLossIf b f) := .ite _ (h.supplyLoss c f) h

theorem Records.updateLive (c : Closed k free Q) {s : State} (h : Records k free L Q s) (i : PassSlot)
    (f : LiveProgress → LiveProgress) : Records k free L Q (s.updateLive i f) := by
  unfold State.updateLive
  split
  · rename_i r hr
    exact h.setPass i _ (c.live _ _ _ (h.all i r hr))
  · exact h

theorem Records.updateLiveOn (c : Closed k free Q) {s : State} (h : Records k free L Q s) (p : Platen)
    (f : LiveProgress → LiveProgress) : Records k free L Q (s.updateLiveOn p f) := by
  unfold State.updateLiveOn
  split
  · exact h.updateLive c _ _
  · exact h

theorem Records.closeSupply (c : Closed k free Q) {s : State} (h : Records k free L Q s) (p : Platen) :
    Records k free L Q (s.closeSupply p) := by
  have base := (h.plain (Plain.setSupply s p (s.supply.get p).close)).raiseIf
    ((s.supply.get p).close.short && !(s.supply.get p).short) .supply
  exact .ite _ (base.updateLiveOn c p _) base

theorem Records.endExSitu (c : Closed k free Q) {s : State} (h : Records k free L Q s) (p : Platen) :
    Records k free L Q (s.endExSitu p) := (h.park p _ rfl rfl fun e => by simp [Service.isExSitu] at e).attemptOver c p

theorem Records.wearStop (c : Closed k free Q) {s : State} (h : Records k free L Q s) (p : Platen) :
    Records k free L Q (s.wearStop p) := by
  unfold State.wearStop
  split
  · exact h
  · exact (h.park p _ rfl rfl fun e => by simp [Service.isExSitu] at e).updateLiveOn c p _
  · exact h.endExSitu c p

theorem Records.reportWear (c : Closed k free Q) {s : State} (h : Records k free L Q s) (p : Platen) :
    Records k free L Q (s.reportWear p) := .ite _ h (h.wearStop c p)

theorem Records.handOff {s : State} (h : Records k free L Q s) (p : Platen) (q : Fin 4) (n : Nat) :
    Records k free L Q (s.handOff p q n) := by
  unfold State.handOff
  split
  · exact h
  · rename_i e
    have nl := h.latched (by simpa using e)
    split
    · exact h
    · dsimp only
      have served : Records k free L Q (s.setArm p
          { s.arms.get p with service := .exSitu q, exSitu := n, direction := .outward, segment := 0 }) :=
        h.setArm p _ (fun want => h.dwells want p) fun hl => absurd hl nl
      exact .ite _ served (served.beginSweep p nl)

theorem Records.handOffAfter {s : State} (h : Records k free L Q s) (st : StepProgram) (cause : StepEnd) :
    Records k free L Q (s.handOffAfter st cause) := by
  unfold State.handOffAfter
  split
  · exact .ite _ h (h.handOff _ _ _)
  · exact h
  · exact h

theorem Records.endService {s : State} (h : Records k free L Q s) (hd : Head) (st : StepProgram) :
    Records k free L Q (s.endService hd st) := by
  have base := (h.ventHead hd).stopDispensing st.platen
  unfold State.endService
  dsimp only
  split
  · exact base.endInSitu _
  · exact base
  · exact base

theorem Records.endStep (c : Closed k free Q) {s : State} (h : Records k free L Q s) (i : PassSlot) (cause : StepEnd) :
    Records k free L Q (s.endStep i cause) := by
  unfold State.endStep
  split
  · exact h
  · rename_i r hr
    split
    · rename_i l st hd hl _ _
      have handed := ((((h.setPass i _ (c.close _ _ l cause (h.all i r hr) hl)).raise .stepEnd).raiseIf
        (!r.movesOn cause) .passEnd).endService hd st).handOffAfter st cause
      exact .ite _ (handed.attempt c i) handed
    · exact h

theorem Records.testAndSteer (c : Closed k free Q) {s : State} (h : Records k free L Q s) (i : PassSlot) (r : Pass)
    (l : LiveProgress) (st : StepProgram) (hd : Head) (q : ∀ x, Q i { r with live := some x }) :
    Records k free L Q (s.testAndSteer i r l st hd) :=
  .ite _ ((h.setPass i _ (q _)).endStep c i _) ((h.setPass i _ (q _)).steerHead _ _ _)

/-- A record that has live progress keeps the property with any other live progress. -/
theorem Closed.relive (c : Closed k free Q) {i : PassSlot} {r : Pass} {l : LiveProgress} (q : Q i r) (e : r.live = some l)
    (x : LiveProgress) : Q i { r with live := some x } := by
  have := c.live i r (fun _ => x) q
  rw [e] at this
  exact this

theorem Records.credit (c : Closed k free Q) {s : State} (h : Records k free L Q s) (i : PassSlot) (pressures : PerZone Nat)
    (fsup fgl : Nat) : Records k free L Q (s.credit i pressures fsup fgl) := by
  unfold State.credit
  split
  · exact h
  · rename_i r hr
    split
    · rename_i l st hd hl _ _
      have q := c.relive (h.all i r hr) hl
      exact .ite _ (h.setPass i _ (q _))
        (.ite _ (h.setPass i _ (q _)) ((h.plain (.addUsageOf _ _ _)).testAndSteer c i r _ st hd q))
    · exact h

theorem Records.holdAll (c : Closed k free Q) {s : State} (h : Records k free L Q s) : Records k free L Q s.holdAll :=
  Records.foldl _ (fun _ i a => a.addCause c i .trip) _ s h

theorem Records.tripArm (c : Closed k free Q) {s : State} (h : Records k free L Q s) (p : Platen) :
    Records k free L Q (s.tripArm p) := .ite _ (h.endExSitu c p) (.ite _ (h.park p _ rfl rfl id) h)

theorem Records.tripArms (c : Closed k free Q) {s : State} (h : Records k free L Q s) : Records k free L Q s.tripArms :=
  ((h.tripArm c .p0).tripArm c .p1).tripArm c .p2

theorem Records.mount (c : Closed k free Q) {s : State} (h : Records k free L Q s) (m : Mount) :
    Records k free L Q (s.mount m) := ((h.plain (.displace _ _ _)).plain (.setItem _ _ _)).attemptAll c

theorem Records.dismount (c : Closed k free Q) {s : State} (h : Records k free L Q s) (j : ItemSlot) (i : Item) :
    Records k free L Q (s.dismount j i) := (h.plain (.setItem _ _ _)).supplyLossAt c _

theorem Records.adjust (c : Closed k free Q) {s : State} (h : Records k free L Q s) (a : AcceptedAdjust) :
    Records k free L Q (s.adjust a) := by
  have b := h.plain (Plain.rewriteItem s a.slot a.old a.new)
  have e : Records k free L Q ((s.rewriteItem a.slot a.old a.new).reportEmpty a.old a.new) :=
    .ite _ (b.supplyLossAt c _) b
  have d : Records k free L Q (((s.rewriteItem a.slot a.old a.new).reportEmpty a.old a.new).reportDisk a.old a.new) := by
    unfold State.reportDisk
    split
    · exact .ite _ (e.reportWear c _) e
    · exact e
  exact .ite _ (d.attemptAll c) d

theorem Records.goOnSweeping (c : Closed k free Q) {s : State} (h : Records k free L Q s) (p : Platen) (nl : ¬L.parked) :
    Records k free L Q (s.goOnSweeping p) := .ite _ (h.wearStop c p) (.ite _ (h.endExSitu c p) (h.beginSweep p nl))

theorem Records.dwellExpires (c : Closed k free Q) {s : State} (h : Records k free L Q s) (p : Platen)
    (running : (s.arms.get p).dwell ≠ none) : Records k free L Q (s.dwellExpires p) := by
  have nl : ¬L.parked := fun hl => by
    have sweeping := h.dwells (L.needs hl) p running
    simp [(h.parked hl p).1] at sweeping
  unfold State.dwellExpires
  dsimp only
  split
  · exact h.setArm p _ (fun want _ => h.dwells want p running) fun hl => absurd hl nl
  · have used := h.plain (.addUsageOf _ (s.mounted .disk (.platen p)) 1)
    exact (used.setArm p ((s.addUsageOf (s.mounted .disk (.platen p)) 1).arms.get p).completed (fun want => used.dwells want p)
      fun hl => absurd hl nl).goOnSweeping c p nl

theorem Records.reportFault (c : Closed k free Q) {s : State} (h : Records k free L Q s) (hd : Head) (before after : Bool) :
    Records k free L Q (s.reportFault hd before after) :=
  .ite _ ((h.addCauseOf c _ _).raise _) (.ite _ (h.attemptOn c hd) h)

theorem Records.setRotation {s : State} (h : Records k free L Q s) (p : Platen) (x : Rotation) :
    Records k free L Q (s.setRotation p x) := h.steady rfl rfl rfl rfl rfl

theorem Records.writePeriod {s : State} (h : Records k free L Q s) (p : Platen) (period : Word32) :
    Records k free L Q (s.writePeriod p period) := h.setRotation p _

theorem Records.closeWindows {s : State} (h : Records k free L Q s) (p : Platen) : Records k free L Q (s.closeWindows p) :=
  h.steady rfl rfl rfl rfl rfl

theorem Records.acceptEdge (c : Closed k free Q) {s : State} (h : Records k free L Q s) (p : Platen) :
    Records k free L Q (s.acceptEdge p) := by
  have w := (h.setRotation p
    { s.rotation.get p with reference := some s.timeBase, stallTimer := some (s.clock + stallTime) }).closeWindows p
  exact (w.setArm p (Arm.raiseGlaze _) (fun want => w.dwells want p) fun hl => w.parked hl p).closeSupply c p

theorem Records.risingIndexEdge (c : Closed k free Q) {s : State} (h : Records k free L Q s) (p : Platen) :
    Records k free L Q (s.risingIndexEdge p) := by
  unfold State.risingIndexEdge
  split
  · exact h
  · exact h.acceptEdge c p
  · exact (h.writePeriod p _).acceptEdge c p
  · exact ((((h.writePeriod p _).setRotation p _).acceptEdge c p).attemptOver c p).resumeSweeps p
  · dsimp only
    split
    · exact ((h.writePeriod p _).acceptEdge c p).credit c _ _ _ _
    · exact (h.writePeriod p _).acceptEdge c p

theorem Records.stallSet (c : Closed k free Q) {s : State} (h : Records k free L Q s) (p : Platen) :
    Records k free L Q (s.stallSet p) :=
  (((h.setRotation p _).addCauseOf c _ _).raise _).pauseSweeps p

/-- A sample leaves a channel's mode, setpoint, valves and pulse. -/
theorem Channel.wf_takeSample {c : Channel} (pressure : Option Nat) (h : c.wf = true) :
    (c.takeSample pressure).wf = true := by
  have e : (c.takeSample pressure).mode = c.mode ∧ (c.takeSample pressure).setpoint = c.setpoint ∧
      (c.takeSample pressure).pulse = c.pulse ∧ (c.takeSample pressure).fill = c.fill ∧
      (c.takeSample pressure).vent = c.vent := by
    unfold Channel.takeSample Channel.track
    cases pressure <;> dsimp only <;> split <;> (try split) <;> exact ⟨rfl, rfl, rfl, rfl, rfl⟩
  unfold Channel.wf Channel.pulsesOn at h ⊢
  rw [e.1, e.2.1, e.2.2.1, e.2.2.2.1, e.2.2.2.2]
  exact h

theorem Records.handSample {s : State} (h : Records k free L Q s) (hd : Head) (ch : Chan) (pressure : Option Nat) :
    Records k free L Q (s.handSample hd ch pressure) := by
  refine Records.steady h ?_ ?_ ?_ ?_ ?_ <;> (unfold State.handSample; split <;> rfl)

theorem Records.sample (c : Closed k free Q) {s : State} (h : Records k free L Q s) (hd : Head) (ch : Chan)
    (code : BitVec 12) : Records k free L Q (s.sample hd ch code) := by
  unfold State.sample
  exact ((h.setChannel hd ch _ fun want => Channel.wf_takeSample _ (h.channels want hd ch)).handSample hd ch _).reportFault c hd _ _

theorem Records.debit {s : State} (h : Records k free L Q s) (f : Feed) (v : Nat) : Records k free L Q (s.debit f v).state :=
  h.plain (.debit _ _ _)

theorem Records.slotGrant (c : Closed k free Q) {s : State} (h : Records k free L Q s) (f : Feed) :
    Records k free L Q (s.slotGrant f) := by
  unfold State.slotGrant
  split
  · exact h
  · have asked := h.plain (Plain.slotDemand s f)
    dsimp only
    split
    · unfold State.grantTo
      split
      · exact Records.steady asked rfl rfl rfl rfl rfl
      · refine Records.supplyLossIf c ?_ _ _
        refine .ite _ ?_ (asked.debit f _)
        exact Records.steady (asked.debit f _) rfl rfl rfl rfl rfl
    · exact asked

theorem Records.advanceTimer (c : Closed k free Q) {s : State} (h : Records k free L Q s) (i : PassSlot) (r : Pass)
    (l : LiveProgress) (st : StepProgram) (units : Nat) (q : ∀ x, Q i { r with live := some x }) :
    Records k free L Q (s.advanceTimer i r l st units) := by
  unfold State.advanceTimer
  have now : Records k free L Q (s.runTo (l.timerDue units)) := Records.steady h rfl rfl rfl rfl rfl
  exact .ite _ ((now.setPass i _ (q _)).endStep c i _) (now.setPass i _ (q _))

theorem Records.runStepTimer (c : Closed k free Q) {s : State} (h : Records k free L Q s) (hd : Head)
    (units : LiveProgress → StepProgram → Nat) : Records k free L Q (s.runStepTimer hd units) := by
  unfold State.runStepTimer
  split
  · exact h
  · split
    · exact h
    · rename_i r hr
      split
      · rename_i l st hl _
        exact h.advanceTimer c _ r l st _ (c.relive (h.all _ r hr) hl)
      · exact h

theorem Records.endpointRises (c : Closed k free Q) {s : State} (h : Records k free L Q s) (p : Platen) :
    Records k free L Q (s.endpointRises p) := by
  unfold State.endpointRises
  split
  · exact h
  · exact .ite _ (h.endStep c _ _) h

theorem Records.conditionResume (c : Closed k free Q) {s : State} (h : Records k free L Q s) (st : StepProgram) (nl : ¬L.parked) :
    Records k free L Q (s.conditionResume st) := by
  unfold State.conditionResume
  split
  · exact .ite _ (.ite _ (h.wearStop c _) (h.beginSweep _ nl)) h
  · exact h
  · exact h

theorem Records.resume (c : Closed k free Q) {s : State} (h : Records k free L Q s) (a : Resume) (nl : ¬L.parked)
    (q : Q a.slot (a.record.resumed a.step s.clock)) : Records k free L Q (s.resume a) :=
  (((h.setPass a.slot _ q).driveHead _ _ _).startDispensing _ _).conditionResume c _ nl

theorem Records.abort (c : Closed k free Q) {s : State} (h : Records k free L Q s) (i : PassSlot) (r : Pass)
    (q : Q i (r.enterEnded .aborted)) : Records k free L Q (s.abort i r) :=
  .ite _ (h.endStep c i _) ((h.setPass i _ q).raise _)

theorem Records.amend (c : Closed k free Q) {s : State} (h : Records k free L Q s) (a : AcceptedAmend)
    (q : Q a.slot a.record) : Records k free L Q (s.amend a) :=
  .ite _ ((h.setPass a.slot _ q).endStep c _ _) (h.setPass a.slot _ q)

end Sys2Proof.Machine
end

