-- ==== Sys2Proof/Laws/Commands.lean ====
section
/-! SUPPORT. The ordinary commands keep every property of records that the station's own changes keep. -/

namespace Sys2Proof

/-- The commands that make, bind, amend, end or resume a pass, move the carousel or change the trip latch. -/
def Instr.remakes : Instr → Bool
  | .powerOnReset _ _ => true
  | .resetPin _ _ => true
  | .passCreate _ => true
  | .passBind _ => true
  | .passAmend _ => true
  | .passAbort _ => true
  | .passResume _ => true
  | .tripClear _ => true
  | .tripEvent _ => true
  | .carouselIndex _ => true
  | .carouselSync _ _ => true
  | .carouselIndexCompletion _ _ => true
  | .indexTimerExpiry => true
  | _ => false

end Sys2Proof

namespace Sys2Proof.Machine

variable {k : Fin 4} {free : Prop} {L : Wanted} {Q : PassSlot → Pass → Prop}


theorem Records.elapse {s : State} (h : Records k free L Q s) (dt : Nat) : Records k free L Q (s.elapse dt) :=
  h.steady rfl rfl rfl rfl rfl
theorem Records.runTo {s : State} (h : Records k free L Q s) (m : Nat) : Records k free L Q (s.runTo m) :=
  h.steady rfl rfl rfl rfl rfl
theorem Records.respond {s : State} (h : Records k free L Q s) (r : Response) : Records k free L Q (s.respond r) :=
  h.steady rfl rfl rfl rfl rfl

theorem Records.serve {α : Type} {s : State} (h : Records k free L Q s) (dt : Nat) (name : RequestName) (rule : Handler α)
    (act : ∀ payload a, Records k free L Q (s.elapse dt) → rule.check payload (s.elapse dt) = .ok a → Records k free L Q (rule.act a (s.elapse dt)).1) :
    Records k free L Q ((s.elapse dt).serve name rule) :=
  serve_keeps (P := Records k free L Q) _ name rule (h.elapse dt) (fun _ _ x => x.respond _) (fun p a e => act p a (h.elapse dt) e)

theorem Records.serveUnknown {s : State} (h : Records k free L Q s) : Records k free L Q s.serveUnknown :=
  serveUnknown_keeps _ h (fun _ _ x => x.respond _)

theorem Records.receive {s : State} (h : Records k free L Q s) (ch : LinkChar) : Records k free L Q (s.receive ch) := by
  unfold State.receive
  split
  · exact h.steady rfl rfl rfl rfl rfl
  · dsimp only
    split
    · exact h.steady rfl rfl rfl rfl rfl
    · split
      · exact h.steady rfl rfl rfl rfl rfl
      · split
        · unfold State.judgeFrame
          split
          · unfold State.storeRequest
            split <;> exact h.steady rfl rfl rfl rfl rfl
          · exact h.steady rfl rfl rfl rfl rfl
        · exact h.steady rfl rfl rfl rfl rfl

theorem Records.receiveBreak {s : State} (h : Records k free L Q s) : Records k free L Q s.receiveBreak := by
  unfold State.receiveBreak
  dsimp only
  split
  · exact h.steady rfl rfl rfl rfl rfl
  · split <;> exact h.steady rfl rfl rfl rfl rfl

theorem Records.idleEnds {s : State} (h : Records k free L Q s) (b : List Byte) : Records k free L Q (s.idleEnds b) := by
  unfold State.idleEnds
  split <;> exact h.steady rfl rfl rfl rfl rfl

theorem Records.endLoad {s : State} (h : Records k free L Q s) (n : Option Nat) : Records k free L Q (s.endLoad n) := by
  unfold State.endLoad
  split <;> exact h.steady rfl rfl rfl rfl rfl

theorem Records.advancePointer {s : State} (h : Records k free L Q s) (f : Feed) : Records k free L Q (s.advancePointer f) := by
  unfold State.advancePointer
  dsimp only
  split
  · unfold State.takeTable
    split
    · exact h.steady rfl rfl rfl rfl rfl
    · split <;> exact h.steady rfl rfl rfl rfl rfl
  · exact h.steady rfl rfl rfl rfl rfl

theorem Channel.wf_placePulse {c : Channel} (now d : Nat) (kind : ValveKind) (w : Nat) (hd : c.mode = .drive) (hs : c.setpoint.isSome) 
    (hf : c.fill.isOpen = false) (hv : c.vent.isOpen = false) : (c.placePulse now d kind w).wf = true := by
  unfold Channel.placePulse
  dsimp only
  split
  · simp_all [Channel.wf]
  · split <;> cases kind <;> simp_all [Channel.wf, Channel.pulsesOn, Channel.setValve, Channel.valve, Valve.opened]

theorem Channel.endPulse_rests {c : Channel} (now : Nat) (h : c.wf = true) (hd : c.mode = .drive) :
    (c.endPulse now).fill.isOpen = false ∧ (c.endPulse now).vent.isOpen = false := by
  cases c with
  | mk mode setpoint latest fault runCount fill vent pulse nextSample nextPeriod =>
    subst hd
    cases pulse with
    | none => simp_all [Channel.wf, Channel.endPulse, Channel.pulsesOn]
    | some p =>
      cases p with
      | mk valve width start stop =>
        cases valve <;> simp_all [Channel.wf, Channel.endPulse, Channel.pulsesOn, Channel.setValve, Channel.valve]

theorem Channel.endPulse_mode (c : Channel) (now : Nat) : (c.endPulse now).mode = c.mode ∧ (c.endPulse now).setpoint = c.setpoint := by
  unfold Channel.endPulse
  split
  · rename_i p _
    cases h : p.valve <;> simp [Channel.setValve]
  · simp

theorem Channel.wf_startPeriod {c : Channel} (now : Nat) (d : DriveSettings) (h : c.wf = true) : (c.startPeriod now d).wf = true := by
  unfold Channel.startPeriod
  dsimp only
  split
  · exact h
  · rename_i m
    have w : ({ c with nextPeriod := c.nextPeriod + 20000 } : Channel).wf = true := h
    have r := Channel.endPulse_rests now w m
    have e := Channel.endPulse_mode { c with nextPeriod := c.nextPeriod + 20000 } now
    have sp : c.setpoint.isSome = true := by unfold Channel.wf at h; simp_all
    revert r e
    generalize Channel.endPulse now { c with nextPeriod := c.nextPeriod + 20000 } = x
    rintro ⟨r1, r2⟩ ⟨e1, e2⟩
    have xm : x.mode = .drive := e1.trans m
    have xs : x.setpoint.isSome = true := by rw [e2]; exact sp
    split
    · exact Channel.wf_placePulse _ _ _ _ xm xs r1 r2
    · simp [Channel.wf, xm, xs, r1, r2]

theorem Channel.waitingPulse_some {c : Channel} {p : Pulse} (w : c.waitingPulse = some p) :
    c.pulse = some p ∧ (c.valve p.valve).isOpen = false := by
  unfold Channel.waitingPulse at w
  split at w
  · rename_i q hq
    cases o : (c.valve q.valve).isOpen
    · simp only [o] at w
      cases w
      exact ⟨hq, o⟩
    · simp [o] at w
  · cases w

/-- A channel with a pulse that waits is in DRIVE with both valves closed. -/
theorem Channel.waiting_drive {c : Channel} {p : Pulse} (h : c.wf = true) (w : c.waitingPulse = some p)  :
    c.mode = .drive ∧ c.setpoint.isSome = true ∧ c.fill.isOpen = false ∧ c.vent.isOpen = false := by
  obtain ⟨e, o⟩ := Channel.waitingPulse_some w
  cases m : c.mode <;> cases v : p.valve <;> simp_all [Channel.wf, Channel.pulsesOn, Channel.valve]

theorem Channel.wf_beginPulse {c : Channel} {p : Pulse} (h : c.wf = true) (w : c.waitingPulse = some p) : (c.beginPulse p).wf = true := by
  obtain ⟨e, o⟩ := Channel.waitingPulse_some w
  obtain ⟨m, sp, f, v⟩ := Channel.waiting_drive h w
  cases k : p.valve <;> simp [Channel.beginPulse, Channel.wf, Channel.pulsesOn, Channel.setValve, Channel.valve, Valve.opened, k, m, sp, f, v, e]

theorem Channel.wf_applySettings {c : Channel} (now o : Nat) (d : DriveSettings) (cs : ChannelSettings) (b : Bool) (h : c.wf = true) :
    (c.applySettings now o d cs b).wf = true := by
  unfold Channel.applySettings
  have m := Channel.wf_moveSetpoint (fun x => if b then cs.wmin else cs.window x) h
  dsimp only
  split
  · exact m
  · revert m
    generalize c.moveSetpoint (fun x => if b then cs.wmin else cs.window x) = x
    intro m
    unfold Channel.moveDelays
    split
    · rename_i p hp
      obtain ⟨xm, sp, f, v⟩ := Channel.waiting_drive m hp
      exact Channel.wf_placePulse _ _ _ _ xm sp f v
    · exact Channel.wf_openVentIfRested _ _ m

theorem Records.status {s t : State} (dt : Nat) (h : Records k free L Q s)
    (e : exec (.status dt) s = .next t) : Records k free L Q t := by
  rw [next_inj e]
  exact h.serve _ _ _ fun _ _ h _ => h

theorem Records.identify {s t : State} (dt : Nat) (h : Records k free L Q s)
    (e : exec (.identify dt) s = .next t) : Records k free L Q t := by
  rw [next_inj e]
  exact h.serve _ _ _ fun _ _ h _ => h

theorem Records.attnAck {s t : State} (dt : Nat) (h : Records k free L Q s)
    (e : exec (.attnAck dt) s = .next t) : Records k free L Q t := by
  rw [next_inj e]
  refine h.serve _ _ _ fun _ a h _ => ?_
  show Records k free L Q (State.acknowledge _ a)
  unfold State.acknowledge
  dsimp only
  split <;> exact h.steady rfl rfl rfl rfl rfl

theorem Records.attnMask {s t : State} (dt : Nat) (h : Records k free L Q s)
    (e : exec (.attnMask dt) s = .next t) : Records k free L Q t := by
  rw [next_inj e]
  exact h.serve _ _ _ fun _ _ h _ => h.steady rfl rfl rfl rfl rfl

theorem Records.restart {s t : State} (dt : Nat) (h : Records k free L Q s)
    (e : exec (.restart dt) s = .next t) : Records k free L Q t := by
  rw [next_inj e]
  exact h.serve _ _ _ fun _ _ h _ => h.steady rfl rfl rfl rfl rfl

theorem Records.passLookup {s t : State} (dt : Nat) (h : Records k free L Q s)
    (e : exec (.passLookup dt) s = .next t) : Records k free L Q t := by
  rw [next_inj e]
  exact h.serve _ _ _ fun _ _ h _ => h

theorem Records.passList {s t : State} (dt : Nat) (h : Records k free L Q s)
    (e : exec (.passList dt) s = .next t) : Records k free L Q t := by
  rw [next_inj e]
  exact h.serve _ _ _ fun _ _ h _ => h

theorem Records.passRetire {s t : State} (dt : Nat) (h : Records k free L Q s)
    (e : exec (.passRetire dt) s = .next t) : Records k free L Q t := by
  rw [next_inj e]
  exact h.serve _ _ _ fun _ _ h _ => h.setFree _

theorem Records.passHold (c : Closed k free Q) {s t : State} (dt : Nat) (h : Records k free L Q s)
    (e : exec (.passHold dt) s = .next t) : Records k free L Q t := by
  rw [next_inj e]
  exact h.serve _ _ _ fun _ _ h _ => h.addCause c _ _

theorem Records.itemRegister {s t : State} (dt : Nat) (h : Records k free L Q s)
    (e : exec (.itemRegister dt) s = .next t) : Records k free L Q t := by
  rw [next_inj e]
  refine h.serve _ _ _ fun _ a h _ => ?_
  show Records k free L Q (((s.elapse dt).setItem a.1 (some a.2)).raiseIf a.2.flags.any .item)
  have w := h.plain (Plain.setItem (s.elapse dt) a.1 (some a.2))
  exact w.raiseIf _ _

theorem Records.itemLookup {s t : State} (dt : Nat) (h : Records k free L Q s)
    (e : exec (.itemLookup dt) s = .next t) : Records k free L Q t := by
  rw [next_inj e]
  exact h.serve _ _ _ fun _ _ h _ => h

theorem Records.itemList {s t : State} (dt : Nat) (h : Records k free L Q s)
    (e : exec (.itemList dt) s = .next t) : Records k free L Q t := by
  rw [next_inj e]
  exact h.serve _ _ _ fun _ _ h _ => h

theorem Records.itemMount (c : Closed k free Q) {s t : State} (dt : Nat) (h : Records k free L Q s)
    (e : exec (.itemMount dt) s = .next t) : Records k free L Q t := by
  rw [next_inj e]
  refine h.serve _ _ _ fun _ m h _ => ?_
  dsimp only [itemMountRule]
  exact h.mount c m

theorem Records.itemDismount (c : Closed k free Q) {s t : State} (dt : Nat) (h : Records k free L Q s)
    (e : exec (.itemDismount dt) s = .next t) : Records k free L Q t := by
  rw [next_inj e]
  exact h.serve _ _ _ fun _ _ h _ => h.dismount c _ _

theorem Records.itemAdjust (c : Closed k free Q) {s t : State} (dt : Nat) (h : Records k free L Q s)
    (e : exec (.itemAdjust dt) s = .next t) : Records k free L Q t := by
  rw [next_inj e]
  exact h.serve _ _ _ fun _ _ h _ => h.adjust c _

theorem Records.itemRetire {s t : State} (dt : Nat) (h : Records k free L Q s)
    (e : exec (.itemRetire dt) s = .next t) : Records k free L Q t := by
  rw [next_inj e]
  exact h.serve _ _ _ fun _ _ h _ => h.plain (.setItem _ _ _)

theorem Records.headWrite {s t : State} (dt : Nat) (h : Records k free L Q s)
    (e : exec (.headWrite dt) s = .next t) : Records k free L Q t := by
  rw [next_inj e]
  refine h.serve _ _ _ fun _ a h _ => ?_
  have w : Records k free L Q
      { s.elapse dt with headSettings := (s.elapse dt).headSettings.set a.head a.settings } := h.steady rfl rfl rfl rfl rfl
  exact w.updateHead a.head _ fun _ _ w => Channel.wf_applySettings _ _ _ _ _ w

theorem Records.headRead {s t : State} (dt : Nat) (h : Records k free L Q s)
    (e : exec (.headRead dt) s = .next t) : Records k free L Q t := by
  rw [next_inj e]
  exact h.serve _ _ _ fun _ _ h _ => h

theorem Records.blendWrite {s t : State} (dt : Nat) (h : Records k free L Q s)
    (e : exec (.blendWrite dt) s = .next t) : Records k free L Q t := by
  rw [next_inj e]
  exact h.serve _ _ _ fun _ _ h _ => h.steady rfl rfl rfl rfl rfl

theorem Records.feedWrite {s t : State} (dt : Nat) (h : Records k free L Q s)
    (e : exec (.feedWrite dt) s = .next t) : Records k free L Q t := by
  rw [next_inj e]
  refine h.serve _ _ _ fun _ a h _ => ?_
  show Records k free L Q (State.writeFeed _ _ _)
  unfold State.writeFeed
  split
  · exact h
  · exact h.steady rfl rfl rfl rfl rfl

theorem Records.phaseWrite {s t : State} (dt : Nat) (h : Records k free L Q s)
    (e : exec (.phaseWrite dt) s = .next t) : Records k free L Q t := by
  rw [next_inj e]
  exact h.serve _ _ _ fun _ _ h _ => h.steady rfl rfl rfl rfl rfl

theorem Records.phaseLoad {s t : State} (dt : Nat) (h : Records k free L Q s)
    (e : exec (.phaseLoad dt) s = .next t) : Records k free L Q t := by
  rw [next_inj e]
  exact h.serve _ _ _ fun _ _ h _ => h.steady rfl rfl rfl rfl rfl

theorem Records.slurryRead {s t : State} (dt : Nat) (h : Records k free L Q s)
    (e : exec (.slurryRead dt) s = .next t) : Records k free L Q t := by
  rw [next_inj e]
  exact h.serve _ _ _ fun _ _ h _ => h

theorem Records.profileWrite {s t : State} (dt : Nat) (h : Records k free L Q s)
    (e : exec (.profileWrite dt) s = .next t) : Records k free L Q t := by
  rw [next_inj e]
  exact h.serve _ _ _ fun _ _ h _ => h.steady rfl rfl rfl rfl rfl

theorem Records.platenWrite {s t : State} (dt : Nat) (h : Records k free L Q s)
    (e : exec (.platenWrite dt) s = .next t) : Records k free L Q t := by
  rw [next_inj e]
  exact h.serve _ _ _ fun _ _ h _ => h.steady rfl rfl rfl rfl rfl

theorem Records.conditioningRead {s t : State} (dt : Nat) (h : Records k free L Q s)
    (e : exec (.conditioningRead dt) s = .next t) : Records k free L Q t := by
  rw [next_inj e]
  exact h.serve _ _ _ fun _ _ h _ => h

theorem Records.settingsSave {s t : State} (dt : Nat) (h : Records k free L Q s)
    (e : exec (.settingsSave dt) s = .next t) : Records k free L Q t := by
  rw [next_inj e]
  exact h.serve _ _ _ fun _ _ h _ => h.steady rfl rfl rfl rfl rfl

theorem Records.unknown {s t : State} (dt : Nat) (h : Records k free L Q s)
    (e : exec (.unknown dt) s = .next t) : Records k free L Q t := by
  rw [next_inj e]
  exact (h.elapse _).serveUnknown

theorem Records.settingsLoad {s t : State} (dt : Nat) (nack : Option Nat) (h : Records k free L Q s)
    (e : exec (.settingsLoad dt nack) s = .next t) : Records k free L Q t := by
  rw [next_inj e]
  exact .ite _ ((h.elapse _).endLoad _) (h.elapse _)

theorem Records.saveDone {s t : State} (dt : Nat) (h : Records k free L Q s)
    (e : exec (.saveDone dt) s = .next t) : Records k free L Q t := by
  rw [next_inj e]
  split <;> exact h.steady rfl rfl rfl rfl rfl

theorem Records.saveFailed {s t : State} (dt : Nat) (written : Nat) (h : Records k free L Q s)
    (e : exec (.saveFailed dt written) s = .next t) : Records k free L Q t := by
  rw [next_inj e]
  split <;> exact h.steady rfl rfl rfl rfl rfl

theorem Records.lineBreak {s t : State} (dt : Nat) (lowBits : Nat) (h : Records k free L Q s)
    (e : exec (.lineBreak dt lowBits) s = .next t) : Records k free L Q t := by
  rw [next_inj e]
  exact .ite _ (h.elapse _).receiveBreak (h.elapse _)

theorem Records.strayByte {s t : State} (dt : Nat) (ch : LinkChar) (h : Records k free L Q s)
    (e : exec (.strayByte dt ch) s = .next t) : Records k free L Q t := by
  rw [next_inj e]
  exact (h.elapse _).receive _

theorem Records.byteArrivesReceiving {s t : State} (dt : Nat) (ch : LinkChar) (h : Records k free L Q s)
    (e : exec (.byteArrivesReceiving dt ch) s = .next t) : Records k free L Q t := by
  rw [next_inj e]
  exact (h.elapse _).receive _

theorem Records.frameComplete {s t : State} (dt : Nat) (ch : LinkChar) (h : Records k free L Q s)
    (e : exec (.frameComplete dt ch) s = .next t) : Records k free L Q t := by
  rw [next_inj e]
  exact (h.elapse _).receive _

theorem Records.idleLimit {s t : State} (h : Records k free L Q s)
    (e : exec .idleLimit s = .next t) : Records k free L Q t := by
  rw [next_inj e]
  split
  · exact h
  · exact (h.runTo _).idleEnds _

theorem Records.responseStart {s t : State} (dt : Nat) (h : Records k free L Q s)
    (e : exec (.responseStart dt) s = .next t) : Records k free L Q t := by
  rw [next_inj e]
  exact .ite _ (h.elapse _) (h.steady rfl rfl rfl rfl rfl)

theorem Records.responseEnd {s t : State} (dt : Nat) (h : Records k free L Q s)
    (e : exec (.responseEnd dt) s = .next t) : Records k free L Q t := by
  rw [next_inj e]
  exact h.steady rfl rfl rfl rfl rfl

theorem Records.estopRelease {s t : State} (dt : Nat) (h : Records k free L Q s)
    (e : exec (.estopRelease dt) s = .next t) : Records k free L Q t := by
  rw [next_inj e]
  exact h.steady rfl rfl rfl rfl rfl

theorem Records.polishTimeAdvance (c : Closed k free Q) {s t : State} (hd : Head) (h : Records k free L Q s)
    (e : exec (.polishTimeAdvance hd) s = .next t) : Records k free L Q t := by
  rw [next_inj e]
  exact h.runStepTimer c _ _

theorem Records.stepTimerExpiry (c : Closed k free Q) {s t : State} (hd : Head) (h : Records k free L Q s)
    (e : exec (.stepTimerExpiry hd) s = .next t) : Records k free L Q t := by
  rw [next_inj e]
  exact h.runStepTimer c _ _

theorem Records.endpointEdge (c : Closed k free Q) {s t : State} (dt : Nat) (p : Platen) (h : Records k free L Q s)
    (e : exec (.endpointEdge dt p) s = .next t) : Records k free L Q t := by
  rw [next_inj e]
  have w : Records k free L Q ((s.elapse dt).setEndpointLevel p true) := h.steady rfl rfl rfl rfl rfl
  exact .ite _ (h.elapse _) (w.endpointRises c p)

theorem Records.endpointFallingEdge {s t : State} (dt : Nat) (p : Platen) (h : Records k free L Q s)
    (e : exec (.endpointFallingEdge dt p) s = .next t) : Records k free L Q t := by
  rw [next_inj e]
  exact h.steady rfl rfl rfl rfl rfl

theorem Records.platenIndexEdge (c : Closed k free Q) {s t : State} (dt : Nat) (p : Platen) (h : Records k free L Q s)
    (e : exec (.platenIndexEdge dt p) s = .next t) : Records k free L Q t := by
  rw [next_inj e]
  have w : Records k free L Q ((s.elapse dt).setIndexLevel p true) := h.steady rfl rfl rfl rfl rfl
  exact .ite _ (h.elapse _) (w.risingIndexEdge c p)

theorem Records.indexFallingEdge {s t : State} (dt : Nat) (p : Platen) (h : Records k free L Q s)
    (e : exec (.indexFallingEdge dt p) s = .next t) : Records k free L Q t := by
  rw [next_inj e]
  exact h.steady rfl rfl rfl rfl rfl

theorem Records.stallTimerExpiry (c : Closed k free Q) {s t : State} (p : Platen) (h : Records k free L Q s)
    (e : exec (.stallTimerExpiry p) s = .next t) : Records k free L Q t := by
  rw [next_inj e]
  split
  · exact h
  · exact (h.runTo _).stallSet c _

theorem Records.pressureSample (c : Closed k free Q) {s t : State} (hd : Head) (ch : Chan) (code : BitVec 12) (h : Records k free L Q s)
    (e : exec (.pressureSample hd ch code) s = .next t) : Records k free L Q t := by
  rw [next_inj e]
  exact (h.runTo _).sample c _ _ _

theorem Records.valvePeriodStart {s t : State} (hd : Head) (ch : Chan) (h : Records k free L Q s)
    (e : exec (.valvePeriodStart hd ch) s = .next t) : Records k free L Q t := by
  rw [next_inj e] 
  exact (h.runTo _).setChannel hd ch _ fun want => Channel.wf_startPeriod _ _ (h.channels want hd ch)

theorem Records.delayedPulseStart {s t : State} (hd : Head) (ch : Chan) (h : Records k free L Q s)
    (e : exec (.delayedPulseStart hd ch) s = .next t) : Records k free L Q t := by
  rw [next_inj e]
  split
  · exact h
  · rename_i p hp
    exact (h.runTo _).setChannel hd ch _ fun want => Channel.wf_beginPulse (h.channels want hd ch) hp

theorem Records.pulseEnd {s t : State} (hd : Head) (ch : Chan) (h : Records k free L Q s)
    (e : exec (.pulseEnd hd ch) s = .next t) : Records k free L Q t := by
  rw [next_inj e]
  split
  · exact h
  · exact (h.runTo _).setChannel hd ch _ fun want => Channel.wf_endPulse _ (h.channels want hd ch)

theorem Records.ventOpen {s t : State} (hd : Head) (ch : Chan) (h : Records k free L Q s)
    (e : exec (.ventOpen hd ch) s = .next t) : Records k free L Q t := by
  rw [next_inj e]
  dsimp only
  split
  · exact (h.runTo _).setChannel hd ch _ fun want => Channel.wf_openVentIfRested _ _ (h.channels want hd ch)
  · exact h

theorem Records.strokeSlot (c : Closed k free Q) {s t : State} (f : Feed) (h : Records k free L Q s)
    (e : exec (.strokeSlot f) s = .next t) : Records k free L Q t := by
  rw [next_inj e]
  have b : Records k free L Q (s.beginSlot f) := h.steady rfl rfl rfl rfl rfl
  exact .ite _ b ((b.slotGrant c f).advancePointer f)

theorem Records.pumpPulseEnd {s t : State} (dt : Nat) (f : Feed) (h : Records k free L Q s)
    (e : exec (.pumpPulseEnd dt f) s = .next t) : Records k free L Q t := by
  rw [next_inj e]
  exact h.steady rfl rfl rfl rfl rfl

theorem Records.minuteTick {s t : State} (h : Records k free L Q s)
    (e : exec .minuteTick s = .next t) : Records k free L Q t := by
  rw [next_inj e]
  refine Records.foldl _ (fun t j a => a.plain (.ageItem t j)) _ _ ?_
  exact h.steady rfl rfl rfl rfl rfl

theorem Records.dwellExpiry (c : Closed k free Q) {s t : State} (p : Platen) (h : Records k free L Q s)
    (e : exec (.dwellExpiry p) s = .next t) : Records k free L Q t := by
  rw [next_inj e]
  split
  · exact h
  · rename_i m hm
    refine (h.runTo m).dwellExpires c p ?_
    rw [show (s.runTo m).arms = s.arms from rfl, hm]
    simp

theorem Records.cdoneFallingEdge {s t : State} (dt : Nat) (h : Records k free L Q s)
    (e : exec (.cdoneFallingEdge dt) s = .next t) : Records k free L Q t := by
  rw [next_inj e]
  exact ⟨h.all, h.offset, h.starts, h.latched, h.channels, h.dwells, h.parked⟩

/-- An ordinary command keeps the property of every record. -/
theorem Records.ordinary (c : Closed k free Q) {s t : State} (h : Records k free L Q s) (i : Instr) (n : i.remakes = false)
    (e : exec i s = .next t) : Records k free L Q t := by
  cases i <;> first | (simp [Instr.remakes] at n; done) | skip
  case status => exact Records.status _ h e
  case identify => exact Records.identify _ h e
  case attnAck => exact Records.attnAck _ h e
  case attnMask => exact Records.attnMask _ h e
  case restart => exact Records.restart _ h e
  case passLookup => exact Records.passLookup _ h e
  case passList => exact Records.passList _ h e
  case passRetire => exact Records.passRetire _ h e
  case passHold => exact Records.passHold c _ h e
  case itemRegister => exact Records.itemRegister _ h e
  case itemLookup => exact Records.itemLookup _ h e
  case itemList => exact Records.itemList _ h e
  case itemMount => exact Records.itemMount c _ h e
  case itemDismount => exact Records.itemDismount c _ h e
  case itemAdjust => exact Records.itemAdjust c _ h e
  case itemRetire => exact Records.itemRetire _ h e
  case headWrite => exact Records.headWrite _ h e
  case headRead => exact Records.headRead _ h e
  case blendWrite => exact Records.blendWrite _ h e
  case feedWrite => exact Records.feedWrite _ h e
  case phaseWrite => exact Records.phaseWrite _ h e
  case phaseLoad => exact Records.phaseLoad _ h e
  case slurryRead => exact Records.slurryRead _ h e
  case profileWrite => exact Records.profileWrite _ h e
  case platenWrite => exact Records.platenWrite _ h e
  case conditioningRead => exact Records.conditioningRead _ h e
  case settingsSave => exact Records.settingsSave _ h e
  case unknown => exact Records.unknown _ h e
  case settingsLoad => exact Records.settingsLoad _ _ h e
  case saveDone => exact Records.saveDone _ h e
  case saveFailed => exact Records.saveFailed _ _ h e
  case lineBreak => exact Records.lineBreak _ _ h e
  case strayByte => exact Records.strayByte _ _ h e
  case byteArrivesReceiving => exact Records.byteArrivesReceiving _ _ h e
  case frameComplete => exact Records.frameComplete _ _ h e
  case idleLimit => exact Records.idleLimit h e
  case responseStart => exact Records.responseStart _ h e
  case responseEnd => exact Records.responseEnd _ h e
  case estopRelease => exact Records.estopRelease _ h e
  case polishTimeAdvance => exact Records.polishTimeAdvance c _ h e
  case stepTimerExpiry => exact Records.stepTimerExpiry c _ h e
  case endpointEdge => exact Records.endpointEdge c _ _ h e
  case endpointFallingEdge => exact Records.endpointFallingEdge _ _ h e
  case platenIndexEdge => exact Records.platenIndexEdge c _ _ h e
  case indexFallingEdge => exact Records.indexFallingEdge _ _ h e
  case stallTimerExpiry => exact Records.stallTimerExpiry c _ h e
  case pressureSample => exact Records.pressureSample c _ _ _ h e
  case valvePeriodStart => exact Records.valvePeriodStart _ _ h e
  case delayedPulseStart => exact Records.delayedPulseStart _ _ h e
  case pulseEnd => exact Records.pulseEnd _ _ h e
  case ventOpen => exact Records.ventOpen _ _ h e
  case strokeSlot => exact Records.strokeSlot c _ h e
  case pumpPulseEnd => exact Records.pumpPulseEnd _ _ h e
  case minuteTick => exact Records.minuteTick h e
  case dwellExpiry => exact Records.dwellExpiry c _ h e
  case cdoneFallingEdge => exact Records.cdoneFallingEdge _ h e

end Sys2Proof.Machine
end

