-- ==== Sys2Proof/Laws/Link.lean ====
section
/-! SUPPORT. The receive buffers: what each operation on their list does, and that it keeps the form of R170 and R171. -/

namespace Sys2Proof.Machine

/-- The form of the buffers that `State.linkWf` asks for. -/
def BuffersWf (bs : List Buffer) : Prop :=
  bs.length ≤ 2 ∧ (bs.filter isSending).length ≤ 1 ∧ (bs.filter isTaken).length ≤ 1 ∧
    (bs.any isTaken = true → bs.any isSending = true)

/-- Well-formed buffers are one of six lists: what a case analysis over them has to look at. -/
theorem BuffersWf.cases {bs : List Buffer} (h : BuffersWf bs) :
    bs = [] ∨ (∃ q, bs = [.held q]) ∨ (∃ q q', bs = [.held q, .held q']) ∨ (∃ r, bs = [.sending r]) ∨
      (∃ r q, bs = [.sending r, .held q] ∨ bs = [.held q, .sending r]) ∨
      ∃ r r', bs = [.sending r, .taken r'] ∨ bs = [.taken r', .sending r] := by
  rcases bs with _ | ⟨a, _ | ⟨b, _ | ⟨c, bs⟩⟩⟩
  · exact .inl rfl
  · cases a <;> simp_all [BuffersWf, isSending, isTaken]
  · cases a <;> cases b <;> simp_all [BuffersWf, List.filter, isSending, isTaken]
  · exact absurd h.1 (by simp)

theorem buffersWf_nil : BuffersWf [] := by simp [BuffersWf]

/-- A good frame's request joins one buffer in use (R170). -/
theorem BuffersWf.store {bs : List Buffer} (h : BuffersWf bs) (q : Request) (free : bs.length < 2) :
    BuffersWf (bs ++ [.held q]) := by
  rcases h.cases with rfl | ⟨q', rfl⟩ | ⟨q', q'', rfl⟩ | ⟨r, rfl⟩ | ⟨r, q', rfl | rfl⟩ | ⟨r, r', rfl | rfl⟩ <;>
    simp_all [BuffersWf, List.filter, isSending, isTaken]

/-- The taken request's buffer gets its response (R171). -/
theorem BuffersWf.answer {bs : List Buffer} (h : BuffersWf bs) (r : Response) (none : bs.any isTaken = false) :
    BuffersWf (answer r (bs.any isSending) bs) := by
  rcases h.cases with rfl | ⟨q, rfl⟩ | ⟨q, q', rfl⟩ | ⟨r', rfl⟩ | ⟨r', q, rfl | rfl⟩ | ⟨r', r'', rfl | rfl⟩ <;>
    simp_all [BuffersWf, List.filter, Machine.answer, isSending, isTaken]

/-- The end of a response, and the start of the one behind it (R170, R171). -/
theorem BuffersWf.next {bs : List Buffer} (h : BuffersWf bs) : BuffersWf (nextResponse bs) := by
  rcases h.cases with rfl | ⟨q, rfl⟩ | ⟨q, q', rfl⟩ | ⟨r, rfl⟩ | ⟨r, q, rfl | rfl⟩ | ⟨r, r', rfl | rfl⟩ <;>
    simp_all [BuffersWf, List.filter, nextResponse, startResponse, endResponse, isSending, isTaken]

/-- With nothing SENDING nothing is TAKEN, so a start on an idle transmitter finds nothing (R171). -/
theorem BuffersWf.start {bs : List Buffer} (h : BuffersWf bs) (idle : bs.any isSending = false) : startResponse bs = bs := by
  rcases h.cases with rfl | ⟨q, rfl⟩ | ⟨q, q', rfl⟩ | ⟨r, rfl⟩ | ⟨r, q, rfl | rfl⟩ | ⟨r, r', rfl | rfl⟩ <;>
    simp_all [startResponse, isSending]

/-- RESTART drops the HELD request of the other buffer (R179). -/
theorem BuffersWf.dropOtherHeld {bs : List Buffer} (h : BuffersWf bs) :
    BuffersWf (dropOtherHeld bs) ∧ (dropOtherHeld bs).any isTaken = bs.any isTaken := by
  rcases h.cases with rfl | ⟨q, rfl⟩ | ⟨q, q', rfl⟩ | ⟨r, rfl⟩ | ⟨r, q, rfl | rfl⟩ | ⟨r, r', rfl | rfl⟩ <;>
    simp_all [BuffersWf, List.filter, Machine.dropOtherHeld, isSending, isTaken, isHeld]

end Sys2Proof.Machine
end

