-- ==== Sys2Proof/Laws/PerInstr.lean ====
section
/-! SUPPORT. What well-formedness asks of each command's operands, a lemma for every constructor. -/

namespace Sys2Proof.Laws.OperandBounds

/-- Exactly the operands the part's lines and the settings image bound are checked (R167, R181 to R184): the length of a break,
the bytes a cut or failed save had written, and the place of an unacknowledged byte. -/
def Statement : Instr → Prop
  | .lineBreak dt n => (Instr.lineBreak dt n).wf = true ↔ 11 ≤ n
  | .saveFailed dt n => (Instr.saveFailed dt n).wf = true ↔ n < 427
  | .powerOnReset pins n => (Instr.powerOnReset pins n).wf = true ↔ n < 427
  | .resetPin pins n => (Instr.resetPin pins n).wf = true ↔ n < 427
  | .settingsLoad dt nack => (Instr.settingsLoad dt nack).wf = true ↔ ∀ n, nack = some n → n < 427
  | i => i.wf = true

theorem powerOnReset (pins : PinLevels) (written : Nat) : Statement (.powerOnReset pins written) :=
  ⟨of_decide_eq_true, decide_eq_true⟩

theorem resetPin (pins : PinLevels) (written : Nat) : Statement (.resetPin pins written) :=
  ⟨of_decide_eq_true, decide_eq_true⟩

theorem settingsLoad (dt : Nat) (nack : Option Nat) : Statement (.settingsLoad dt nack) := by
  cases nack with
  | none => exact ⟨fun _ _ e => (nomatch e), fun _ => rfl⟩
  | some m => exact ⟨fun w n e => by cases e; exact of_decide_eq_true w, fun w => decide_eq_true (w m rfl)⟩

theorem saveDone (dt : Nat) : Statement (.saveDone dt) := rfl

theorem saveFailed (dt : Nat) (written : Nat) : Statement (.saveFailed dt written) :=
  ⟨of_decide_eq_true, decide_eq_true⟩

theorem lineBreak (dt : Nat) (lowBits : Nat) : Statement (.lineBreak dt lowBits) :=
  ⟨of_decide_eq_true, decide_eq_true⟩

theorem strayByte (dt : Nat) (ch : LinkChar) : Statement (.strayByte dt ch) := rfl

theorem idleLimit : Statement .idleLimit := rfl

theorem frameComplete (dt : Nat) (ch : LinkChar) : Statement (.frameComplete dt ch) := rfl

theorem responseStart (dt : Nat) : Statement (.responseStart dt) := rfl

theorem responseEnd (dt : Nat) : Statement (.responseEnd dt) := rfl

theorem unknown (dt : Nat) : Statement (.unknown dt) := rfl

theorem status (dt : Nat) : Statement (.status dt) := rfl

theorem identify (dt : Nat) : Statement (.identify dt) := rfl

theorem attnAck (dt : Nat) : Statement (.attnAck dt) := rfl

theorem attnMask (dt : Nat) : Statement (.attnMask dt) := rfl

theorem restart (dt : Nat) : Statement (.restart dt) := rfl

theorem passCreate (dt : Nat) : Statement (.passCreate dt) := rfl

theorem passLookup (dt : Nat) : Statement (.passLookup dt) := rfl

theorem passList (dt : Nat) : Statement (.passList dt) := rfl

theorem passBind (dt : Nat) : Statement (.passBind dt) := rfl

theorem passAmend (dt : Nat) : Statement (.passAmend dt) := rfl

theorem passAbort (dt : Nat) : Statement (.passAbort dt) := rfl

theorem passRetire (dt : Nat) : Statement (.passRetire dt) := rfl

theorem passHold (dt : Nat) : Statement (.passHold dt) := rfl

theorem passResume (dt : Nat) : Statement (.passResume dt) := rfl

theorem tripClear (dt : Nat) : Statement (.tripClear dt) := rfl

theorem itemRegister (dt : Nat) : Statement (.itemRegister dt) := rfl

theorem itemLookup (dt : Nat) : Statement (.itemLookup dt) := rfl

theorem itemList (dt : Nat) : Statement (.itemList dt) := rfl

theorem itemMount (dt : Nat) : Statement (.itemMount dt) := rfl

theorem itemDismount (dt : Nat) : Statement (.itemDismount dt) := rfl

theorem itemAdjust (dt : Nat) : Statement (.itemAdjust dt) := rfl

theorem itemRetire (dt : Nat) : Statement (.itemRetire dt) := rfl

theorem headWrite (dt : Nat) : Statement (.headWrite dt) := rfl

theorem headRead (dt : Nat) : Statement (.headRead dt) := rfl

theorem blendWrite (dt : Nat) : Statement (.blendWrite dt) := rfl

theorem feedWrite (dt : Nat) : Statement (.feedWrite dt) := rfl

theorem phaseWrite (dt : Nat) : Statement (.phaseWrite dt) := rfl

theorem phaseLoad (dt : Nat) : Statement (.phaseLoad dt) := rfl

theorem slurryRead (dt : Nat) : Statement (.slurryRead dt) := rfl

theorem profileWrite (dt : Nat) : Statement (.profileWrite dt) := rfl

theorem platenWrite (dt : Nat) : Statement (.platenWrite dt) := rfl

theorem conditioningRead (dt : Nat) : Statement (.conditioningRead dt) := rfl

theorem carouselIndex (dt : Nat) : Statement (.carouselIndex dt) := rfl

theorem carouselSync (dt : Nat) (code : Fin 4) : Statement (.carouselSync dt code) := rfl

theorem settingsSave (dt : Nat) : Statement (.settingsSave dt) := rfl

theorem tripEvent (dt : Nat) : Statement (.tripEvent dt) := rfl

theorem estopRelease (dt : Nat) : Statement (.estopRelease dt) := rfl

theorem polishTimeAdvance (h : Head) : Statement (.polishTimeAdvance h) := rfl

theorem stepTimerExpiry (h : Head) : Statement (.stepTimerExpiry h) := rfl

theorem endpointEdge (dt : Nat) (p : Platen) : Statement (.endpointEdge dt p) := rfl

theorem platenIndexEdge (dt : Nat) (p : Platen) : Statement (.platenIndexEdge dt p) := rfl

theorem stallTimerExpiry (p : Platen) : Statement (.stallTimerExpiry p) := rfl

theorem pressureSample (h : Head) (c : Chan) (code : BitVec 12) : Statement (.pressureSample h c code) := rfl

theorem valvePeriodStart (h : Head) (c : Chan) : Statement (.valvePeriodStart h c) := rfl

theorem delayedPulseStart (h : Head) (c : Chan) : Statement (.delayedPulseStart h c) := rfl

theorem pulseEnd (h : Head) (c : Chan) : Statement (.pulseEnd h c) := rfl

theorem ventOpen (h : Head) (c : Chan) : Statement (.ventOpen h c) := rfl

theorem strokeSlot (f : Feed) : Statement (.strokeSlot f) := rfl

theorem pumpPulseEnd (dt : Nat) (f : Feed) : Statement (.pumpPulseEnd dt f) := rfl

theorem minuteTick : Statement .minuteTick := rfl

theorem dwellExpiry (p : Platen) : Statement (.dwellExpiry p) := rfl

theorem carouselIndexCompletion (dt : Nat) (code : Fin 4) : Statement (.carouselIndexCompletion dt code) := rfl

theorem indexTimerExpiry : Statement .indexTimerExpiry := rfl

theorem byteArrivesReceiving (dt : Nat) (ch : LinkChar) : Statement (.byteArrivesReceiving dt ch) := rfl

theorem indexFallingEdge (dt : Nat) (p : Platen) : Statement (.indexFallingEdge dt p) := rfl

theorem cdoneFallingEdge (dt : Nat) : Statement (.cdoneFallingEdge dt) := rfl

theorem endpointFallingEdge (dt : Nat) (p : Platen) : Statement (.endpointFallingEdge dt p) := rfl

end Sys2Proof.Laws.OperandBounds
end

