-- ==== Sys2Proof/Laws/Remaking.lean ====
section
/-! SUPPORT. The commands that make, bind, amend, end or resume a pass, move the carousel or change the trip latch: what each
asks of a property of records so that it keeps it. -/

namespace Sys2Proof.Machine

variable {k : Fin 4} {free : Prop} {L : Wanted} {Q : PassSlot → Pass → Prop}

/-! ### What an accepted request was checked for -/

/-- A request by slot that passes its checks names a live record. -/
theorem slotChecks_ok {α : Type} {n : Nat} {b : Bool} {payload : List Byte} {s : State}
    {own : PassSlot → Pass → Except Status α} {a : α} (h : slotChecks n b payload s own = .ok a) :
    ∃ i r, s.pass i = some r ∧ own i r = .ok a := by
  unfold slotChecks at h
  split at h
  · cases h
  · split at h
    · cases h
    · split at h
      · cases h
      · rename_i i r e
        refine ⟨i, r, ?_, h⟩
        unfold State.liveSlot at e
        split at e
        · cases hp : s.pass ‹_› <;> simp [hp] at e
          obtain ⟨rfl, rfl⟩ := e
          exact hp
        · cases e

/-- A step program that is read is valid (R6). -/
theorem readStep_valid {bs : List Byte} {st : StepProgram} (h : readStep bs = some st) : st.valid = true := by
  unfold readStep at h
  split at h
  · dsimp only at h
    split at h
    · cases h
      assumption
    · cases h
  · cases h

/-- The step programs that are read are as many as asked for, each valid (R11). -/
theorem readSteps_valid : ∀ (n : Nat) (bs : List Byte) (l : List StepProgram), readSteps n bs = some l →
    l.length = n ∧ ∀ st ∈ l, st.valid = true
  | 0, _, l, h => by
    cases h
    simp
  | n + 1, bs, l, h => by
    unfold readSteps at h
    split at h
    · rename_i st rest e1 e2
      cases h
      have := readSteps_valid n _ _ e2
      refine ⟨by simp [this.1], ?_⟩
      intro x hx
      rcases List.mem_cons.1 hx with rfl | hx
      · exact readStep_valid e1
      · exact this.2 x hx
    · cases h

/-- A created record takes a free slot, its tag is new and not 0, and it has 1 to 4 valid step programs (R11, R12). -/
theorem passCreateCheck_ok {payload : List Byte} {s : State} {a : PassSlot × Pass} (h : passCreateCheck payload s = .ok a) :
    ∃ tag steps, a.2 = freshPass tag steps ∧ tag ≠ 0 ∧ 1 ≤ steps.length ∧ steps.length ≤ 4 ∧
      (∀ st ∈ steps, st.valid = true) ∧ s.tagLive tag = false ∧ s.pass a.1 = none := by
  unfold passCreateCheck at h
  dsimp only at h
  split at h
  · cases h
  · split at h
    · cases h
    · rename_i hn
      split at h
      · cases h
      · split at h
        · cases h
        · rename_i st hst
          split at h
          · cases h
          · rename_i ht
            split at h
            · cases h
            · rename_i hl
              split at h
              · cases h
              · rename_i i hi
                cases h
                have v := readSteps_valid _ _ _ hst
                simp only [within, Bool.not_eq_true', decide_eq_false_iff_not, not_not] at hn
                refine ⟨_, _, rfl, ht, by omega, by omega, v.2, by simpa using hl, ?_⟩
                have := List.find?_some hi
                simpa using this

/-- A bound record was STAGED, its head free at the load station of a STOPPED carousel, and the trip latch clear (R15). -/
theorem passBindCheck_ok {payload : List Byte} {s : State} {a : PassSlot × Pass} (h : passBindCheck payload s = .ok a) :
    ∃ r hd, s.pass a.1 = some r ∧ a.2 = { r with state := .waiting, head := some hd, startBlock := none } ∧
      r.state = .staged ∧ s.tripLatch = false ∧ s.carousel.state = .stopped ∧ stationOf s.carousel.k hd = 0 ∧
      s.holderOf hd = none := by
  obtain ⟨i, r, hr, ho⟩ := slotChecks_ok h
  split at ho
  · cases ho
  · rename_i hd _
    unfold bindChecks at ho
    split at ho
    · cases ho
    · split at ho
      · cases ho
      · split at ho
        · cases ho
        · split at ho
          · cases ho
          · split at ho
            · cases ho
            · rename_i h1 h2 h3 h4 h5
              cases ho
              exact ⟨r, hd, hr, rfl, by simpa using h2, by simpa using h1, by simpa using h3, by simpa using h4,
                by simpa using h5⟩

/-- An amended record was not ENDED, the amended step is not behind c, and its rewritten program is valid (R17). -/
theorem passAmendCheck_ok {payload : List Byte} {s : State} {a : AcceptedAmend} (h : passAmendCheck payload s = .ok a) :
    ∃ r n st m, s.pass a.slot = some r ∧ r.steps[n]? = some st ∧ a.record = r.setStep n (Amend.apply m st) ∧
      r.state ≠ .ended ∧ r.current ≤ n ∧ (m.apply st).valid = true ∧
      a.newLimit = if n = r.current then m.timeLimit else none := by
  unfold passAmendCheck at h
  dsimp only at h
  split at h
  · cases h
  · obtain ⟨i, r, hr, ho⟩ := slotChecks_ok h
    unfold amendChecks at ho
    split at ho
    · cases ho
    · rename_i st hst
      split at ho
      · cases ho
      · rename_i hc
        split at ho
        · cases ho
        · rename_i hv
          cases ho
          rw [not_or, not_lt] at hc
          exact ⟨r, _, st, _, hr, hst, rfl, hc.1, hc.2, by simpa using hv, rfl⟩

/-- An aborted record was live and not ENDED (R22). -/
theorem passAbortCheck_ok {payload : List Byte} {s : State} {a : PassSlot × Pass} (h : passAbortCheck payload s = .ok a) :
    s.pass a.1 = some a.2 ∧ a.2.state ≠ .ended := by
  obtain ⟨i, r, hr, ho⟩ := slotChecks_ok h
  split at ho
  · cases ho
  · cases ho
    exact ⟨hr, by assumption⟩

/-- A resumed record was HELD with a head and a step, and nothing blocked it (R163). -/
theorem passResumeCheck_ok {payload : List Byte} {s : State} {a : Resume} (h : passResumeCheck payload s = .ok a) :
    s.pass a.slot = some a.record ∧ a.record.state = .held ∧ a.record.head = some a.head ∧ a.record.step = some a.step ∧
      s.resumeBlocked a.head a.step = false := by
  obtain ⟨i, r, hr, ho⟩ := slotChecks_ok h
  split at ho
  · cases ho
  · rename_i hs
    split at ho
    · split at ho
      · cases ho
      · rename_i hb
        cases ho
        exact ⟨hr, by simpa using hs, by assumption, by assumption, by simpa using hb⟩
    · cases ho

/-! ### The commands -/

theorem Records.passCreate {s t : State} (dt : Nat) (h : Records k free L Q s) (e : exec (.passCreate dt) s = .next t)
    (q : ∀ i tag steps, tag ≠ 0 → 1 ≤ steps.length → steps.length ≤ 4 → (∀ st ∈ steps, StepProgram.valid st = true) →
      s.tagLive tag = false → s.pass i = none → Q i (freshPass tag steps)) : Records k free L Q t := by
  rw [next_inj e]
  refine h.serve _ _ _ fun p a h hk => h.setPass _ _ ?_
  obtain ⟨tag, steps, e, h1, h2, h3, h4, h5, h6⟩ := passCreateCheck_ok hk
  exact e ▸ q _ tag steps h1 h2 h3 h4 h5 h6

theorem Records.passBind {s t : State} (dt : Nat) (h : Records k free L Q s) (e : exec (.passBind dt) s = .next t)
    (q : ∀ i r hd, s.pass i = some r → Q i r → r.state = .staged → s.tripLatch = false → s.carousel.state = .stopped →
      stationOf s.carousel.k hd = 0 → s.holderOf hd = none →
      Q i { r with state := .waiting, head := some hd, startBlock := none }) : Records k free L Q t := by
  rw [next_inj e]
  refine h.serve _ _ _ fun p a h hk => h.setPass _ _ ?_
  obtain ⟨r, hd, hr, e, h1, h2, h3, h4, h5⟩ := passBindCheck_ok hk
  exact e ▸ q _ r hd hr (h.all _ r hr) h1 h2 h3 h4 h5

theorem Records.passAmend (c : Closed k free Q) {s t : State} (dt : Nat) (h : Records k free L Q s)
    (e : exec (.passAmend dt) s = .next t)
    (q : ∀ i r n st m, s.pass i = some r → Q i r → r.steps[n]? = some st → r.state ≠ .ended → r.current ≤ n →
      (Amend.apply m st).valid = true → Q i (r.setStep n (m.apply st))) : Records k free L Q t := by
  rw [next_inj e]
  refine h.serve _ _ _ fun p a h hk => h.amend c a ?_
  obtain ⟨r, n, st, m, hr, hn, e, h1, h2, h3, _⟩ := passAmendCheck_ok hk
  exact e ▸ q _ r n st m hr (h.all _ r hr) hn h1 h2 h3

theorem Records.passAbort (c : Closed k free Q) {s t : State} (dt : Nat) (h : Records k free L Q s)
    (e : exec (.passAbort dt) s = .next t)
    (q : ∀ i r, s.pass i = some r → Q i r → r.state ≠ .ended → r.running = false → Q i (r.enterEnded .aborted)) :
    Records k free L Q t := by
  rw [next_inj e]
  refine h.serve _ _ _ fun p a h hk => ?_
  obtain ⟨hr, hs⟩ := passAbortCheck_ok hk
  dsimp only [passAbortRule]
  cases run : a.2.running
  · exact h.abort c a.1 a.2 (q _ _ hr (h.all _ _ hr) hs run)
  · unfold State.abort
    rw [run]
    exact h.endStep c _ _

theorem Records.passResume (c : Closed k free Q) {s t : State} (dt : Nat) (h : Records k free L Q s)
    (e : exec (.passResume dt) s = .next t)
    (q : ∀ i r st now, s.pass i = some r → Q i r → r.state = .held → r.step = some st → s.tripLatch = false →
      Q i (r.resumed st now)) : Records k free L Q t := by
  rw [next_inj e]
  refine h.serve _ _ _ fun p a h hk => ?_
  obtain ⟨hr, hs, _, hst, hb⟩ := passResumeCheck_ok hk
  have lc : s.tripLatch = false := by
    unfold State.resumeBlocked at hb
    cases x : s.tripLatch
    · rfl
    · simp [x] at hb
  exact h.resume c a (h.latched lc) (q _ _ _ _ hr (h.all _ _ hr) hs hst lc)

theorem Records.carouselIndex {s t : State} (dt : Nat) (h : Records k free L Q s)
    (e : exec (.carouselIndex dt) s = .next t) : Records k free L Q t := by
  rw [next_inj e]
  refine h.serve _ _ _ fun _ _ h _ => ?_
  exact ⟨h.all, h.offset, fun _ x => (by cases x), h.latched, h.channels, h.dwells, h.parked⟩

theorem Records.indexTimerExpiry {s t : State} (h : Records k free L Q s)
    (e : exec .indexTimerExpiry s = .next t) : Records k free L Q t := by
  rw [next_inj e]
  split
  · exact h
  · exact ⟨h.all, h.offset, fun _ x => (by cases x), h.latched, h.channels, h.dwells, h.parked⟩

/-- A carousel that comes to stand at a new offset: the property may depend on the offset, so the caller gives it there. -/
theorem Records.stopCarousel {k' : Fin 4} {free' : Prop} {Q' : PassSlot → Pass → Prop} {s : State}
    (h : Records k free L Q s) (code : Fin 4) (q : AllPass Q' s) (f : free') (hk : code = k') :
    Records k' free' L Q' (s.stopCarousel code) :=
  ⟨q, hk, fun _ _ => f, h.latched, h.channels, h.dwells, h.parked⟩

theorem Records.ventAll {s : State} (h : Records k free L Q s) : Records k free L Q s.ventAll :=
  (((h.ventHead _).ventHead _).ventHead _).ventHead _

theorem Records.tripCarousel {s : State} (h : Records k free L Q s) : Records k free L Q s.tripCarousel := by
  unfold State.tripCarousel
  split
  · exact ⟨h.all, h.offset, fun _ x => (by cases x), h.latched, h.channels, h.dwells, h.parked⟩
  · exact h

/-- Under the latch nothing starts. -/
theorem Records.latch {s : State} (h : Records k free L Q s) : Records k free L Q ({ s with tripLatch := true }.raise .trip) :=
  ⟨h.all, h.offset, fun x => (by cases x), fun x => (by cases x), h.channels, h.dwells, h.parked⟩

theorem Records.trip (c : Closed k free Q) {s : State} (h : Records k free L Q s) : Records k free L Q s.trip :=
  ((((h.latch.holdAll c).ventAll).plain (.clearAllDemand _)).tripArms c).tripCarousel

theorem Records.tripEvent (c : Closed k free Q) {s t : State} (dt : Nat) (h : Records k free L Q s)
    (e : exec (.tripEvent dt) s = .next t) : Records k free L Q t := by
  rw [next_inj e]
  split
  · exact h.elapse dt
  · have w : Records k free L Q { s.elapse dt with estop := true } := h.steady rfl rfl rfl rfl rfl
    exact .ite _ w (w.trip c)

/-- TRIP-CLEAR makes attempts again, so it needs what a start needs even though the latch was set. -/
theorem Records.tripClear (c : Closed k free Q) {s t : State} (dt : Nat) (h : Records k free L Q s)
    (e : exec (.tripClear dt) s = .next t) (f : s.carousel.state = .stopped → free) (n : ¬L.parked) :
    Records k free L Q t := by
  rw [next_inj e]
  refine h.serve _ _ _ fun _ a h _ => ?_
  have w : Records k free L Q { s.elapse dt with tripLatch := false } :=
    ⟨h.all, h.offset, fun _ => f, fun _ => n, h.channels, h.dwells, h.parked⟩
  exact .ite _ (w.attemptAll c) h

/-- After a full reset every slot is free. -/
theorem pass_fullReset (s : State) (pins : PinLevels) (written : Nat) (i : PassSlot) :
    (s.fullReset pins written).pass i = none := by
  simp [State.fullReset, State.afterReset, State.pass, slotAt]

end Sys2Proof.Machine
end

