-- ==== Sys2Proof/Laws/Sweeps.lean ====
section
/-! SUPPORT. Operations keep the dwell timers running exactly while their arms sweep, each arm for a service. -/

namespace Sys2Proof.Machine

/-- The dwell timer of an arm runs exactly while it sweeps, and it sweeps for a service (R126). -/
def Arm.timed (a : Arm) : Prop :=
  (a.dwell ≠ none → a.sweeping = true) ∧ (a.sweeping = true → a.dwell ≠ none ∧ a.service ≠ .none)

/-- Every arm is timed, and every profile has a segment to sweep (R127). -/
def State.sweepsReady (s : State) : Prop := (∀ q, s.profile q ≠ []) ∧ ∀ p, (s.arms.get p).timed

/-- What the invariants of the statements say of the arms. -/
theorem sweepsReady_of {s : State} (w : s.settingsWf) (d : s.dwellsWf) (t : s.sweepsTimed) : s.sweepsReady :=
  ⟨fun q => List.length_pos_iff.1 (w.2.2.2.1 q).1, fun p => ⟨d p, t p⟩⟩

theorem Arm.timed_parked (a : Arm) (w : a.sweeping = false) (d : a.dwell = none) : a.timed :=
  ⟨fun n => absurd d n, fun n => by rw [w] at n; cases n⟩

/-- Every segment index within a profile names a segment, in either direction (R127). -/
theorem sweepSegment_ne_none {pr : Profile} (d : Direction) {i : Nat} (h : i < pr.length) : sweepSegment pr d i ≠ none := by
  unfold sweepSegment
  split
  · simp [List.getElem?_eq_getElem h]
  · rw [if_pos h, List.getElem?_eq_getElem (by omega)]
    simp

/-- An operation keeps the arms ready. -/
structure SweepsKept (s t : State) : Prop where
  keep : s.sweepsReady → t.sweepsReady

theorem SweepsKept.same (s : State) : SweepsKept s s := ⟨id⟩

theorem SweepsKept.then {s t u : State} (a : SweepsKept s t) (b : SweepsKept t u) : SweepsKept s u := ⟨b.keep ∘ a.keep⟩

theorem SweepsKept.ite {s t u : State} (c : Prop) [Decidable c] (a : SweepsKept s t) (b : SweepsKept s u) :
    SweepsKept s (if c then t else u) := by
  split
  · exact a
  · exact b

theorem SweepsKept.foldl {α : Type} (f : State → α → State) (h : ∀ t i, SweepsKept t (f t i)) (l : List α) :
    ∀ s : State, SweepsKept s (l.foldl f s) := by
  induction l with
  | nil => exact SweepsKept.same
  | cons i l ih => exact fun s => (h s i).then (ih (f s i))

/-- An operation that leaves the arms and the profiles alone keeps them ready. -/
theorem SweepsKept.of {s t : State} (a : t.arms = s.arms) (b : t.profiles = s.profiles) : SweepsKept s t := by
  constructor
  unfold State.sweepsReady State.profile
  rw [a, b]
  exact id

theorem SweepsKept.plain {s t : State} (a : Plain s t) : SweepsKept s t := .of a.arms a.served.station.outside.profiles

theorem SweepsKept.setPass (s : State) (i : PassSlot) (r : Option Pass) : SweepsKept s (s.setPass i r) := .of rfl rfl

theorem SweepsKept.setArm (s : State) (p : Platen) (a : Arm) (h : s.sweepsReady → a.timed) :
    SweepsKept s (s.setArm p a) := by
  refine ⟨fun w => ⟨w.1, fun q => ?_⟩⟩
  rw [setArm_arms, PerPlaten.get_set]
  split
  · exact h w
  · exact w.2 q

theorem SweepsKept.park (s : State) (p : Platen) (a : Arm) (w : a.sweeping = false) (d : a.dwell = none) :
    SweepsKept s (s.setArm p a) := .setArm _ _ _ fun _ => a.timed_parked w d

theorem SweepsKept.updateHead (s : State) (h : Head) (f : Chan → Channel → Channel) : SweepsKept s (s.updateHead h f) :=
  .of rfl rfl

/-- A sweep begins in a station whose arm has a service (R128). -/
theorem SweepsKept.beginSweep (s : State) (p : Platen) (h : (s.arms.get p).service ≠ .none) :
    SweepsKept s (s.beginSweep p) := by
  refine .setArm _ _ _ fun w => ⟨fun _ => rfl, fun _ => ⟨?_, h⟩⟩
  have ne : s.armProfile p ≠ [] := by
    unfold State.armProfile Service.profile
    cases e : (s.arms.get p).service with
    | none => exact absurd e h
    | inSitu q => exact w.1 q
    | exSitu q => exact w.1 q
  simpa [Arm.beginSweep, Arm.enterSegment] using
    sweepSegment_ne_none (s.arms.get p).direction (List.length_pos_iff.2 ne)

theorem SweepsKept.parkInSitu (s : State) (p : Platen) : SweepsKept s (s.parkInSitu p) :=
  .ite _ (.park _ _ _ rfl rfl) (.same s)

theorem SweepsKept.endInSitu (s : State) (p : Platen) : SweepsKept s (s.endInSitu p) :=
  .ite _ (.park _ _ _ rfl rfl) (.same s)

theorem SweepsKept.startInSitu (s : State) (p : Platen) (q : Fin 4) : SweepsKept s (s.startInSitu p q) := by
  unfold State.startInSitu
  refine SweepsKept.then (.setArm _ _ { s.arms.get p with service := .inSitu q, direction := .outward } fun w =>
    ⟨(w.2 p).1, fun n => ⟨((w.2 p).2 n).1, by simp⟩⟩) (.beginSweep _ _ ?_)
  simp [PerPlaten.get_set]

theorem SweepsKept.pauseSweeps (s : State) (p : Platen) : SweepsKept s (s.pauseSweeps p) :=
  .ite _ (.park _ _ _ rfl rfl) (.same s)

theorem SweepsKept.resumeSweeps (s : State) (p : Platen) : SweepsKept s (s.resumeSweeps p) := by
  unfold State.resumeSweeps
  dsimp only
  split
  · rename_i c
    refine .beginSweep _ _ fun e => ?_
    rw [e] at c
    simp [Service.isExSitu] at c
  · exact .same s

theorem SweepsKept.updateLive (s : State) (i : PassSlot) (f : LiveProgress → LiveProgress) :
    SweepsKept s (s.updateLive i f) := by
  unfold State.updateLive
  split
  · exact .setPass _ _ _
  · exact .same s

theorem SweepsKept.updateLiveOn (s : State) (p : Platen) (f : LiveProgress → LiveProgress) :
    SweepsKept s (s.updateLiveOn p f) := by
  unfold State.updateLiveOn
  split
  · exact .updateLive _ _ _
  · exact .same s

theorem SweepsKept.conditionStart (s : State) (st : StepProgram) : SweepsKept s (s.conditionStart st) := by
  unfold State.conditionStart
  split
  · exact .startInSitu _ _ _
  · exact .same s
  · exact .same s

theorem SweepsKept.startStep (s : State) (i : PassSlot) (r : Pass) (h : Head) (st : StepProgram) :
    SweepsKept s (s.startStep i r h st) :=
  ((((SweepsKept.setPass _ _ _).then (.updateHead _ _ _)).then (.plain (.setSupply _ _ _))).then (.conditionStart _ _)).then
    (.plain (.addUsageOf _ _ _))

theorem SweepsKept.attempt (s : State) (i : PassSlot) : SweepsKept s (s.attempt i) := by
  unfold State.attempt
  split
  · exact .same s
  · split
    · split
      · split
        · exact .setPass _ _ _
        · exact .startStep _ _ _ _ _
      · exact .same s
    · exact .same s

theorem SweepsKept.attemptEach (s : State) (reaches : Pass → Bool) : SweepsKept s (s.attemptEach reaches) :=
  SweepsKept.foldl _ (fun t i => .ite _ (.attempt t i) (.same t)) _ s

theorem SweepsKept.attemptAll (s : State) : SweepsKept s s.attemptAll := .attemptEach _ _

theorem SweepsKept.attemptOver (s : State) (p : Platen) : SweepsKept s (s.attemptOver p) := .attemptEach _ _

theorem SweepsKept.attemptOn (s : State) (h : Head) : SweepsKept s (s.attemptOn h) := .attemptEach _ _

theorem SweepsKept.suspendService (s : State) (r : Pass) : SweepsKept s (s.suspendService r) := by
  unfold State.suspendService
  split
  · exact ((SweepsKept.updateHead _ _ _).then (.plain (.setSupply _ _ _))).then (.parkInSitu _ _)
  · exact .same s

theorem SweepsKept.addCause (s : State) (i : PassSlot) (c : HoldCause) : SweepsKept s (s.addCause i c) := by
  unfold State.addCause
  split
  · exact .same s
  · split
    · exact (SweepsKept.setPass _ _ _).then (.suspendService _ _)
    · exact .setPass _ _ _
    · exact .same s
    · exact .same s
    · exact .same s

theorem SweepsKept.addCauseOf (s : State) (found : Option PassSlot) (c : HoldCause) :
    SweepsKept s (s.addCauseOf found c) := by
  unfold State.addCauseOf
  split
  · exact .addCause _ _ _
  · exact .same s

theorem SweepsKept.supplyLoss (s : State) (f : Feed) : SweepsKept s (s.supplyLoss f) :=
  (SweepsKept.foldl _ (fun t i => .ite _ (.addCause t i .supply) (.same t)) _ s).then
    (.plain (.raiseIf _ _ _))

theorem SweepsKept.endExSitu (s : State) (p : Platen) : SweepsKept s (s.endExSitu p) :=
  (SweepsKept.park s p { (s.arms.get p).park with service := .none, exSitu := 0 } rfl rfl).then (.attemptOver _ _)

theorem SweepsKept.wearStop (s : State) (p : Platen) : SweepsKept s (s.wearStop p) := by
  unfold State.wearStop
  split
  · exact .same s
  · exact (SweepsKept.park _ _ _ rfl rfl).then (.updateLiveOn _ _ _)
  · exact .endExSitu _ _

theorem SweepsKept.reportWear (s : State) (p : Platen) : SweepsKept s (s.reportWear p) := .ite _ (.same s) (.wearStop _ _)

/-- The hand-off gives the arm an EX_SITU service first (R134). -/
theorem SweepsKept.handOff (s : State) (p : Platen) (q : Fin 4) (n : Nat) : SweepsKept s (s.handOff p q n) := by
  have served : SweepsKept s
      (s.setArm p { s.arms.get p with service := .exSitu q, exSitu := n, direction := .outward, segment := 0 }) :=
    .setArm _ _ _ fun w => ⟨(w.2 p).1, fun on => ⟨((w.2 p).2 on).1, by simp⟩⟩
  refine .ite _ (.same s) (.ite _ (.same s) (.ite _ served (served.then (.beginSweep _ _ ?_))))
  simp [PerPlaten.get_set]

theorem SweepsKept.goOnSweeping (s : State) (p : Platen) (h : (s.arms.get p).service ≠ .none) :
    SweepsKept s (s.goOnSweeping p) :=
  .ite _ (.wearStop _ _) (.ite _ (.endExSitu _ _) (.beginSweep _ _ h))

theorem SweepsKept.completeSweep (s : State) (p : Platen) (h : (s.arms.get p).service ≠ .none) :
    SweepsKept s (s.completeSweep p) := by
  have used := Plain.addUsageOf s (s.mounted .disk (.platen p)) 1
  unfold State.completeSweep
  refine ((SweepsKept.plain used).then (.setArm _ _ _ fun w => ?_)).then (.goOnSweeping _ _ ?_)
  · exact w.2 p
  · rw [setArm_arms, PerPlaten.get_set, if_pos rfl, used.arms]
    exact h

/-- A running dwell timer stands on a SWEEPING arm, which has a service (R128, R129). -/
theorem SweepsKept.dwellExpires (s : State) (p : Platen) (running : (s.arms.get p).dwell ≠ none) :
    SweepsKept s (s.dwellExpires p) := by
  refine ⟨fun w => ?_⟩
  have sweeping := (w.2 p).1 running
  have served := ((w.2 p).2 sweeping).2
  refine SweepsKept.keep (s := s) ?_ w
  unfold State.dwellExpires
  dsimp only
  split
  · rename_i more
    refine .setArm _ _ _ fun _ => ⟨fun _ => sweeping, fun _ => ⟨?_, served⟩⟩
    simpa [Arm.enterSegment] using sweepSegment_ne_none (s.arms.get p).direction more
  · exact .completeSweep _ _ served

theorem SweepsKept.endService (s : State) (h : Head) (st : StepProgram) : SweepsKept s (s.endService h st) := by
  have base : SweepsKept s ((s.ventHead h).stopDispensing st.platen) :=
    (SweepsKept.updateHead _ _ _).then (.plain (.setSupply _ _ _))
  unfold State.endService
  dsimp only
  split
  · exact base.then (.endInSitu _ _)
  · exact base
  · exact base

theorem SweepsKept.handOffAfter (s : State) (st : StepProgram) (cause : StepEnd) :
    SweepsKept s (s.handOffAfter st cause) := by
  unfold State.handOffAfter
  split
  · exact .ite _ (.same s) (.handOff _ _ _ _)
  · exact .same s
  · exact .same s

theorem SweepsKept.endStep (s : State) (i : PassSlot) (cause : StepEnd) : SweepsKept s (s.endStep i cause) := by
  unfold State.endStep
  split
  · exact .same s
  · split
    · have closed : ∀ r b h st, SweepsKept s
          (((((s.setPass i r).raise .stepEnd).raiseIf b .passEnd).endService h st).handOffAfter st cause) := fun _ _ _ _ =>
        ((((SweepsKept.setPass _ _ _).then (.plain (.raise _ _))).then (.plain (.raiseIf _ _ _))).then
          (.endService _ _ _)).then (.handOffAfter _ _ _)
      exact .ite _ ((closed _ _ _ _).then (.attempt _ _)) (closed _ _ _ _)
    · exact .same s

theorem SweepsKept.conditionResume (s : State) (st : StepProgram) : SweepsKept s (s.conditionResume st) := by
  unfold State.conditionResume
  split
  · split
    · rename_i c
      refine .ite _ (.wearStop _ _) (.beginSweep _ _ fun e => ?_)
      rw [e] at c
      simp [Service.isInSitu] at c
    · exact .same s
  · exact .same s
  · exact .same s

theorem SweepsKept.acceptEdge (s : State) (p : Platen) : SweepsKept s (s.acceptEdge p) := by
  have supplied : ∀ t : State, SweepsKept t (t.closeSupply p) := fun t =>
    have h : SweepsKept t _ := (SweepsKept.plain (.setSupply t p (t.supply.get p).close)).then
      (.plain (.raiseIf _ ((t.supply.get p).close.short && !(t.supply.get p).short) .supply))
    .ite _ (h.then (.updateLiveOn _ _ _)) h
  have timed : ∀ t : State, SweepsKept t (t.setArm p (t.arms.get p).raiseGlaze) := fun t => .setArm _ _ _ fun w => w.2 p
  have closed : ∀ x, SweepsKept s ((s.setRotation p x).closeWindows p) := fun _ => .of rfl rfl
  exact ((closed _).then (timed _)).then (supplied _)

end Sys2Proof.Machine
end

