-- ==== Sys2Proof/Tests/Slice0.lean ====
section
/-! SUPPORT. Tests: the checks of well-formedness, one-step tests from the manual's worked examples, and for every obligation
with hypotheses a state and operands that meet them. -/

namespace Sys2Proof.Tests

open Sys2Proof Sys2Proof.Machine

-- One test at a time: tests that wait for the kernel together hold a thread's stack each.
set_option Elab.async false

/-! ### Well-formedness: an ill-formed term for each check -/

theorem test_wf_refuses_a_short_break : (Instr.lineBreak 0 10).wf = false ∧ (Instr.lineBreak 0 11).wf = true := by decide
theorem test_wf_refuses_a_failed_save_that_wrote_all : (Instr.saveFailed 0 427).wf = false ∧ (Instr.saveFailed 0 426).wf = true := by
  decide
theorem test_wf_refuses_a_cut_save_that_wrote_all :
    (Instr.powerOnReset PinLevels.rest 427).wf = false ∧ (Instr.resetPin PinLevels.rest 427).wf = false ∧
      (Instr.powerOnReset PinLevels.rest 426).wf = true ∧ (Instr.resetPin PinLevels.rest 0).wf = true := by decide
theorem test_wf_refuses_a_nack_beyond_the_image :
    (Instr.settingsLoad 0 (some 427)).wf = false ∧ (Instr.settingsLoad 0 (some 426)).wf = true ∧
      (Instr.settingsLoad 0 none).wf = true := by decide
theorem test_no_word_spells_a_command : decodeTableWord 16 0x1234 = none ∧ State.reset.withFetchWord 16 0x1234 = State.reset :=
  ⟨rfl, rfl⟩

/-! ### Running one command -/

/-- The state a command leaves. -/
def after (c : Instr) (s : State) : State :=
  match exec c s with
  | .next t => t
  | .fault _ => s
  | .refused _ => s

/-- The state with one request HELD. -/
def asking (s : State) (code : Byte) (payload : List Byte) : State := { s with buffers := [.held ⟨7#8, code, payload⟩] }

/-- The response a command leaves on the line. -/
def answered (c : Instr) (s : State) : Option (Status × List Byte) :=
  match (after c s).buffers with
  | [.sending r] => some (r.status, r.payload)
  | _ => none

theorem offers_asking {s : State} {name : RequestName} {code : Byte} (payload : List Byte) (ready : s.startUp = .ready)
    (h : RequestName.ofCode code.toNat = some name) : Offers (asking s code payload) name 7#8 payload :=
  ⟨ready, code, h, rfl⟩

/-! ### A station at work: four passes, a step running on P0, the items of the examples 3.8 and 5.9 -/

/-- The step of example 3.8: REMOVAL mode, in-situ conditioning with profile 1. -/
def stepA : StepProgram :=
  { platen := .p0, mode := .removal, timeLimit := 6000, preston := 37965, blendRow := 0, conditioning := .inSitu 1,
    ringPressure := 350, settle := 0, gain := 16, slew := 10
    zones := ⟨⟨280, 500, 1257⟩, ⟨300, 500, 1257⟩, ⟨320, 500, 1257⟩, ⟨250, 0, 1257⟩⟩ }

/-- A step on P1 without conditioning, in TIME mode. -/
def stepB : StepProgram :=
  { stepA with platen := .p1, mode := .time, timeLimit := 1, conditioning := .none, blendRow := 1 }

/-- A step on P2 in EXTERNAL mode with ex-situ sweeps. -/
def stepC : StepProgram := { stepA with platen := .p2, mode := .external, conditioning := .exSitu 3 4, blendRow := 1 }

/-- The live progress of example 3.8, with the step timer at a remainder of 20,000 µs. -/
def liveA : LiveProgress :=
  { LiveProgress.fresh stepA 5980000 1001 4001 (some 2205) (some 2206) with
    acc := ⟨0, 10485760, 0, 1099511627676⟩, polishTime := 100, remainder := 20000, firstRevolution := false }

/-- The pass POLISHING on P0 with head H1. -/
def passA : Pass :=
  { tag := 0x1001, state := .polishing, head := some .h1, endCause := none, holds := HoldSet.empty, startBlock := none,
    current := 0, steps := [stepA, stepB], results := [], live := some liveA }

/-- The pass WAITING on H2, which stands over the platen of its step. -/
def passB : Pass :=
  { tag := 0x1002, state := .waiting, head := some .h2, endCause := none, holds := HoldSet.empty, startBlock := none,
    current := 0, steps := [stepB], results := [], live := none }

/-- The pass STAGED. -/
def passC : Pass := { passB with tag := 0x1003, state := .staged, head := none, steps := [stepC] }

/-- The pass ENDED by an abort before its first step. -/
def passD : Pass := { passC with tag := 0x1004, state := .ended, endCause := some .aborted }

/-- A zone or ring channel in DRIVE at a setpoint, its valves closed long ago. -/
def driving (setpoint : Nat) : Channel :=
  { mode := .drive, setpoint := some setpoint, latest := some 180, fault := false, runCount := 0, fill := Valve.rested,
    vent := Valve.rested, pulse := none, nextSample := 6002000, nextPeriod := 6020000 }

/-- A channel in VENT with its vent valve open. -/
def venting : Channel := { Channel.reset with vent := ⟨true, none⟩, nextSample := 6002000, nextPeriod := 6020000 }

/-- The windows of example 4.8 and the drive of example 4.7. -/
def settingsA : HeadSettings :=
  { drive := ⟨2, 200, 18000, 3000⟩, chans := PerChan.all ⟨70, 480, 1000, 0⟩ }

/-- The pad, the disk, the two lots, the ring, and a lot on the shelf. -/
def padA : Item := ⟨1001, .pad, some (.platen .p0), 52000, 0, ItemFlags.none, 4300, 120, 0, 0, 0⟩
def diskA : Item := ⟨3001, .disk, some (.platen .p0), 120, 0, ItemFlags.none, 0, 0, 0, 0, 0⟩
def lotA : Item := ⟨2205, .lot, some .feedA, 4650, 0, ItemFlags.none, 4096, 40, 350, 640, 0⟩
def lotB : Item := ⟨2206, .lot, some .feedB, 0, 0, ItemFlags.none, 4096, 0, 9000, 0, 0⟩
def ringA : Item := ⟨4001, .ring, some (.head .h1), 9, 0, ItemFlags.none, 0, 0, 0, 0, 0⟩
def lotShelf : Item := ⟨2211, .lot, none, 0, 0, ItemFlags.none, 4096, 40, 20000, 12, 0⟩

/-- The station: READY at 6,000,000 µs, H1 over P0 with a step running, P0's input low. -/
def station : State :=
  { State.reset with
    clock := 6000000, startUp := .ready
    passes := putAt (putAt (putAt (putAt State.reset.passes 0 (some passA)) 1 (some passB)) 2 (some passC)) 3 (some passD)
    rotation := ⟨⟨some 5000000, some 1000000, some 13000000, false, false⟩, Rotation.reset false, Rotation.reset false⟩
    windows := State.reset.windows.set .h1 ⟨⟨0, 0, none⟩, ⟨153187, 510, none⟩, ⟨0, 0, some 310⟩, ⟨153187, 510, none⟩⟩
    channels := (PerHead.all (PerChan.all venting)).set .h1
      ⟨⟨driving 285, driving 300, driving 315, driving 250⟩, driving 350⟩
    headSettings := State.reset.headSettings.set .h1 settingsA
    items := putAt (putAt (putAt (putAt (putAt (putAt State.reset.items 0 (some padA)) 1 (some diskA)) 2 (some lotA)) 3
      (some lotB)) 4 (some ringA)) 5 (some lotShelf)
    rows := putAt State.reset.rows 0 ⟨150, 4, 1, 0⟩
    feeds := ⟨FeedUnit.reset 6005000, FeedUnit.reset 6001250, FeedUnit.reset 6002500⟩
    supply := State.reset.supply.set .p0
      { PlatenSupply.reset with dispensing := some 0, demand := ⟨5400, 0, 0⟩, demanded := 60, granted := 58 }
    arms := State.reset.arms.set .p0
      { Arm.reset with sweeping := true, service := .inSitu 1, dwell := some 6500000, glaze := 12 }
    glazeSettings := State.reset.glazeSettings.set .p0 ⟨3, 3500⟩ }

/-- A change of the running pass of the station. -/
def withPass (r : Pass) : State := station.setPass 0 (some r)

theorem station_passes : ∀ i r, station.pass i = some r → r = passA ∧ i = 0 ∨ r = passB ∧ i = 1 ∨ r = passC ∧ i = 2 ∨ r = passD ∧ i = 3 := by
  have h : ∀ i, station.pass i =
      if i = 0 then some passA else if i = 1 then some passB else if i = 2 then some passC else if i = 3 then some passD else none := by
    decide +kernel
  intro i r e
  rw [h] at e
  split at e
  · exact .inl ⟨(Option.some.inj e).symm, ‹_›⟩
  · split at e
    · exact .inr (.inl ⟨(Option.some.inj e).symm, ‹_›⟩)
    · split at e
      · exact .inr (.inr (.inl ⟨(Option.some.inj e).symm, ‹_›⟩))
      · split at e
        · exact .inr (.inr (.inr ⟨(Option.some.inj e).symm, ‹_›⟩))
        · cases e

theorem withPass_passes (q : Pass) : ∀ i r, (withPass q).pass i = some r →
    r = q ∧ i = 0 ∨ r = passB ∧ i = 1 ∨ r = passC ∧ i = 2 ∨ r = passD ∧ i = 3 := by
  intro i r e
  by_cases h : i = 0
  · subst h
    have : (withPass q).pass 0 = some q := by simp [withPass, State.setPass, State.pass, slotAt, putAt]
    rw [this] at e
    exact .inl ⟨(Option.some.inj e).symm, rfl⟩
  · have : (withPass q).pass i = station.pass i := by
      simp only [withPass, State.setPass, State.pass, slotAt, putAt, Vector.getElem_set]
      exact if_neg fun e => h (Fin.ext e.symm)
    rw [this] at e
    rcases station_passes i r e with ⟨_, x⟩ | x | x | x
    · exact absurd x h
    · exact .inr (.inl x)
    · exact .inr (.inr (.inl x))
    · exact .inr (.inr (.inr x))

theorem station_items : ∀ j x, station.item j = some x →
    (j, x) ∈ [((0 : ItemSlot), padA), (1, diskA), (2, lotA), (3, lotB), (4, ringA), (5, lotShelf)] := by
  have h : ∀ j, station.item j =
      if j = 0 then some padA else if j = 1 then some diskA else if j = 2 then some lotA else if j = 3 then some lotB
      else if j = 4 then some ringA else if j = 5 then some lotShelf else none := by
    decide +kernel
  intro j x e
  rw [h] at e
  iterate 6
    split at e
    · subst_vars; cases e; decide +kernel
  cases e

/-! ### The invariants' premises are met by the station -/

theorem test_station_passes_apart : station.passesApart := by
  intro i j r q hi hj ne
  rcases station_passes i r hi with ⟨rfl, rfl⟩ | ⟨rfl, rfl⟩ | ⟨rfl, rfl⟩ | ⟨rfl, rfl⟩ <;>
    rcases station_passes j q hj with ⟨rfl, rfl⟩ | ⟨rfl, rfl⟩ | ⟨rfl, rfl⟩ | ⟨rfl, rfl⟩ <;>
      first
        | exact absurd rfl ne
        | decide

theorem test_station_passes_wf : station.passesWf := by
  intro i r hi
  rcases station_passes i r hi with ⟨rfl, rfl⟩ | ⟨rfl, rfl⟩ | ⟨rfl, rfl⟩ | ⟨rfl, rfl⟩ <;>
    refine ⟨by decide, by decide, by decide, by decide, by decide, ?_⟩ <;> simp [Pass.stateWf, passA, passB, passC, passD, HoldSet.empty]

theorem test_station_is_seated : station.seated := by
  intro i r hi run
  rcases station_passes i r hi with ⟨rfl, rfl⟩ | ⟨rfl, rfl⟩ | ⟨rfl, rfl⟩ | ⟨rfl, rfl⟩
  · exact ⟨rfl, by decide⟩
  · exact absurd run (by decide)
  · exact absurd run (by decide)
  · exact absurd run (by decide)

theorem test_station_items_wf : station.itemsWf := by
  refine ⟨fun j x h => ?_, fun j k x y hj hk ne => ?_⟩
  · have m := station_items j x h
    simp only [List.mem_cons, Prod.mk.injEq, List.not_mem_nil, or_false] at m
    rcases m with ⟨rfl, rfl⟩ | ⟨rfl, rfl⟩ | ⟨rfl, rfl⟩ | ⟨rfl, rfl⟩ | ⟨rfl, rfl⟩ | ⟨rfl, rfl⟩ <;>
      refine ⟨by decide, fun pos e => ?_, ⟨by decide, by decide, by decide, by decide⟩, by decide⟩ <;> cases e <;> rfl
  · have m := station_items j x hj
    have n := station_items k y hk
    simp only [List.mem_cons, Prod.mk.injEq, List.not_mem_nil, or_false] at m n
    rcases m with ⟨rfl, rfl⟩ | ⟨rfl, rfl⟩ | ⟨rfl, rfl⟩ | ⟨rfl, rfl⟩ | ⟨rfl, rfl⟩ | ⟨rfl, rfl⟩ <;>
      rcases n with ⟨rfl, rfl⟩ | ⟨rfl, rfl⟩ | ⟨rfl, rfl⟩ | ⟨rfl, rfl⟩ | ⟨rfl, rfl⟩ | ⟨rfl, rfl⟩ <;>
        first
          | exact absurd rfl ne
          | decide

theorem test_station_settings_wf : station.settingsWf := by
  refine ⟨fun h => by cases h <;> decide, by decide +kernel, fun f => by cases f <;> decide, by decide +kernel,
    fun p => by cases p <;> decide⟩

theorem test_station_phases_wf : station.phasesWf :=
  ⟨⟨by decide, by decide⟩, fun f => by cases f <;> exact ⟨⟨by decide, by decide⟩, by decide⟩⟩

theorem test_station_store_and_link_wf : station.storeWf ∧ station.linkWf :=
  ⟨⟨by decide, fun image e => by cases e⟩, by decide, by decide, by decide, by decide⟩

theorem test_station_station_wf :
    station.driveWf ∧ station.channelsWf ∧ station.dwellsWf ∧ station.sweepsTimed ∧ station.tripStops ∧ station.demandWf := by
  refine ⟨⟨rfl, rfl⟩, ?_, fun p => by cases p <;> decide, fun p => by cases p <;> decide, (fun e => by cases e), fun p => ⟨?_, fun f => ?_⟩⟩
  · intro h c
    cases h <;> cases c <;> (try rename_i z; cases z) <;> decide
  · cases p <;> decide
  · cases p <;> cases f <;> decide

/-- The premises of the invariant statements are met together, and the step answers a next state. -/
theorem test_a_step_of_the_station_is_next : ∃ t, step { station with pending := [.status 5] } = .next t := ⟨_, rfl⟩

/-! ### Resets and the link -/

theorem test_queue_and_idling : station.pending = [] ∧ step station = .next station ∧
    step { station with pending := [.estopRelease 5] } = exec (.estopRelease 5) station := ⟨rfl, rfl, rfl⟩

/-- FullResetValues and ResetCutsTheSave: a save of two bytes cut after its first. -/
theorem test_a_reset_cuts_a_save :
    let s := { station with save := .writing [0xA6#8, 1#8] }
    Memory.wf s.eeprom = true ∧ readCell 0 (after (.resetPin PinLevels.rest 1) s).eeprom = 0xA6#8 ∧
      readCell 1 (after (.resetPin PinLevels.rest 1) s).eeprom = 0xFF#8 ∧
      (after (.resetPin PinLevels.rest 1) station).eeprom = station.eeprom ∧
      (after (.powerOnReset { PinLevels.rest with estop := true, cpos := 3 } 0) s).tripLatch = true := by decide +kernel

/-- ResetCutsTheSave and SaveLifecycle: a state with a well-formed store and a save under way. -/
theorem test_a_save_is_under_way_in_a_wf_store : ∃ image, { station with save := .writing station.image }.storeWf ∧
    { station with save := .writing station.image }.save = .writing image :=
  ⟨_, ⟨by decide, fun image e => by cases e; decide +kernel⟩, rfl⟩

/-- BreakAndIdleLimit: each clause at its boundary. -/
theorem test_breaks_and_the_idle_limit :
    (after (.lineBreak 9 11) station).receiver = .receiving [] 6000009 ∧ after (.lineBreak 9 10) station = station.elapse 9 ∧
      (after (.lineBreak 9 11) { station with receiver := .receiving [2#8] 0 }).corrupt = true ∧
      (after (.lineBreak 9 11) { station with receiver := .receiving [] 0 }).corrupt = false ∧
      after .idleLimit station = station ∧
      (after .idleLimit { station with receiver := .receiving [] 6000000 }).clock = 6002001 ∧
      (after .idleLimit { station with receiver := .receiving [2#8] 6000000 }).attnPending = 128#9 := by decide +kernel

/-- BytesBeforeTheLast: a stray byte, a parity error, LEN 1, 2, 1022 and 1023, and a byte of the payload. -/
theorem test_bytes_before_the_last :
    let got (bytes : List Byte) (b : Byte) := (after (.byteArrivesReceiving 1 (charOf b)) { station with receiver := .receiving bytes 0 })
    (after (.strayByte 1 (charOf 5)) station).corrupt = true ∧
      (after (.byteArrivesReceiving 1 ⟨1#8, false, true⟩) { station with receiver := .receiving [] 0 }).receiver = .hunting ∧
      (after (.byteArrivesReceiving 1 ⟨1#8, true, false⟩) { station with receiver := .receiving [] 0 }).receiver = .hunting ∧
      (got [1] 0).receiver = .hunting ∧ (got [2] 0).receiver = .receiving [2, 0] 6000001 ∧
      (got [0xFE] 3).receiver = .receiving [0xFE, 3] 6000001 ∧ (got [0xFF] 3).corrupt = true ∧
      (got [2, 0, 9, 9] 1).receiver = .receiving [2, 0, 9, 9, 1] 6000001 := by decide +kernel

/-- R168: the CRC of "123456789". -/
theorem test_crc_of_the_digits : crc [0x31, 0x32, 0x33, 0x34, 0x35, 0x36, 0x37, 0x38, 0x39] = 0x29B1#16 := by decide +kernel

/-- CompleteFrameIsJudged: a STATUS frame held, lost to full buffers, and damaged in its last byte. -/
theorem test_a_complete_frame_is_judged :
    let body : List Byte := [2, 0, 0x2A, 1]
    let sum := (crc body).toNat
    let s : State := { station with receiver := .receiving (body ++ [byte sum]) 0 }
    le2 (byte sum) (byte (sum / 256)) = (crc body).toNat ∧
      (after (.frameComplete 1 (charOf (byte (sum / 256)))) s).buffers = [.held ⟨0x2A, 1, []⟩] ∧
      (after (.frameComplete 1 (charOf (byte (sum / 256))))
        { s with buffers := [.held ⟨1, 1, []⟩, .held ⟨2, 1, []⟩] }).overrun = true ∧
      (after (.frameComplete 1 (charOf (byte (sum / 256 + 1)))) s).corrupt = true := by decide +kernel

/-- ResponsesLeaveInOrder: the forms the buffers take. -/
theorem test_responses_leave_in_order :
    let r : Response := ⟨1, .ok, []⟩
    let q : Request := ⟨2, 1, []⟩
    (station.respond r).buffers = [] ∧ ({ station with buffers := [.held q] }.respond r).buffers = [.sending r] ∧
      ({ station with buffers := [.sending r, .held q] }.respond r).buffers = [.sending r, .taken r] ∧
      (after (.responseEnd 5) { station with buffers := [.sending r, .taken r] }).buffers = [.sending r] ∧
      after (.responseStart 5) { station with buffers := [.sending r, .taken r] } =
        { station.elapse 5 with buffers := [.sending r, .taken r] } ∧
      (after (.responseStart 5) { station with buffers := [.taken r, .held q] }).buffers = [.sending r, .held q] := by
  decide +kernel

/-- ResponsesLeaveInOrder: points 6 and 9 of example 10.9, and the frame of an OK answer without a payload on LTX. -/
theorem test_responses_on_the_line :
    let first : Response := ⟨0x22, .ok, []⟩
    let second : Response := ⟨0x24, .ok, []⟩
    let s : State := { station with buffers := [.sending first, .taken second] }
    let t := after (.responseEnd 5) s
    s.ltxFrame.map (List.take 4) = some [2, 0, 0x22, 0] ∧ t.buffers = [.sending second] ∧
      t.ltxFrame.map (List.take 4) = some [2, 0, 0x24, 0] ∧ (after (.responseEnd 5) t).buffers = [] ∧
      (after (.responseEnd 5) t).ltxBits = none ∧ first.lineBits.length = 84 ∧
      (first.lineBits.drop 18).take 11 = [false, false, true, false, false, false, false, false, false, true, true] := by
  decide +kernel

/-- UnknownNotReadyOrNone: CODES 0x06, 0x00 and 0x59 name no request; STATUS while LOADING; STATUS with none HELD. -/
theorem test_unknown_not_ready_and_none :
    RequestName.ofCode 6 = none ∧ RequestName.ofCode 0 = none ∧ RequestName.ofCode 0x59 = none ∧
      RequestName.ofCode 0x58 = some .settingsSave ∧ answered (.unknown 1) (asking station 6 []) = some (.unknown, []) ∧
      answered (.status 1) (asking State.reset 1 [9]) = some (.notReady, []) ∧ after (.status 1) station = station.elapse 1 ∧
      after (.status 1) (asking station 2 []) = (asking station 2 []).elapse 1 := by decide +kernel

/-- RefusedRequestChangesNothing: a taken request of every code is offered to its own command. -/
theorem test_a_request_is_offered : Offers (asking station 0x13 [2, 0]) .passBind 7#8 [2, 0] ∧
    takenRequest (.passBind 1) = some (.passBind, 1) := ⟨offers_asking _ rfl rfl, rfl⟩

/-- StatusAndIdentify. -/
theorem test_status_and_identify :
    Offers (asking station 1 []) .status 7#8 [] ∧ Offers (asking station 2 [0]) .identify 7#8 [0] ∧
      answered (.status 1) (asking station 1 [0]) = some (.badLength, []) ∧
      answered (.identify 1) (asking station 2 []) =
        some (.ok, [0x43, 0, 3, 0, 4, 3, 24, 4, 16, 8, 32, 4, 10, 2, 0xFC, 3, 0, 8, 20, 0]) ∧
      (answered (.status 1) (asking station 1 [])).map (fun x => (x.2.take 12, x.2.drop 22)) =
        some ([0, 0, 0xFF, 1, 0, 0, 0, 2, 0x40, 0x42, 0x0F, 0], [0xFF, 0, 0, 0, 1, 0, 0xFF, 0, 0, 1, 0]) :=
  ⟨offers_asking _ rfl rfl, offers_asking _ rfl rfl, by decide +kernel, by decide +kernel, by decide +kernel⟩

/-- AttentionRequests: bit 8 is the highest cause, bit 9 names none. -/
theorem test_attention_requests :
    let s : State := { station with attnPending := 0x180#9, corrupt := true }
    Offers (asking s 3 [0, 2]) .attnAck 7#8 [0, 2] ∧ Offers (asking s 4 [0, 1]) .attnMask 7#8 [0, 1] ∧
      answered (.attnAck 1) (asking s 3 [0, 2]) = some (.badParam, []) ∧
      answered (.attnAck 1) (asking s 3 [0x80, 0]) = some (.ok, [0, 1]) ∧
      (after (.attnAck 1) (asking s 3 [0x80, 0])).corrupt = false ∧
      answered (.attnMask 1) (asking s 4 [0x80, 0]) = some (.ok, [0x80, 1, 0x80, 0]) ∧
      (after (.attnMask 1) (asking s 4 [0, 0])).attnLine = false ∧ s.attnLine = true :=
  ⟨offers_asking _ rfl rfl, offers_asking _ rfl rfl, by decide +kernel⟩

/-- RestartResetsTheLink. -/
theorem test_restart :
    let s : State := { station with overrun := true, attnPending := 1, attnMask := 0, buffers := [.held ⟨7, 5, []⟩, .held ⟨8, 1, []⟩] }
    Offers s .restart 7#8 [] ∧ (after (.restart 1) s).buffers = [.sending ⟨7, .ok, []⟩] ∧
      (after (.restart 1) s).attnMask = 0x1FF#9 ∧ (after (.restart 1) s).overrun = false ∧
      answered (.restart 1) (asking s 5 [0]) = some (.badLength, []) :=
  ⟨⟨rfl, 5, rfl, rfl⟩, by decide +kernel⟩

/-! ### The Pass Table -/

/-- PassCreatePlacesARecord: the lowest free slot is 4; one step and four. -/
theorem test_pass_create :
    let create (tag : Nat) (n : Byte) (steps : List StepProgram) := leBytes 4 tag ++ n :: (steps.map StepProgram.bytes).flatten
    Offers (asking station 0x10 (create 0x1005 1 [stepA])) .passCreate 7#8 (create 0x1005 1 [stepA]) ∧
      stepA.valid = true ∧ station.pass 4 = none ∧ (∀ j : PassSlot, j < 4 → station.pass j ≠ none) ∧
      (∀ i r, station.pass i = some r → r.tag ≠ 0x1005) ∧
      answered (.passCreate 1) (asking station 0x10 (create 0x1005 1 [stepA])) = some (.ok, [4]) ∧
      answered (.passCreate 1) (asking station 0x10 (create 0x1001 1 [stepA])) = some (.duplicate, []) ∧
      answered (.passCreate 1) (asking station 0x10 (create 0 1 [stepA])) = some (.badParam, []) ∧
      answered (.passCreate 1) (asking station 0x10 (create 1 0 [])) = some (.badParam, []) ∧
      answered (.passCreate 1) (asking station 0x10 (create 1 5 [])) = some (.badParam, []) ∧
      answered (.passCreate 1) (asking station 0x10 (create 1 4 [stepA])) = some (.badLength, []) ∧
      answered (.passCreate 1) (asking station 0x10 [1, 0, 0, 0]) = some (.badLength, []) := by
  refine ⟨offers_asking _ rfl rfl, by decide +kernel, by decide +kernel, by decide +kernel, ?_, by decide +kernel⟩
  intro i r e
  rcases station_passes i r e with ⟨rfl, _⟩ | ⟨rfl, _⟩ | ⟨rfl, _⟩ | ⟨rfl, _⟩ <;> decide

theorem test_pass_create_with_a_full_table :
    let s : State := { station with passes := Vector.replicate 24 (some passD) }
    (∀ i, s.pass i ≠ none) ∧ (∀ i r, s.pass i = some r → r.tag ≠ 5) ∧
      answered (.passCreate 1) (asking s 0x10 (leBytes 4 5 ++ 1 :: stepA.bytes)) = some (.tableFull, []) := by
  refine ⟨by decide +kernel, fun i r e => ?_, by decide +kernel⟩
  have : (slotAt (Vector.replicate 24 (some passD)) i) = some passD := by unfold slotAt; simp
  have h : some passD = some r := this.symm.trans e
  cases h
  decide

/-- PassCreatePlacesARecord: a step program whose conditioning fields name a sweep count without a sweep. -/
theorem test_pass_create_with_a_bad_step :
    let bad := leBytes 4 5 ++ 2 :: (stepA.bytes ++ stepA.bytes.set 9 1)
    Offers (asking station 0x10 bad) .passCreate 7#8 bad ∧
      (∃ i, i < 2 ∧ ¬spellsValidStep ((((stepA.bytes ++ stepA.bytes.set 9 1)).drop (39 * i)).take 39)) ∧
      answered (.passCreate 1) (asking station 0x10 bad) = some (.badParam, []) :=
  ⟨offers_asking _ rfl rfl, ⟨1, by decide, fun h => absurd h.2.2.2.2.2.2.1 (by decide +kernel)⟩, by decide +kernel⟩

/-- PassReads: the refusals of a lookup and of a list. -/
theorem test_pass_reads_refused :
    let lookup (payload : List Byte) := answered (.passLookup 1) (asking station 0x11 payload)
    lookup [] = some (.badLength, []) ∧ lookup [2] = some (.badParam, []) ∧ lookup [0] = some (.badLength, []) ∧
      lookup [0, 24] = some (.badParam, []) ∧ lookup [0, 4] = some (.notFound, []) ∧
      lookup [1, 1] = some (.badLength, []) ∧ lookup [1, 0, 0, 0, 0] = some (.badParam, []) ∧
      lookup [1, 5, 0x10, 0, 0] = some (.notFound, []) ∧
      answered (.passList 1) (asking station 0x12 [0, 0]) = some (.badLength, []) ∧
      answered (.passList 1) (asking station 0x12 [5]) = some (.badParam, []) := by decide +kernel

/-- PassReads: a lookup by slot and by tag, and a list with a filter. -/
theorem test_pass_reads :
    Offers (asking station 0x11 [0, 0]) .passLookup 7#8 [0, 0] ∧ Offers (asking station 0x12 [4]) .passList 7#8 [4] ∧
      station.pass 0 = some passA ∧ passA.tag ≠ 0 ∧
      (answered (.passLookup 1) (asking station 0x11 [0, 0])).map (fun x => (x.1, x.2.take 12, x.2.length)) =
        some (.ok, [0, 1, 0x10, 0, 0, 2, 1, 0xFF, 0, 0, 2, 0], 12 + 78 + 1 + 43) ∧
      answered (.passLookup 1) (asking station 0x11 [1, 1, 0x10, 0, 0]) = answered (.passLookup 1) (asking station 0x11 [0, 0]) ∧
      answered (.passList 1) (asking station 0x12 [4]) = some (.ok, [1, 3, 4, 0x10, 0, 0, 4]) ∧
      (answered (.passList 1) (asking station 0x12 [])).map (fun x => x.2.length) = some 25 :=
  ⟨offers_asking _ rfl rfl, offers_asking _ rfl rfl, by decide +kernel⟩

/-- PassBindBindsAHead: H0 stands at S0; each refusal on its own state. -/
theorem test_pass_bind :
    let bind (s : State) (slot hd : Byte) := answered (.passBind 1) (asking s 0x13 [slot, hd])
    Offers (asking station 0x13 [2, 0]) .passBind 7#8 [2, 0] ∧ station.pass 2 = some passC ∧
      (∀ j q, station.pass j = some q → q.head = some .h0 → ¬(q.state = .waiting ∨ q.state = .polishing ∨ q.state = .held)) ∧
      bind station 2 0 = some (.ok, []) ∧ bind station 24 0 = some (.badParam, []) ∧ bind station 2 4 = some (.badParam, []) ∧
      bind station 4 0 = some (.notFound, []) ∧ bind { station with tripLatch := true } 2 0 = some (.tripped, []) ∧
      bind station 1 0 = some (.wrongState, []) ∧
      bind { station with carousel := { station.carousel with state := .lost } } 2 0 = some (.busy, []) ∧
      bind station 2 3 = some (.wrongState, []) ∧ bind { station with carousel := { station.carousel with k := 3 } } 2 1 = some (.busy, []) ∧
      answered (.passBind 1) (asking station 0x13 [2]) = some (.badLength, []) := by
  refine ⟨offers_asking _ rfl rfl, by decide +kernel, ?_, by decide +kernel⟩
  intro i r e
  rcases station_passes i r e with ⟨rfl, _⟩ | ⟨rfl, _⟩ | ⟨rfl, _⟩ | ⟨rfl, _⟩ <;> decide

/-- PassAmendRewritesTheStep: the running step, a step to come, one that ended, and a limit at the polish time. -/
theorem test_pass_amend :
    let limit (v : Nat) : Amend := { targets := none, bases := none, timeLimit := some v, gain := none }
    let amend (s : State) (slot n : Byte) (a : Amend) := answered (.passAmend 1) (asking s 0x14 (slot :: n :: a.wire))
    Offers (asking station 0x14 (0 :: 0 :: (limit 100).wire)) .passAmend 7#8 (0 :: 0 :: (limit 100).wire) ∧
      (limit 100).inRange = true ∧ liveA.polishTime = 100 ∧ amend station 0 0 (limit 101) = some (.ok, [2, 0]) ∧
      amend station 0 0 (limit 100) = some (.ok, [4, 0]) ∧ amend station 0 1 (limit 6000) = some (.ok, [2, 0]) ∧
      amend station 0 2 (limit 1) = some (.badParam, []) ∧ amend station 3 0 (limit 1) = some (.tooLate, []) ∧
      amend station 0 0 { limit 1 with timeLimit := none, targets := some ⟨0, 0, 0, 0⟩ } = some (.badParam, []) ∧
      ((after (.passAmend 1) (asking (withPass { passA with steps := [{ stepA with mode := .time }, stepB] }) 0x14
        (0 :: 0 :: (limit 1).wire))).pass 0).map (fun r => (r.state, r.current)) = some (.waiting, 1) :=
  ⟨offers_asking _ rfl rfl, by decide +kernel⟩

/-- PassAmendRewritesTheStep: the refusals before the step is looked at. -/
theorem test_pass_amend_refused :
    let amend (payload : List Byte) := answered (.passAmend 1) (asking station 0x14 payload)
    let gain : Amend := { targets := none, bases := none, timeLimit := none, gain := some 255 }
    let late : Amend := { gain with gain := none, timeLimit := some 6001 }
    gain.fitsWire ∧ late.fitsWire ∧ [8#8, 255] = gain.wire ∧ late.inRange = false ∧ gain.inRange = true ∧
      amend [0, 0] = some (.badLength, []) ∧ amend [0, 0, 8] = some (.badLength, []) ∧
      amend [0, 0, 0x10] = some (.badParam, []) ∧ amend [0, 4, 0] = some (.badParam, []) ∧
      amend [24, 0, 0] = some (.badParam, []) ∧ amend (0 :: 0 :: late.wire) = some (.badParam, []) ∧
      amend [4, 0, 8, 255] = some (.notFound, []) ∧ amend [0, 0, 0] = some (.ok, [2, 0]) := by
  refine ⟨⟨by rintro t ⟨⟩, by rintro b ⟨⟩, by rintro v ⟨⟩, ?_⟩, ⟨by rintro t ⟨⟩, by rintro b ⟨⟩, ?_, by rintro v ⟨⟩⟩, ?_⟩
  · intro v h; cases h; decide
  · intro v h; cases h; decide
  · decide +kernel

/-- PassAbortAndRetire: the refusals of an abort before the state is looked at. -/
theorem test_pass_abort_refused :
    let abort (payload : List Byte) := answered (.passAbort 1) (asking station 0x15 payload)
    abort [4] = some (.notFound, []) ∧ abort [24] = some (.badParam, []) ∧ abort [0, 0] = some (.badLength, []) := by
  decide +kernel

/-- PassAbortAndRetire. -/
theorem test_pass_abort_and_retire :
    let abort (slot : Byte) := answered (.passAbort 1) (asking station 0x15 [slot])
    let retire (payload : List Byte) := answered (.passRetire 1) (asking station 0x16 payload)
    Offers (asking station 0x15 [0]) .passAbort 7#8 [0] ∧ Offers (asking station 0x16 [3]) .passRetire 7#8 [3] ∧
      passA.live = some liveA ∧ passA.step = some stepA ∧ passA.head = some .h1 ∧ station.pass 3 = some passD ∧
      abort 0 = some (.ok, []) ∧ abort 1 = some (.ok, []) ∧ abort 2 = some (.ok, []) ∧ abort 3 = some (.wrongState, []) ∧
      (after (.passAbort 1) (asking station 0x15 [0])).attnPending = 3#9 ∧
      (after (.passAbort 1) (asking station 0x15 [1])).attnPending = 2#9 ∧
      retire [3] = some (.ok, []) ∧ retire [0] = some (.wrongState, []) ∧ retire [23] = some (.notFound, []) ∧
      retire [24] = some (.badParam, []) ∧ retire [] = some (.badLength, []) :=
  ⟨offers_asking _ rfl rfl, offers_asking _ rfl rfl, by decide +kernel⟩

/-- PassAbortAndRetire: the arm, the platen and the head of an aborted step, and others that stay. -/
theorem test_an_aborted_step_is_let_go :
    let aborted := after (.passAbort 1) (asking station 0x15 [0])
    aborted.arms = station.arms.set .p0 { (station.arms.get .p0).parked with service := .none } ∧
      aborted.items = station.items ∧ aborted.channel .h0 .rr = venting ∧ (aborted.channel .h1 .rr).mode = .vent ∧
      aborted.supply = station.supply.set .p0 (station.supply.get .p0).stopped := by decide +kernel

/-! ### Holds, starts and step ends -/

/-- The running pass held with HOST. -/
def passHeld : Pass := { passA with state := .held, holds := ⟨true, false, false, false, false⟩ }

/-- HoldCauseAdded: POLISHING, HELD and WAITING passes. -/
theorem test_hold_cause :
    station.pass 0 = some passA ∧ passA.live = some liveA ∧ passA.step = some stepA ∧ passA.head = some .h1 ∧
      ((station.addCause 0 .host).pass 0).map (fun r => (r.state, r.holds.code)) = some (.held, 1) ∧
      ((station.addCause 0 .host).pass 0).map (fun r => r.live.map (·.remainder)) = some (some 40000) ∧
      ((withPass passHeld).addCause 0 .stall).pass 0 = some { passHeld with holds := ⟨true, false, true, false, false⟩ } ∧
      station.addCause 1 .host = station ∧ ((station.addCause 0 .host).arms.get .p0).sweeping = false ∧
      ((station.addCause 0 .host).channel .h1 .rr).mode = .vent := by decide +kernel

/-- SupplyLossHolds: a loss on feed B reaches the pass whose row has one part of it, and one on C nothing; the head, the platen
and the arm of the pass it holds, and others that stay. -/
theorem test_supply_loss :
    station.pass 0 = some passA ∧ 0 < (station.row stepA.blendRow).parts .b ∧
      ((station.supplyLoss .b).pass 0).map (fun r => (r.state, r.holds.code)) = some (.held, 16) ∧
      (station.supplyLoss .b).attnPending = 8#9 ∧ station.supplyLoss .c = station ∧
      (station.channel .h1 .rr).mode = .drive ∧
      (station.supplyLoss .b).channel .h1 .rr = (station.channel .h1 .rr).vented 6000000 3000 ∧
      (station.supplyLoss .b).channel .h2 .rr = venting ∧
      (station.supplyLoss .b).supply = station.supply.set .p0 (station.supply.get .p0).stopped ∧
      (station.supplyLoss .b).arms = station.arms.set .p0 (station.arms.get .p0).parked ∧
      (((withPass passHeld).supplyLoss .a).pass 0).map (fun r => r.holds.code) = some 17 ∧
      ((withPass { passHeld with holds := ⟨false, false, false, false, true⟩ }).supplyLoss .a).attnPending = 0#9 := by decide +kernel

/-- The station with the pass on P0 WAITING and every condition of R30 met. -/
def startable : State :=
  { withPass { passA with state := .waiting, live := none } with
    channels := PerHead.all (PerChan.all venting), arms := PerPlaten.all Arm.reset, supply := PerPlaten.all PlatenSupply.reset }

/-- The reason a start attempt of the first pass writes. -/
def blockOf (s : State) : Option StartBlock := ((s.attempt 0).pass 0).bind Pass.startBlock

/-- StartAttempt: every reason of R30, and the start. -/
theorem test_start_attempt :
    (passA.step = some stepA ∧ platenUnder startable.carousel.k .h1 = some stepA.platen) ∧
      blockOf { startable with tripLatch := true, carousel := { startable.carousel with state := .lost } } = some .trip ∧
      blockOf { startable with carousel := { startable.carousel with state := .lost } } = some .carousel ∧
      blockOf { startable with rotation := startable.rotation.set .p0 { Rotation.reset false with stall := true } } = some .fault ∧
      blockOf (startable.setChannel .h1 .rr { venting with fault := true }) = some .fault ∧
      blockOf (startable.setItem 0 none) = some .pad ∧ blockOf (startable.setItem 4 none) = some .ring ∧
      blockOf (startable.setItem 1 (some { diskA with flags := ⟨true, false, false⟩ })) = some .disk ∧
      blockOf (startable.setArm .p0 { Arm.reset with exSitu := 1 }) = some .conditioning ∧
      blockOf (startable.setItem 3 (some { lotB with flags := ⟨false, true, false⟩ })) = some .lot ∧
      startable.mountedItem .pad (.platen .p0) = some padA ∧ startable.mounted .ring (.head .h1) = some 4 ∧
      ((startable.attempt 0).pass 0).map (fun r => (r.state, r.live)) =
        some (.polishing, some (.fresh stepA 6000000 1001 4001 (some 2205) (some 2206))) ∧
      ((startable.attempt 0).item 4).map Item.usage = some 10 ∧
      ((startable.attempt 0).supply.get .p0).dispensing = some 0 ∧ ((startable.attempt 0).arms.get .p0).service = .inSitu 1 ∧
      ((startable.attempt 0).channel .h1 (.zone .z2)).setpoint = some 320 ∧ startable.attempt 2 = startable := by decide +kernel

/-- AttemptsReachTheEligible: the pass WAITING on H2 over P1 is eligible and the STAGED one is not. -/
theorem test_attempts_reach_the_eligible :
    passB.mayStart station.carousel.k ∧ ¬passC.mayStart station.carousel.k ∧
      ((station.attemptAll.pass 1).bind Pass.startBlock) = some .pad ∧ station.attemptAll.pass 2 = some passC ∧
      station.attemptAll = station.attempt 1 ∧ station.attemptOver .p0 = station ∧
      station.attemptOver .p1 = station.attempt 1 ∧ station.attemptOn .h2 = station.attempt 1 ∧ station.attemptOn .h1 = station :=
  ⟨⟨rfl, .h2, stepB, rfl, rfl, rfl⟩, (fun h => by cases h.1), by decide +kernel⟩

/-- AttemptsReachTheEligible: two passes eligible at once, on different heads; one starts and one is blocked by its pad. -/
theorem test_two_attempts :
    startable.passesApart ∧ (∃ r, startable.pass 0 = some r ∧ r.mayStart startable.carousel.k) ∧
      startable.attemptAll.pass 0 = (startable.attempt 0).pass 0 ∧
      (startable.attemptAll.pass 0).map Pass.state = some .polishing ∧
      (startable.attemptAll.pass 1).bind Pass.startBlock = some .pad ∧
      (startable.attemptAll.item 4).map Item.usage = some 10 ∧ startable.attemptOver .p1 = startable.attempt 1 := by
  refine ⟨?_, ⟨_, rfl, rfl, .h1, stepA, rfl, rfl, rfl⟩, by decide +kernel⟩
  intro i j r q hi hj ne
  rcases withPass_passes _ i r hi with ⟨rfl, rfl⟩ | ⟨rfl, rfl⟩ | ⟨rfl, rfl⟩ | ⟨rfl, rfl⟩ <;>
    rcases withPass_passes _ j q hj with ⟨rfl, rfl⟩ | ⟨rfl, rfl⟩ | ⟨rfl, rfl⟩ | ⟨rfl, rfl⟩ <;>
      first
        | exact absurd rfl ne
        | decide

/-- StepEndCloses: COMPLETE with a step to come, TIMEOUT, and a hand-off to the CU without a sound disk. -/
theorem test_step_end :
    let ended := station.endStep 0 .timeout
    let exSitu := (withPass { passA with steps := [{ stepA with conditioning := .exSitu 3 4 }] }).endStep 0 .complete
    station.pass 0 = some passA ∧ passA.live = some liveA ∧ passA.step = some stepA ∧ passA.head = some .h1 ∧
      (ended.pass 0).map (fun r => (r.state, r.endCause, r.results.map StepResult.removal)) =
        some (.ended, some .stepTimeout, [⟨0, 160, 0, 16777215⟩]) ∧ ended.attnPending = 3#9 ∧
      ((station.endStep 0 .complete).pass 0).map (fun r => (r.state, r.current, r.head)) = some (.waiting, 1, some .h1) ∧
      (station.endStep 0 .complete).attnPending = 1#9 ∧ (exSitu.arms.get .p0).exSitu = 4 ∧
      ((({ withPass { passA with steps := [{ stepA with conditioning := .exSitu 3 4 }] } with tripLatch := true }).endStep 0
        .complete).arms.get .p0).exSitu = 0 := by decide +kernel

/-- StepEndCloses: a next step on the same platen starts at once after the closing of an IN_SITU step, and is blocked by the
sweeps that an EX_SITU step hands over. -/
theorem test_step_end_on_the_same_platen :
    let two (c : Conditioning) : Pass := { passA with steps := [{ stepA with conditioning := c }, stepA] }
    let next (c : Conditioning) : Pass := { two c with state := .waiting, live := none, current := 1 }
    let on := (withPass (two (.inSitu 1))).endStep 0 .complete
    let swept := (withPass (two (.exSitu 3 4))).endStep 0 .complete
    (∀ c, (next c).mayStart station.carousel.k) ∧ (two (.inSitu 1)).step = some stepA ∧ (two (.inSitu 1)).live = some liveA ∧
      (on.pass 0).map (fun r => (r.state, r.current, r.results.length)) = some (.polishing, 1, 1) ∧
      (on.channel .h1 .rr).mode = .drive ∧ (on.supply.get .p0).dispensing = some 0 ∧ (on.arms.get .p0).segment = 0 ∧
      (swept.pass 0).map (fun r => (r.state, r.startBlock)) = some (.waiting, some .conditioning) ∧
      (swept.channel .h1 .rr).mode = .vent ∧ (swept.supply.get .p0).dispensing = none ∧
      (swept.arms.get .p0).service = .exSitu 3 ∧ swept.attnPending = 1#9 :=
  ⟨fun _ => ⟨rfl, .h1, stepA, rfl, rfl, rfl⟩, by decide +kernel⟩

/-- PassHoldAddsHost and PassResumeGoesOn. -/
theorem test_hold_and_resume :
    let hold (slot : Byte) := answered (.passHold 1) (asking station 0x17 [slot])
    let resume (s : State) (slot : Byte) := answered (.passResume 1) (asking s 0x18 [slot])
    Offers (asking station 0x17 [0]) .passHold 7#8 [0] ∧ hold 0 = some (.ok, [1]) ∧ hold 1 = some (.wrongState, []) ∧
      hold 23 = some (.notFound, []) ∧ hold 24 = some (.badParam, []) ∧
      answered (.passHold 1) (asking (withPass { passHeld with holds := ⟨false, true, false, false, false⟩ }) 0x17 [0]) = some (.ok, [3]) ∧
      resume (withPass passHeld) 0 = some (.ok, []) ∧ resume station 0 = some (.wrongState, []) ∧
      resume { withPass passHeld with tripLatch := true } 0 = some (.busy, []) ∧
      resume ((withPass passHeld).setItem 2 none) 0 = some (.busy, []) ∧
      ((after (.passResume 1) (asking (withPass passHeld) 0x18 [0])).pass 0).map (fun r => (r.state, r.holds.code)) = some (.polishing, 0) ∧
      ((after (.passResume 1) (asking ((withPass passHeld).setItem 1 (some { diskA with flags := ⟨true, false, false⟩ })) 0x18 [0])).arms.get
        .p0).service = .none :=
  ⟨offers_asking _ rfl rfl, by decide +kernel⟩

theorem test_a_held_station_is_seated_and_apart :
    Offers (asking (withPass passHeld) 0x18 [0]) .passResume 7#8 [0] ∧ (asking (withPass passHeld) 0x18 [0]).pass 0 = some passHeld ∧
      passHeld.state = .held ∧ passHeld.live = some liveA ∧ passHeld.step = some stepA ∧ passHeld.head = some .h1 :=
  ⟨offers_asking _ rfl rfl, by decide +kernel⟩

/-- PassResumeGoesOn, and every statement that asks for passes apart: the station whose first pass is held. -/
theorem test_a_held_station_is_apart_and_seated : (withPass passHeld).passesApart ∧ (withPass passHeld).seated := by
  refine ⟨fun i j r q hi hj ne => ?_, fun i r hi run => ?_⟩
  · rcases withPass_passes _ i r hi with ⟨rfl, rfl⟩ | ⟨rfl, rfl⟩ | ⟨rfl, rfl⟩ | ⟨rfl, rfl⟩ <;>
      rcases withPass_passes _ j q hj with ⟨rfl, rfl⟩ | ⟨rfl, rfl⟩ | ⟨rfl, rfl⟩ | ⟨rfl, rfl⟩ <;>
        first
          | exact absurd rfl ne
          | decide
  · rcases withPass_passes _ i r hi with ⟨rfl, rfl⟩ | ⟨rfl, rfl⟩ | ⟨rfl, rfl⟩ | ⟨rfl, rfl⟩
    · exact ⟨rfl, by decide⟩
    all_goals exact absurd run (by decide)

/-! ### Emergency stop, levels, timers -/

/-- TripEventHoldsEverything: the trip at work, at a moving carousel, and with the latch set already. -/
theorem test_trip :
    let t := after (.tripEvent 5) station
    station.estop = false ∧ station.tripLatch = false ∧ t.tripLatch = true ∧ t.attnPending = 4#9 ∧
      (t.pass 0).map (fun r => (r.state, r.holds.code)) = some (.held, 2) ∧ t.pass 1 = some passB ∧ t.pass 2 = some passC ∧
      t.pass 3 = some passD ∧ (t.channel .h1 .rr).mode = .vent ∧ (t.arms.get .p0).sweeping = false ∧
      ((after (.tripEvent 5) (withPass passHeld)).pass 0).map (fun r => r.holds.code) = some 3 ∧
      (after (.tripEvent 5) { station with carousel := ⟨.indexing, 0, true, some 9000000, false⟩ }).attnPending = 68#9 ∧
      ((after (.tripEvent 5) (station.setArm .p1 { Arm.reset with sweeping := true, service := .exSitu 3, exSitu := 4 })).pass 1).map
        Pass.startBlock = some (some .trip) ∧
      after (.tripEvent 5) { station with estop := true } = { station with estop := true }.elapse 5 ∧
      (after (.tripEvent 5) { station with tripLatch := true }).attnPending = 0#9 := by decide +kernel

/-- TripEventHoldsEverything, unit by unit: a channel in DRIVE with its fill valve open, one in VENT, the platen of the held
pass and another, an arm sweeping IN_SITU, one sweeping EX_SITU and a still one. -/
theorem test_trip_of_each_unit :
    let filling : Channel := { driving 350 with pulse := some ⟨.fill, 9000, 5999000, 6008000⟩, fill := ⟨true, none⟩ }
    let exSitu : Arm := { Arm.reset with sweeping := true, service := .exSitu 3, exSitu := 4, segment := 2, dwell := some 6500000 }
    let t := after (.tripEvent 5) ((station.setChannel .h1 .rr filling).setArm .p1 exSitu)
    t.channel .h1 .rr = { filling with mode := .vent, setpoint := none, pulse := none, fill := ⟨false, some 6000005⟩ } ∧
      t.channel .h1 (.zone .z0) = { driving 285 with mode := .vent, setpoint := none, vent := ⟨true, none⟩ } ∧
      t.channel .h0 .rr = venting ∧ t.supply.get .p0 = (station.supply.get .p0).stopped ∧
      t.supply.get .p1 = PlatenSupply.reset ∧ t.arms.get .p0 = (station.arms.get .p0).parked ∧
      t.arms.get .p1 = { exSitu.parked with service := .none, exSitu := 0 } ∧ t.arms.get .p2 = Arm.reset := by decide +kernel

/-- TripClearClearsTheLatch. -/
theorem test_trip_clear :
    let clear (s : State) (payload : List Byte) := answered (.tripClear 1) (asking s 0x19 payload)
    Offers (asking station 0x19 []) .tripClear 7#8 [] ∧ clear station [0] = some (.badLength, []) ∧
      clear { station with estop := true, tripLatch := true } [] = some (.busy, []) ∧ clear station [] = some (.ok, []) ∧
      (after (.tripClear 1) (asking { station with tripLatch := true } 0x19 [])).tripLatch = false ∧
      (after (.estopRelease 1) { station with estop := true }).estop = false := ⟨offers_asking _ rfl rfl, by decide +kernel⟩

/-- FallingEdgesAndOutputLines: an arm at work and a parked one, the valves of a driving and a venting channel. -/
theorem test_output_lines :
    let s : State := { station with profiles := putAt station.profiles 1 [⟨1000, 250⟩] }
    (s.parkLine .p0, s.directionLine .p0, s.forceLine .p0) = (false, false, 250) ∧ (s.parkLine .p1, s.forceLine .p1) = (true, 0) ∧
      (s.ventLine .h0 .rr, s.fillLine .h0 .rr, s.ventLine .h1 .rr) = (true, false, false) ∧ s.diverterLines .a = 0 ∧
      s.pumpLine .b = false ∧ s.driveLine = false := by decide +kernel

/-- StepTimerAndEndpoint: an advance, the last advance, an edge that ends a step and one that does not. -/
theorem test_step_timer_and_endpoint :
    let timed (n : Nat) : Pass := { passA with steps := [{ stepA with timeLimit := n }] }
    let external (settle : Nat) : Pass :=
      { passA with steps := [{ stepA with mode := .external }], live := some { liveA with settleLeft := settle } }
    let due := liveA.timerFrom + (100000 - liveA.remainder)
    due = 6060000 ∧ (after (.polishTimeAdvance .h1) station).clock = 6060000 ∧
      ((after (.polishTimeAdvance .h1) station).pass 0).map (fun r => r.live.map fun l => (l.polishTime, l.remainder)) = some (some (101, 0)) ∧
      ((after (.polishTimeAdvance .h1) (withPass (timed 101))).pass 0).map (fun r => (r.state, r.endCause)) = some (.ended, some .stepTimeout) ∧
      ((after (.stepTimerExpiry .h1) (withPass (timed 101))).pass 0).map (fun r => (r.state, r.endCause)) = some (.ended, some .stepTimeout) ∧
      (after (.stepTimerExpiry .h1) (withPass (timed 103))).clock = 6260000 ∧
      after (.polishTimeAdvance .h2) station = station ∧ after (.stepTimerExpiry .h0) station = station ∧
      ((after (.endpointEdge 1 .p0) (withPass (external 0))).pass 0).map (fun r => (r.state, r.endCause)) = some (.ended, some .complete) ∧
      (after (.endpointEdge 1 .p0) (withPass (external 1))).pass 0 = some (external 1) ∧
      after (.endpointEdge 1 .p0) station = { station.elapse 1 with endpointLevel := ⟨true, false, false⟩ } ∧
      after (.endpointEdge 1 .p0) { station with endpointLevel := ⟨true, false, false⟩ } =
        { station.elapse 1 with endpointLevel := ⟨true, false, false⟩ } := by decide +kernel

/-! ### Index edges -/

/-- AcceptedEdgeActs, by example 6.11: the ratios 3959, 2730 and, with two short closings behind it, 2118. -/
theorem test_accepted_edge :
    let close (granted demanded run : Nat) :=
      ({ station with supply := station.supply.set .p0 { station.supply.get .p0 with granted, demanded, shortRun := run } }).acceptEdge .p0
    ((station.acceptEdge .p0).rotation.get .p0).stallTimer = some 14000000 ∧ ((station.acceptEdge .p0).arms.get .p0).glaze = 13 ∧
      ((station.acceptEdge .p0).windows.get .h1) = ⟨⟨0, 0, none⟩, ⟨0, 0, some 300⟩, ⟨0, 0, some 310⟩, ⟨0, 0, some 300⟩⟩ ∧
      ((station.acceptEdge .p0).supply.get .p0).lastRatio = 3959 ∧
      ((close 40 60 0).supply.get .p0).shortRun = 1 ∧ ((close 40 60 0).supply.get .p0).lastRatio = 2730 ∧
      ((close 30 58 2).supply.get .p0).lastRatio = 2118 ∧ ((close 30 58 2).supply.get .p0).short = true ∧
      (close 30 58 2).attnPending = 32#9 ∧ ((close 30 58 2).pass 0).map (fun r => r.live.map (·.supplyShort)) = some (some true) ∧
      ((close 31 30 2).supply.get .p0).lastRatio = 4096 := by decide +kernel

/-- IndexEdgeKinds, by example 3.7: a first edge, a bounce at 99,999 and a normal edge at 100,000, a normal edge at 6,000,000
and a slow one above, and a stall-clearing one. -/
theorem test_index_edge_kinds :
    let platen (x : Rotation) : State := { station with rotation := station.rotation.set .p1 x }
    let period (s : State) (dt : Nat) := ((after (.platenIndexEdge dt .p1) s).rotation.get .p1).lastPeriod
    period station 1 = none ∧ ((after (.platenIndexEdge 1 .p1) station).rotation.get .p1).reference = some 6000001 ∧
      period (platen ⟨some 6000000, none, some 14000000, false, false⟩) 99999 = none ∧
      period (platen ⟨some 6000000, none, some 14000000, false, false⟩) 100000 = some 100000 ∧
      period (platen ⟨some 6000000, none, some 14000000, false, false⟩) 6000000 = some 6000000 ∧
      period (platen ⟨some 6000000, none, some 14000000, false, false⟩) 6000001 = some 6000001 ∧
      period (platen ⟨some 5000000, none, none, true, false⟩) 6000000 = some 8000000 ∧
      period (platen ⟨some 5000000, none, none, true, false⟩) 8000000 = some 9000000 ∧
      ((after (.platenIndexEdge 8000000 .p1) (platen ⟨some 5000000, none, none, true, false⟩)).pass 1).map Pass.startBlock =
        some (some .pad) ∧
      ((after (.platenIndexEdge 1 .p1) { platen ⟨some 5000000, none, none, true, false⟩ with
        arms := station.arms.set .p1 { Arm.reset with service := .exSitu 3, exSitu := 2 } }).arms.get .p1).sweeping = true ∧
      after (.platenIndexEdge 1 .p1) (platen ⟨none, none, none, false, true⟩) = (platen ⟨none, none, none, false, true⟩).elapse 1 := by
  decide +kernel

/-- CreditedRevolution, by examples 3.8 and 3.9: Z1 gains 209,547, Z3 saturates; the windows, the glaze, the pad's usage; a HELD
pass; the first-revolution flag; a REMOVAL step that completes. -/
theorem test_credited_revolution :
    let live (s : State) := ((after (.platenIndexEdge 20000 .p0) s).pass 0).bind Pass.live
    (live station).map (fun l => (l.acc, l.revolutions)) = some (⟨0, 10695307, 216531, 1099511627775⟩, 1) ∧
      ((after (.platenIndexEdge 20000 .p0) station).item 0).map Item.usage = some 52001 ∧
      (live (withPass passHeld)).map (fun l => l.acc.z1) = some 10695307 ∧
      ((after (.platenIndexEdge 20000 .p0) (withPass passHeld)).item 0).map Item.usage = some 52000 ∧
      (live (withPass { passA with live := some { liveA with firstRevolution := true } })) = some { liveA with firstRevolution := false } ∧
      ((after (.platenIndexEdge 20000 .p0) (withPass { passA with
          steps := [{ stepA with zones := ⟨⟨280, 0, 1257⟩, ⟨300, 163, 1257⟩, ⟨320, 0, 1257⟩, ⟨250, 0, 1257⟩⟩ }] })).pass 0).map
        (fun r => (r.state, r.endCause)) = some (.ended, some .complete) := by decide +kernel

/-- The premises of CreditedRevolution are met together. -/
theorem test_credited_revolution_premises :
    let accepted : State :=
      { station with
        clock := station.clock + 20000
        rotation := station.rotation.set .p0
          { station.rotation.get .p0 with level := true, lastPeriod := some 1020000 } }.acceptEdge .p0
    (station.rotation.get .p0).level = false ∧ (station.rotation.get .p0).stall = false ∧
      (station.rotation.get .p0).reference = some 5000000 ∧ BitVec.ofNat 32 (station.clock + 20000) - 5000000#32 = 1020000#32 ∧
      accepted.pass 0 = some passA ∧ passA.live = some liveA ∧ passA.step = some stepA ∧ passA.head = some .h1 ∧
      stepA.platen = .p0 ∧ platenUnder station.carousel.k .h1 = some .p0 ∧ station.item 0 = some padA ∧
      padA.id = liveA.pad ∧ padA.kind = .pad ∧ liveA.lotA = some 2205 ∧ station.item 2 = some lotA ∧ lotA.id = 2205 ∧
      reported 32767 = 0 ∧ reported 32768 = 1 ∧ reported (2 ^ 40 - 1) = 16777215 := by decide +kernel

/-- SteeredSetpoints, by example 4.8, revolution 1 and the window change of revolution 3. -/
theorem test_steering :
    let nm (z0 z1 z2 : Nat) : LiveProgress := { liveA with acc := ⟨z0 * 65536, z1 * 65536, z2 * 65536, 0⟩ }
    let points (s : State) := [Zone.z0, .z1, .z2, .z3].map fun z => (s.channel .h1 (.zone z)).setpoint
    points (station.steerHead .h1 stepA (nm 210 200 190)) = [some 275, some 300, some 325, some 250] ∧
      points ({ station with channels := station.channels.set .h1 ⟨⟨driving 275, driving 300, driving 320, driving 250⟩, driving 350⟩
                             headSettings := station.headSettings.set .h1 { settingsA with
                               chans := settingsA.chans.set (.zone .z2) ⟨70, 320, 1000, 0⟩ } }.steerHead .h1 stepA (nm 216 208 200)) =
        [some 276, some 300, some 320, some 250] ∧
      points (station.steerHead .h1 stepA { nm 210 200 190 with complete := ⟨false, true, true, false⟩ }) =
        [some 280, some 70, some 70, some 250] ∧
      station.steerHead .h2 stepA liveA = station := by decide +kernel

/-- StallTimerExpires, by example 3.7. -/
theorem test_stall :
    (after (.stallTimerExpiry .p0) station).clock = 13000000 ∧ (after (.stallTimerExpiry .p0) station).attnPending = 8#9 ∧
      ((after (.stallTimerExpiry .p0) station).pass 0).map (fun r => (r.state, r.holds.code)) = some (.held, 4) ∧
      after (.stallTimerExpiry .p1) station = station ∧
      ((after (.stallTimerExpiry .p1) { station with
        rotation := station.rotation.set .p1 ⟨some 1, none, some 8000001, false, false⟩
        arms := station.arms.set .p1 { Arm.reset with sweeping := true, service := .exSitu 3, exSitu := 2, dwell := some 9000000 } }).arms.get
        .p1) = { Arm.reset with service := .exSitu 3, exSitu := 2 } := by decide +kernel

/-! ### Pressure control -/

/-- PressureSampleIsTaken: codes 0, 1, 4094 and 4095, the window's cap, and the eighth disagreeing sample. -/
theorem test_pressure_samples :
    let full : State :=
      { station with windows := station.windows.set .h1 ((station.windows.get .h1).set .z0 ⟨9, 65535, none⟩) }
    let at' (x : Channel) (code : BitVec 12) := after (.pressureSample .h1 (.zone .z0) code) (station.setChannel .h1 (.zone .z0) x)
    ((at' (driving 285) 4094).channel .h1 (.zone .z0)).latest = some 700 ∧ ((at' (driving 285) 1).channel .h1 (.zone .z0)).latest = some 0 ∧
      ((at' (driving 285) 2048).channel .h1 (.zone .z0)).latest = some 500 ∧ ((at' (driving 285) 4095).channel .h1 (.zone .z0)).runCount = 1 ∧
      ((at' (driving 285) 2048).windows.get .h1).z0 = ⟨500, 1, none⟩ ∧
      ((at' { driving 285 with runCount := 7 } 0).channel .h1 (.zone .z0)).fault = true ∧
      ((at' { driving 285 with runCount := 7 } 0).pass 0).map (fun r => r.holds.code) = some 8 ∧
      (at' { driving 285 with runCount := 7 } 0).attnPending = 8#9 ∧
      ((at' { driving 285 with runCount := 7, fault := true } 2048).channel .h1 (.zone .z0)).fault = false ∧
      ((after (.pressureSample .h2 .rr 2048) (station.setChannel .h2 .rr { venting with runCount := 7, fault := true })).pass 1).map
        Pass.startBlock = some (some .pad) ∧
      ((after (.pressureSample .h1 (.zone .z0) 2048) full).windows.get .h1).z0 = ⟨9, 65535, none⟩ := by decide +kernel

/-- ValvePeriodStarts, by example 4.7: setpoint 300 with pressures 180, 330 and 302, and a pulse left without time. -/
theorem test_valve_periods :
    let at' (x : Channel) := (after (.valvePeriodStart .h1 .rr) (station.setChannel .h1 .rr x)).channel .h1 .rr
    (at' { driving 300 with latest := some 180 }).pulse = some ⟨.fill, 18000, 6020000, 6038000⟩ ∧
      (at' { driving 300 with latest := some 180 }).fill.isOpen = true ∧
      (at' { driving 300 with latest := some 330, fill := ⟨false, some 6018000⟩ }).pulse = some ⟨.vent, 6000, 6021000, 6027000⟩ ∧
      (at' { driving 300 with latest := some 330, fill := ⟨false, some 6018000⟩ }).vent.isOpen = false ∧
      (at' { driving 300 with latest := some 302 }).pulse = none ∧ (at' { driving 300 with latest := none }).pulse = none ∧
      (at' { driving 300 with latest := some 303 }).pulse = some ⟨.vent, 600, 6020000, 6020600⟩ ∧
      (at' { driving 300 with fill := ⟨false, some 6037000⟩, latest := some 330 }).pulse = none ∧
      (at' venting).nextPeriod = 6040000 ∧ (driving 300).pulse = none ∧ (driving 300).fill.isOpen = false := by decide +kernel

/-- PulsesAndVentOpen, by example 4.7. -/
theorem test_pulses_and_vents :
    let vented : Pulse := ⟨.vent, 6000, 6021000, 6027000⟩
    let filled : Pulse := ⟨.fill, 6000, 6020000, 6026000⟩
    let at' (c : Instr) (x : Channel) := (after c (station.setChannel .h1 .rr x)).channel .h1 .rr
    (at' (.delayedPulseStart .h1 .rr) { driving 300 with pulse := some vented }).vent.isOpen = true ∧
      (at' (.pulseEnd .h1 .rr) { driving 300 with pulse := some vented, vent := ⟨true, none⟩ }).vent = ⟨false, some 6027000⟩ ∧
      (at' (.pulseEnd .h1 .rr) { driving 300 with pulse := some filled, fill := ⟨true, none⟩ }).fill = ⟨false, some 6026000⟩ ∧
      at' (.pulseEnd .h1 .rr) { driving 300 with pulse := some vented } = { driving 300 with pulse := some vented } ∧
      at' (.delayedPulseStart .h1 .rr) (driving 300) = driving 300 ∧
      (after (.ventOpen .h1 .rr) (station.setChannel .h1 .rr { venting with vent := Valve.rested, fill := ⟨false, some 6044000⟩ })).clock =
        6047000 ∧
      (at' (.ventOpen .h1 .rr) { venting with vent := Valve.rested }).vent.isOpen = true ∧ at' (.ventOpen .h1 .rr) venting = venting := by
  decide +kernel

/-- HeadWriteActs: the window change of example 4.8, a complete zone, a moved pulse, and the refusals. -/
theorem test_head_write :
    let narrow : HeadSettings := { settingsA with chans := settingsA.chans.set (.zone .z2) ⟨75, 310, 1000, 0⟩ }
    let write (s : State) (x : HeadSettings) := after (.headWrite 1) (asking s 0x30 (byte 1 :: x.bytes))
    let late : HeadSettings := { settingsA with drive := ⟨2, 200, 18000, 5000⟩ }
    let waiting : Channel := { driving 300 with pulse := some ⟨.vent, 6000, 6001000, 6007000⟩, fill := ⟨false, some 5999000⟩ }
    let begun : Channel := { waiting with vent := ⟨true, none⟩ }
    let filling : Channel := { driving 300 with pulse := some ⟨.fill, 6000, 6001000, 6007000⟩, vent := ⟨false, some 5999000⟩ }
    let rests : Channel := { venting with vent := ⟨false, some 5000000⟩, fill := ⟨false, some 5998001⟩ }
    Offers (asking station 0x30 (byte 1 :: narrow.bytes)) .headWrite 7#8 (byte 1 :: narrow.bytes) ∧ narrow.inRange = true ∧
      ((write station narrow).channel .h1 (.zone .z2)).setpoint = some 310 ∧
      ((write (withPass { passA with live := some { liveA with complete := ⟨false, false, true, false⟩ } }) narrow).channel .h1
        (.zone .z2)).setpoint = some 75 ∧
      ((write (station.setChannel .h1 .rr waiting) late).channel .h1 .rr).pulse = some ⟨.vent, 6000, 6004000, 6010000⟩ ∧
      ((write (station.setChannel .h1 .rr waiting) { settingsA with drive := ⟨2, 200, 18000, 1001⟩ }).channel .h1 .rr).vent.isOpen = true ∧
      (write (station.setChannel .h1 .rr begun) late).channel .h1 .rr = begun ∧
      (write (station.setChannel .h1 .rr filling) late).channel .h1 .rr =
        { filling with pulse := some ⟨.fill, 6000, 6004000, 6010000⟩ } ∧
      (write (station.setChannel .h1 .rr rests) late).channel .h1 .rr = rests ∧
      (write (station.setChannel .h1 .rr rests) { late with drive := ⟨2, 200, 18000, 2000⟩ }).channel .h1 .rr =
        { rests with vent := ⟨true, some 5000000⟩ } ∧
      { settingsA with drive := ⟨50, 1000, 1000, 500⟩, chans := PerChan.all ⟨700, 700, 2000, 200⟩ }.inRange = true ∧
      { settingsA with drive := ⟨2, 200, 999, 3000⟩ }.inRange = false ∧
      answered (.headWrite 1) (asking station 0x30 (byte 1 :: { settingsA with drive := ⟨51, 200, 18000, 5000⟩ }.bytes)) = some (.badParam, []) ∧
      answered (.headWrite 1) (asking station 0x30 (byte 4 :: settingsA.bytes)) = some (.badParam, []) ∧
      answered (.headWrite 1) (asking station 0x30 settingsA.bytes) = some (.badLength, []) :=
  ⟨offers_asking _ rfl rfl, by decide +kernel⟩

theorem test_head_settings_fit : settingsA.fits := by
  refine ⟨by decide, by decide, by decide, by decide, fun c => ?_⟩
  cases c <;> (try rename_i z; cases z) <;> decide

/-- StationReads. -/
theorem test_station_reads :
    Offers (asking station 0x31 [1]) .headRead 7#8 [1] ∧ Offers (asking station 0x3C []) .slurryRead 7#8 [] ∧
      Offers (asking station 0x42 []) .conditioningRead 7#8 [] ∧
      (answered (.headRead 1) (asking station 0x31 [1])).map (fun x => (x.2.length, (x.2.drop 43).take 6)) =
        some (73, [1, 0x1D, 1, 180, 0, 0]) ∧
      answered (.headRead 1) (asking station 0x31 [4]) = some (.badParam, []) ∧ answered (.headRead 1) (asking station 0x31 []) = some (.badLength, []) ∧
      (answered (.slurryRead 1) (asking station 0x3C [])).map (fun x => (x.2.length, x.2.take 5, (x.2.drop 182).take 12)) =
        some (218, [150, 0, 4, 1, 0], [1, 0, 0, 0, 0, 60, 0, 58, 0, 0, 16, 0]) ∧
      (answered (.conditioningRead 1) (asking station 0x42 [])).map (fun x => (x.2.length, (x.2.drop 173).take 9)) =
        some (200, [1, 1, 1, 0, 0, 0, 12, 0, 0]) :=
  ⟨offers_asking _ rfl rfl, offers_asking _ rfl rfl, offers_asking _ rfl rfl, by decide +kernel⟩

/-! ### Items -/

/-- The payload of an ITEM-REGISTER. -/
def registering (id kind usage limit f0 slope volume age potLife : Nat) : List Byte :=
  leBytes 4 id ++ [byte kind] ++ leBytes 4 usage ++ leBytes 4 limit ++ leBytes 2 f0 ++ leBytes 2 slope ++ leBytes 4 volume ++
    leBytes 2 age ++ leBytes 2 potLife

/-- ItemRegisterPlacesARecord: slot 6 is the lowest free; a pad at its limit; each refusal. -/
theorem test_item_register :
    let register (payload : List Byte) := answered (.itemRegister 1) (asking station 0x20 payload)
    let pad := registering 9 0 5 5 8191 1 0 0 0
    Offers (asking station 0x20 pad) .itemRegister 7#8 pad ∧ pad.length = 25 ∧ station.item 6 = none ∧
      (∀ j : ItemSlot, j < 6 → station.item j ≠ none) ∧ register pad = some (.ok, [6]) ∧
      ((after (.itemRegister 1) (asking station 0x20 pad)).item 6).map Item.flags = some ⟨true, false, false⟩ ∧
      (after (.itemRegister 1) (asking station 0x20 pad)).attnPending = 16#9 ∧
      register (registering 2205 2 0 0 0 0 1 0 0) = some (.duplicate, []) ∧
      register (registering 9 0 0 0 8192 0 0 0 0) = some (.badParam, []) ∧ register (registering 9 4 0 0 0 0 0 0 0) = some (.badParam, []) ∧
      register (registering 9 2 0 1 0 0 0 0 0) = some (.badParam, []) ∧ register (registering 9 3 0 0 1 0 0 0 0) = some (.badParam, []) ∧
      register [0] = some (.badLength, []) := by
  refine ⟨offers_asking _ rfl rfl, ?_⟩
  and_intros <;> decide +kernel

theorem test_item_register_with_a_full_table :
    let s : State := { station with items := Vector.replicate 16 (some lotShelf) }
    (∀ j, s.item j ≠ none) ∧ answered (.itemRegister 1) (asking s 0x20 (registering 9 3 0 0 0 0 0 0 0)) = some (.tableFull, []) := by
  decide +kernel

/-- ItemReads. -/
theorem test_item_reads :
    let lookup (payload : List Byte) := answered (.itemLookup 1) (asking station 0x21 payload)
    let list (payload : List Byte) := answered (.itemList 1) (asking station 0x22 payload)
    Offers (asking station 0x21 [0, 1]) .itemLookup 7#8 [0, 1] ∧ Offers (asking station 0x22 [1]) .itemList 7#8 [1] ∧
      lookup [0, 1] = some (.ok, diskA.layout 1) ∧ lookup (1 :: leBytes 4 3001) = some (.ok, diskA.layout 1) ∧
      lookup [0, 15] = some (.notFound, []) ∧ lookup [0, 16] = some (.badParam, []) ∧ lookup [2] = some (.badParam, []) ∧
      lookup [1, 0, 0, 0, 0] = some (.badParam, []) ∧ lookup [1, 9, 0, 0, 0] = some (.notFound, []) ∧ lookup [] = some (.badLength, []) ∧
      lookup [0, 1, 2] = some (.badLength, []) ∧ list [1] = some (.ok, 1 :: (diskA.layout 1).take 8) ∧
      (list []).map (fun x => x.2.length) = some 49 ∧ list [4] = some (.badParam, []) ∧ list [0, 0] = some (.badLength, []) :=
  by
  refine ⟨offers_asking _ rfl rfl, offers_asking _ rfl rfl, ?_⟩
  and_intros <;> decide +kernel

/-- ItemMountTakesThePosition, by example 5.9: the hot swap of the lot on feed A; and each refusal. -/
theorem test_item_mount :
    let mount (s : State) (id : Nat) (code : Byte) := answered (.itemMount 1) (asking s 0x23 (leBytes 4 id ++ [code]))
    let ringB : State := station.setItem 6 (some { ringA with id := 4002, position := none })
    Offers (asking station 0x23 (leBytes 4 2211 ++ [3])) .itemMount 7#8 (leBytes 4 2211 ++ [3]) ∧
      station.item 5 = some lotShelf ∧ lotShelf.position = none ∧ station.item 2 = some lotA ∧ lotA.position = some .feedA ∧
      mount station 2211 3 = some (.ok, leBytes 4 2205) ∧
      ((after (.itemMount 1) (asking station 0x23 (leBytes 4 2211 ++ [3]))).item 2).map Item.position = some none ∧
      ((after (.itemMount 1) (asking station 0x23 (leBytes 4 2211 ++ [3]))).item 5).map Item.position = some (some .feedA) ∧
      mount (station.setItem 2 none) 2211 3 = some (.ok, leBytes 4 0) ∧ mount station 2211 0 = some (.badParam, []) ∧
      mount station 2211 9 = some (.badParam, []) ∧ mount station 0 3 = some (.badParam, []) ∧ mount station 9 3 = some (.notFound, []) ∧
      mount station 2205 4 = some (.wrongState, []) ∧
      mount (station.setItem 5 (some { lotShelf with flags := ⟨false, false, true⟩ })) 2211 3 = some (.wrongState, []) ∧
      mount ringB 4002 6 = some (.busy, []) ∧ mount ringB 4002 8 = some (.ok, leBytes 4 0) ∧
      answered (.itemMount 1) (asking station 0x23 [1]) = some (.badLength, []) := by
  refine ⟨offers_asking _ rfl rfl, ?_⟩
  and_intros <;> decide +kernel

/-- ItemDismountAndRetire: the lot on feed A, the pad under a running step, the ring of a waiting pass's head, the lot on the
shelf. -/
theorem test_item_dismount_and_retire :
    let dismount (id : Nat) := answered (.itemDismount 1) (asking station 0x24 (leBytes 4 id))
    let retire (id : Nat) := answered (.itemRetire 1) (asking station 0x26 (leBytes 4 id))
    Offers (asking station 0x24 (leBytes 4 2205)) .itemDismount 7#8 (leBytes 4 2205) ∧
      Offers (asking station 0x26 (leBytes 4 2211)) .itemRetire 7#8 (leBytes 4 2211) ∧
      dismount 2205 = some (.ok, []) ∧ (after (.itemDismount 1) (asking station 0x24 (leBytes 4 2205))).attnPending = 8#9 ∧
      dismount 1001 = some (.busy, []) ∧ dismount 4001 = some (.busy, []) ∧ dismount 2211 = some (.wrongState, []) ∧
      dismount 9 = some (.notFound, []) ∧ dismount 0 = some (.badParam, []) ∧ retire 2211 = some (.ok, []) ∧
      retire 2205 = some (.wrongState, []) ∧ retire 0 = some (.badParam, []) ∧ retire 9 = some (.notFound, []) ∧
      answered (.itemRetire 1) (asking station 0x26 []) = some (.badLength, []) :=
  by
  refine ⟨offers_asking _ rfl rfl, offers_asking _ rfl rfl, ?_⟩
  and_intros <;> decide +kernel

/-- ItemAdjustRewrites: a volume of 0 on the mounted lot, a limit reached by a held step's disk (example 7.11), a flag removed, a
field the kind lacks, a mask of 0 and one with bit 6. -/
theorem test_item_adjust :
    let none' : Adjust := { limit := none, f0 := none, slope := none, potLife := none, volume := none, age := none }
    let adjust (s : State) (id : Nat) (a : Adjust) := after (.itemAdjust 1) (asking s 0x25 (leBytes 4 id ++ a.wire))
    let reply (s : State) (id : Nat) (a : Adjust) := answered (.itemAdjust 1) (asking s 0x25 (leBytes 4 id ++ a.wire))
    let parked : State := (withPass passHeld).setArm .p0 { Arm.reset with service := .inSitu 1 }
    Offers (asking station 0x25 (leBytes 4 2205 ++ [0])) .itemAdjust 7#8 (leBytes 4 2205 ++ [0]) ∧
      reply station 2205 none' = some (.ok, [0]) ∧ reply station 2205 { none' with volume := some 0 } = some (.ok, [4]) ∧
      (adjust station 2205 { none' with volume := some 0 }).attnPending = 24#9 ∧
      ((adjust station 2205 { none' with volume := some 0 }).pass 0).map (fun r => r.holds.code) = some 16 ∧
      ((adjust parked 3001 { none' with limit := some 120 }).arms.get .p0).service = .none ∧
      ((adjust parked 3001 { none' with limit := some 120 }).pass 0).map (fun r => r.live.map (·.conditioningIncomplete)) =
        some (some true) ∧
      ((adjust (station.setItem 0 (some { padA with flags := ⟨true, false, false⟩, limit := 52000 })) 1001
        { none' with limit := some 0 }).pass 1).map Pass.startBlock = some (some .pad) ∧
      reply station 2205 { none' with limit := some 1 } = some (.badParam, []) ∧
      reply station 1001 { none' with f0 := some 8192 } = some (.badParam, []) ∧ reply station 9 none' = some (.notFound, []) ∧
      answered (.itemAdjust 1) (asking station 0x25 (leBytes 4 2205 ++ [0x40])) = some (.badParam, []) ∧
      answered (.itemAdjust 1) (asking station 0x25 (leBytes 4 2205 ++ [1])) = some (.badLength, []) ∧
      answered (.itemAdjust 1) (asking station 0x25 (leBytes 4 2205)) = some (.badLength, []) :=
  by
  refine ⟨offers_asking _ rfl rfl, ?_⟩
  and_intros <;> decide +kernel

theorem test_an_adjust_fits : Adjust.fitsWire { limit := none, f0 := some 8191, slope := none, potLife := none, volume := none, age := none } :=
  ⟨fun v e => (nomatch e), fun v e => by cases e; decide, fun v e => (nomatch e), fun v e => (nomatch e), fun v e => (nomatch e),
    fun v e => (nomatch e)⟩

/-- MinuteTickAges: the tick that brings a lot to its pot life. -/
theorem test_minute_tick :
    let s := station.setItem 5 (some { lotShelf with potLife := 13 })
    ((after .minuteTick s).item 5).map (fun x => (x.age, x.flags.expired)) = some (13, true) ∧
      (after .minuteTick s).attnPending = 16#9 ∧ ((after .minuteTick station).item 5).map Item.age = some 13 ∧
      (after .minuteTick station).attnPending = 0#9 ∧ (after .minuteTick station).nextMinute = 120000000 := by decide +kernel

/-! ### Slurry delivery -/

/-- Example 6.9 before its slot 1. -/
def twelveSlots : State :=
  { station with
    rows := putAt (putAt (putAt State.reset.rows 0 ⟨150, 4, 1, 0⟩) 1 ⟨240, 2, 0, 2⟩) 2 ⟨80, 1, 1, 0⟩
    feeds := station.feeds.set .a
      { FeedUnit.reset 6005000 with volume := 20, active := [some .p0, some .p0, some .p1, some .p2, some .p0, none] }
    supply := ⟨{ PlatenSupply.reset with dispensing := some 0 },
      { PlatenSupply.reset with dispensing := some 1, demand := ⟨480, 0, 0⟩ }, { PlatenSupply.reset with dispensing := some 2 }⟩ }

/-- SlotDemandAndPointer, by examples 6.9 and 6.10. -/
theorem test_slot_demand_and_pointer :
    let d := twelveSlots.slotDemand .a
    let armed : State := { twelveSlots with
      load := some ⟨false, true, true⟩, feeds := twelveSlots.feeds.set .a { twelveSlots.feeds.a with pointer := 5 } }
    (d.supply.p0.demand.a, d.supply.p1.demand.a, d.supply.p2.demand.a) = (600, 960, 80) ∧ d.supply.p1.strokes.a = 1 ∧
      ({ twelveSlots with rows := putAt twelveSlots.rows 0 ⟨500, 1, 0, 0⟩
                          feeds := twelveSlots.feeds.set .a { twelveSlots.feeds.a with volume := 10 } }.slotDemand .a).supply.p0.strokes.a = 4 ∧
      ((twelveSlots.advancePointer .a).feeds.get .a).pointer = 1 ∧ ((armed.advancePointer .a).feeds.get .a).pointer = 0 ∧
      ((armed.advancePointer .a).feeds.get .a).active = defaultPhases ∧ (armed.advancePointer .a).load = none ∧
      ({ armed with load := some ⟨false, false, true⟩ }.advancePointer .a).load = some ⟨true, false, true⟩ ∧
      (({ armed with load := none }.advancePointer .a).feeds.get .a).active.length = 6 := by decide +kernel

/-- StrokeSlotGrants, by examples 6.9 and 5.9: the fallback of slot 1, a debit that empties the lot exactly, one refused, a
missing lot, an IDLE entry, the trip and LOADING. -/
theorem test_stroke_slots :
    let slot (s : State) := after (.strokeSlot .a) s
    let lot (volume : Nat) := twelveSlots.setItem 2 (some { lotA with volume })
    twelveSlots.feeds.a.active[0]? = some (some .p0) ∧ ((slot twelveSlots).feeds.get .a).diverter = .p1 ∧
      ((slot twelveSlots).feeds.get .a).pulse = true ∧ ((slot twelveSlots).supply.p0.demand.a, (slot twelveSlots).supply.p1.demand.a) = (600, 0) ∧
      ((slot twelveSlots).item 2).map (fun x => (x.volume, x.usage)) = some (330, 4670) ∧
      ((slot (lot 20)).item 2).map (fun x => (x.volume, x.flags.empty)) = some (0, true) ∧ ((slot (lot 20)).feeds.get .a).pulse = true ∧
      ((slot (lot 20)).pass 0).map (fun r => r.holds.code) = some 16 ∧ ((slot (lot 19)).feeds.get .a).pulse = false ∧
      ((slot (lot 19)).item 2).map (fun x => (x.volume, x.usage)) = some (0, 4650) ∧ (slot (lot 19)).attnPending = 24#9 ∧
      (slot (twelveSlots.setItem 2 none)).attnPending = 8#9 ∧
      ((slot { twelveSlots with feeds := twelveSlots.feeds.set .a { twelveSlots.feeds.a with pointer := 5 } }).supply.p1.strokes.a) = 1 ∧
      (slot { twelveSlots with tripLatch := true }).supply = twelveSlots.supply ∧
      ((slot { twelveSlots with startUp := .loading }).feeds.get .a).pointer = 0 ∧ ((slot twelveSlots).feeds.get .a).nextSlot = 6010000 := by
  decide +kernel

/-- The premise of StrokeSlotGrants that the demand is legal is met. -/
theorem test_twelve_slots_demand_wf : twelveSlots.demandWf := by
  refine fun p => ⟨?_, fun f => ?_⟩
  · cases p <;> intro e <;> cases e
  · cases p <;> cases f <;> decide

/-- SlurrySettings: each request at its bounds. -/
theorem test_slurry_settings :
    let blend (payload : List Byte) := answered (.blendWrite 1) (asking station 0x38 payload)
    let feed (payload : List Byte) := answered (.feedWrite 1) (asking station 0x39 payload)
    let phase (s : State) (payload : List Byte) := answered (.phaseWrite 1) (asking s 0x3A payload)
    Offers (asking station 0x38 [7, 0xF4, 1, 1, 0, 0]) .blendWrite 7#8 [7, 0xF4, 1, 1, 0, 0] ∧
      blend [7, 0xF4, 1, 1, 0, 0] = some (.ok, []) ∧ blend [8, 0, 0, 0, 0, 0] = some (.badParam, []) ∧
      blend [7, 0xF5, 1, 1, 0, 0] = some (.badParam, []) ∧ blend [7, 1, 0, 0, 0, 0] = some (.badParam, []) ∧
      blend [7, 0, 0, 0, 0, 0] = some (.ok, []) ∧ blend [0, 0, 0, 0, 0, 0] = some (.busy, []) ∧ blend [0, 0, 0, 0, 0] = some (.badLength, []) ∧
      feed [0, 10, 0] = some (.ok, []) ∧ feed [0, 9, 0] = some (.badParam, []) ∧ feed [2, 0xD0, 7] = some (.ok, []) ∧
      feed [2, 0xD1, 7] = some (.badParam, []) ∧ feed [3, 10, 0] = some (.badParam, []) ∧ feed [] = some (.badLength, []) ∧
      ((after (.feedWrite 1) (asking station 0x39 [0, 10, 0])).supply.p0.demand.a) = 0 ∧
      ((after (.feedWrite 1) (asking station 0x39 [0, 100, 0])).supply.p0.demand.a) = 5400 ∧
      phase station [1, 3] = some (.ok, []) ∧ phase station [1, 4] = some (.badParam, []) ∧ phase station [0] = some (.badParam, []) ∧
      phase station (32 :: List.replicate 32 2) = some (.ok, []) ∧ phase station (33 :: List.replicate 33 2) = some (.badParam, []) ∧
      phase station [] = some (.badLength, []) ∧ phase station [2, 0] = some (.badLength, []) ∧
      phase { station with load := some ⟨false, false, false⟩ } [1, 3] = some (.busy, []) ∧
      (after (.phaseLoad 1) (asking station 0x3B [])).load = some ⟨false, false, false⟩ ∧
      answered (.phaseLoad 1) (asking { station with load := some ⟨true, false, false⟩ } 0x3B []) = some (.busy, []) :=
  by
  refine ⟨offers_asking _ rfl rfl, ?_⟩
  and_intros <;> decide +kernel

/-! ### Conditioning, carousel, settings -/

/-- Example 7.10 at 41,000 ms: the disk one sweep below its limit, the last segment of an inward or outward sweep. -/
def sweepingStation (usage exSitu : Nat) : State :=
  { station with
    profiles := putAt station.profiles 3 [⟨3000, 150⟩, ⟨4000, 220⟩, ⟨3000, 150⟩]
    items := putAt station.items 6 (some ⟨3003, .disk, some (.platen .p2), usage, 500, ItemFlags.none, 0, 0, 0, 0, 0⟩)
    arms := station.arms.set .p2
      { Arm.reset with sweeping := true, service := .exSitu 3, segment := 2, dwell := some 9000000, exSitu, glaze := 10 } }

/-- WearStopAndDwell: a next segment, a completed sweep, the last one, and the wear stop. -/
theorem test_dwell_expiry :
    let arm (usage n : Nat) := (after (.dwellExpiry .p2) (sweepingStation usage n)).arms.get .p2
    let first (s : State) := (after (.dwellExpiry .p2) { s with arms := s.arms.set .p2 { s.arms.get .p2 with segment := 0 } }).arms.get .p2
    arm 498 3 = { Arm.reset with
        sweeping := true, service := .exSitu 3, direction := .inward, dwell := some 12000000, exSitu := 2, advances := 1 } ∧
      arm 499 2 = { Arm.reset with direction := .inward } ∧ arm 498 1 = { Arm.reset with direction := .inward } ∧
      ((after (.dwellExpiry .p2) (sweepingStation 499 2)).item 6).map (fun x => (x.usage, x.flags.worn)) = some (500, true) ∧
      (after (.dwellExpiry .p2) (sweepingStation 499 2)).attnPending = 16#9 ∧ (first (sweepingStation 498 3)).segment = 1 ∧
      (first (sweepingStation 498 3)).dwell = some 13000000 ∧ after (.dwellExpiry .p1) station = station ∧
      station.wearStop .p1 = station ∧ ((station.wearStop .p0).arms.get .p0).service = .none ∧
      ((station.wearStop .p0).pass 0).map (fun r => r.live.map (·.conditioningIncomplete)) = some (some true) ∧
      (passA.seat station.carousel.k) = some .p0 := by
  and_intros <;> decide +kernel

/-- WearStopAndDwell: the pass of the first slot runs on the platen whose arm wears out. -/
theorem test_pass_on_the_platen : passA.onPlaten station.carousel.k .p0 := ⟨.inl rfl, .h1, stepA, rfl, rfl, rfl, rfl⟩

/-- ConditioningSettings: each request at its bounds; profile 1 is in use. -/
theorem test_conditioning_settings :
    let profile (payload : List Byte) := answered (.profileWrite 1) (asking station 0x40 payload)
    let platen (payload : List Byte) := answered (.platenWrite 1) (asking station 0x41 payload)
    Offers (asking station 0x40 [0, 1, 10, 0, 0xF4, 1]) .profileWrite 7#8 [0, 1, 10, 0, 0xF4, 1] ∧
      profile [0, 1, 10, 0, 0xF4, 1] = some (.ok, []) ∧ profile [0, 1, 9, 0, 0, 0] = some (.badParam, []) ∧
      profile [0, 1, 10, 0, 0xF5, 1] = some (.badParam, []) ∧ profile [0, 1, 0x89, 0x13, 0, 0] = some (.badParam, []) ∧
      profile [1, 1, 10, 0, 0, 0] = some (.busy, []) ∧ profile [4, 1, 10, 0, 0, 0] = some (.badParam, []) ∧
      profile [0, 0] = some (.badParam, []) ∧ profile [0, 11] = some (.badParam, []) ∧ profile [0, 10] = some (.badLength, []) ∧
      profile [0] = some (.badLength, []) ∧ platen [2, 255, 0, 16] = some (.ok, []) ∧ platen [2, 255, 1, 16] = some (.badParam, []) ∧
      platen [3, 0, 0, 0] = some (.badParam, []) ∧ platen [0] = some (.badLength, []) ∧
      (after (.platenWrite 1) (asking station 0x41 [2, 255, 0, 16])).glazeSettings.p2 = ⟨255, 4096⟩ :=
  by
  refine ⟨offers_asking _ rfl rfl, ?_⟩
  and_intros <;> decide +kernel

/-- The station with no pass running and no arm sweeping. -/
def quiet : State := { withPass passC with arms := PerPlaten.all Arm.reset }

/-- CarouselMoves, by examples 8.7 and 8.8. -/
theorem test_carousel :
    let index (s : State) := answered (.carouselIndex 1) (asking s 0x48 [])
    let sync (s : State) (code : Fin 4) := answered (.carouselSync 1 code) (asking s 0x49 [])
    let moving : State := { quiet with carousel := ⟨.indexing, 0, true, some 26000000, false⟩ }
    Offers (asking quiet 0x48 []) .carouselIndex 7#8 [] ∧ index quiet = some (.ok, []) ∧ index station = some (.busy, []) ∧
      index { station with tripLatch := true } = some (.tripped, []) ∧ index moving = some (.wrongState, []) ∧
      (after (.carouselIndex 1) (asking quiet 0x48 [])).carousel = ⟨.indexing, 0, true, some 26000001, false⟩ ∧
      (after (.carouselIndexCompletion 1 1) moving).carousel = ⟨.stopped, 1, false, none, true⟩ ∧
      (after (.carouselIndexCompletion 1 1) moving).attnPending = 0#9 ∧ (after (.carouselIndexCompletion 1 2) moving).attnPending = 64#9 ∧
      (after (.carouselIndexCompletion 1 1) quiet).carousel = { quiet.carousel with cdone := true } ∧
      (after .indexTimerExpiry moving).carousel = ⟨.lost, 0, false, none, false⟩ ∧ after .indexTimerExpiry quiet = quiet ∧
      sync quiet 2 = some (.ok, [0, 2]) ∧ sync moving 2 = some (.wrongState, []) ∧ sync station 2 = some (.busy, []) ∧
      sync { quiet with tripLatch := true } 2 = some (.tripped, []) ∧
      answered (.carouselSync 1 0) (asking quiet 0x49 [0]) = some (.badLength, []) := by
  refine ⟨offers_asking _ rfl rfl, ?_⟩
  and_intros <;> decide +kernel

/-- SettingsLoadActs: a blank EEPROM leaves the defaults; the image of the station spells its settings, unless a byte is not
acknowledged. -/
theorem test_settings_load :
    (after (.settingsLoad 1 none) State.reset).defaulted = true ∧ (after (.settingsLoad 1 none) State.reset).attnPending = 256#9 ∧
      (judgeImage none station.image).map StoredSettings.heads = some station.headSettings ∧
      judgeImage (some 426) station.image = none ∧ after (.settingsLoad 1 none) station = station.elapse 1 := by
  and_intros <;> decide +kernel

/-- SaveLifecycle. -/
theorem test_settings_save :
    let saving : State := { station with save := .writing station.image }
    Offers (asking station 0x58 []) .settingsSave 7#8 [] ∧ (after (.settingsSave 1) (asking station 0x58 [])).save = .writing station.image ∧
      answered (.settingsSave 1) (asking saving 0x58 []) = some (.busy, []) ∧
      answered (.settingsSave 1) (asking station 0x58 [0]) = some (.badLength, []) ∧ (after (.saveDone 1) saving).save = .done ∧
      (after (.saveFailed 1 1) saving).eeprom = [(0, 0xA6#8)] ∧ (after (.saveFailed 1 1) saving).attnPending = 256#9 ∧
      after (.saveDone 1) station = station.elapse 1 := by
  refine ⟨offers_asking _ rfl rfl, ?_⟩
  and_intros <;> decide +kernel

/-- The settings the station's image stores are its settings: the premise of SettingsLoadActs that an image stores a state's
settings is met. -/
theorem test_the_image_stores_the_settings : station.storedIn station.image := by
  refine ⟨fun h => ?_, by decide +kernel, by decide +kernel, ?_, by decide +kernel, by decide +kernel, by decide +kernel, ?_,
    fun p => by cases p <;> decide +kernel, by decide +kernel⟩
  · cases h <;> refine ⟨by decide +kernel, by decide +kernel, by decide +kernel, by decide +kernel, fun i c e => ?_⟩ <;>
      rcases i with _ | _ | _ | _ | _ | i <;> cases e <;> decide +kernel
  · intro n e h
    rcases n with _ | _ | _ | n <;> cases h <;> decide +kernel
  · intro q
    refine ⟨by revert q; decide +kernel, fun n g h => ?_⟩
    fin_cases q <;> rcases n with _ | n <;> cases h <;> decide +kernel

/-- SaveLifecycle: the bytes of the station's image beyond the counts. -/
theorem test_the_image_is_padded : station.paddedIn station.image := by
  refine ⟨fun n h k => ?_, by decide +kernel⟩
  revert h
  interval_cases n <;> decide +kernel

/-! ### Encodings -/

/-- FrameIsHeld: the frame of a STATUS request. -/
theorem test_frame_of_status :
    let q : Request := ⟨0x2A, 1, []⟩
    q.frame.length = 6 ∧ q.frame.take 4 = [2, 0, 0x2A, 1] ∧ station.receiver = .hunting ∧ station.buffers.length < 2 := by decide +kernel

/-- StepProgramsReadBack: the bytes of the step of example 3.8 written out from the layout of R25. -/
theorem test_step_program_bytes :
    stepA.valid = true ∧ stepA.bytes =
      [0, 0, 0x70, 0x17, 0x4D, 0x94, 0, 1, 1, 0, 0x5E, 1, 0, 16, 10, 0x18, 1, 0xF4, 1, 0xE9, 4, 0x2C, 1, 0xF4, 1, 0xE9, 4, 0x40, 1,
        0xF4, 1, 0xE9, 4, 0xFA, 0, 0, 0, 0xE9, 4] ∧ readStep stepA.bytes = some stepA ∧
      liveA.bytes.length = 42 ∧ (liveA.bytes.drop 20).take 6 = [0, 0, 0, 100, 0, 0] ∧
      readStep (stepA.bytes.set 14 0) = none ∧ readStep (stepA.bytes.set 9 1) = none ∧ readStep (stepA.bytes.set 0 3) = none := by
  decide +kernel

/-- SavedSettingsComeBack: no save is under way and the staged table fits. -/
theorem test_saved_settings_premises :
    Offers (asking station 0x58 []) .settingsSave 7#8 [] ∧ (∀ image, station.save ≠ .writing image) ∧ phasesFit station.staged :=
  ⟨offers_asking _ rfl rfl, fun image e => (nomatch e), by decide, by decide⟩

end Sys2Proof.Tests
end

/-! SUPPORT. Reading a layout back: each part of a record's bytes at its offset (R25, R26). -/

namespace Sys2Proof.Machine

/-! ### Fields of concatenated parts -/

/-- A number at the end of the bytes. -/
theorem field_leBytes_last (n v : Nat) : field (leBytes n v) 0 n = v % 256 ^ n := by
  have := field_leBytes n v []
  rwa [List.append_nil] at this

theorem wordField_leBytes (id : Word32) (b : List Byte) : wordField (leBytes 4 id.toNat ++ b) 0 = id := by
  rw [wordField, field_leBytes]
  exact BitVec.eq_of_toNat_eq (by simpa using id.isLt)

theorem wordField_leBytes_last (id : Word32) : wordField (leBytes 4 id.toNat) 0 = id := by
  have := wordField_leBytes id []
  rwa [List.append_nil] at this

theorem toNat_word_mod (id : Word32) : id.toNat % 4294967296 = id.toNat := Nat.mod_eq_of_lt id.isLt

@[simp] theorem length_idBytes (o : Option Word32) : (idBytes o).length = 4 := by
  cases o <;> rfl

/-- The value an id field holds: the id, or 0 for an absent one (R25, R26). -/
def idValue (o : Option Word32) : Nat := o.elim 0 BitVec.toNat

theorem idBytes_eq (o : Option Word32) : idBytes o = leBytes 4 (idValue o) := by
  cases o <;> rfl

theorem idValue_mod (o : Option Word32) : idValue o % 4294967296 = idValue o := by
  cases o with
  | none => rfl
  | some id => exact toNat_word_mod id

theorem flagBit_le (b : Bool) (place : Nat) : flagBit b place ≤ 2 ^ place := by
  cases b <;> simp [flagBit]

/-! ### Step results and live progress (R25, R26) -/

@[simp] theorem StepEnd.code_mod (c : StepEnd) : c.code % 256 = c.code := by cases c <;> rfl

theorem StepResult.length_bytes (r : StepResult) : r.bytes.length = 35 := by
  simp [StepResult.bytes, PerZone.toList]

theorem LiveProgress.length_bytes (l : LiveProgress) : l.bytes.length = 42 := by
  simp [LiveProgress.bytes, PerZone.toList]

/-- What holds of each zone with its place in the order of the layouts. -/
theorem forall_zone_place {P : Nat → Zone → Prop} (h0 : P 0 .z0) (h1 : P 1 .z1) (h2 : P 2 .z2) (h3 : P 3 .z3) :
    ∀ (i : Nat) (z : Zone), [Zone.z0, .z1, .z2, .z3][i]? = some z → P i z
  | 0, _, rfl => h0
  | 1, _, rfl => h1
  | 2, _, rfl => h2
  | 3, _, rfl => h3

theorem StepResult.field_removal (r : StepResult) : ∀ (i : Nat) (z : Zone), [Zone.z0, .z1, .z2, .z3][i]? = some z →
    field r.bytes (6 + 3 * i) 3 = r.removal.get z % 16777216 := by
  apply forall_zone_place <;> simp [StepResult.bytes, PerZone.toList, PerZone.get, field_beyond, field_leBytes]

theorem StepResult.field_ids (r : StepResult) :
    field r.bytes 18 4 = r.pad.toNat ∧ field r.bytes 22 4 = idValue r.lotA ∧ field r.bytes 26 4 = idValue r.lotB ∧
      field r.bytes 30 4 = r.ring.toNat := by
  simp [StepResult.bytes, PerZone.toList, field_beyond, field_leBytes, idBytes_eq, idValue_mod, toNat_word_mod]

theorem StepResult.field_counts (r : StepResult) :
    field r.bytes 0 1 = r.index % 256 ∧ field r.bytes 1 1 = r.cause.code ∧
      field r.bytes 2 2 = r.revolutions % 65536 ∧ field r.bytes 4 2 = r.polishTime % 65536 := by
  simp [StepResult.bytes, field_beyond, field_leBytes]

theorem StepResult.field_flags (r : StepResult) :
    field r.bytes 34 1 = flagBit r.supplyShort 0 + flagBit r.conditioningIncomplete 1 := by
  have h0 := flagBit_le r.supplyShort 0
  have h1 := flagBit_le r.conditioningIncomplete 1
  simp [StepResult.bytes, PerZone.toList, field_beyond]
  omega

theorem LiveProgress.field_acc (l : LiveProgress) : ∀ (i : Nat) (z : Zone), [Zone.z0, .z1, .z2, .z3][i]? = some z →
    field l.bytes (5 * i) 5 = l.acc.get z % 2 ^ 40 := by
  apply forall_zone_place <;> simp [LiveProgress.bytes, PerZone.toList, PerZone.get, field_beyond, field_leBytes]

theorem LiveProgress.field_flags (l : LiveProgress) :
    field l.bytes 20 1 =
      flagBit l.complete.z0 0 + flagBit l.complete.z1 1 + flagBit l.complete.z2 2 + flagBit l.complete.z3 3 +
        flagBit l.firstRevolution 4 + flagBit l.supplyShort 5 + flagBit l.conditioningIncomplete 6 := by
  have h0 := flagBit_le l.complete.z0 0
  have h1 := flagBit_le l.complete.z1 1
  have h2 := flagBit_le l.complete.z2 2
  have h3 := flagBit_le l.complete.z3 3
  have h4 := flagBit_le l.firstRevolution 4
  have h5 := flagBit_le l.supplyShort 5
  have h6 := flagBit_le l.conditioningIncomplete 6
  simp [LiveProgress.bytes, PerZone.toList, field_beyond]
  omega

theorem LiveProgress.field_counts (l : LiveProgress) :
    field l.bytes 21 2 = l.revolutions % 65536 ∧ field l.bytes 23 2 = l.polishTime % 65536 ∧
      field l.bytes 25 1 = l.settleLeft % 256 := by
  simp [LiveProgress.bytes, PerZone.toList, field_beyond, field_leBytes]

theorem LiveProgress.field_ids (l : LiveProgress) :
    field l.bytes 26 4 = l.pad.toNat ∧ field l.bytes 30 4 = idValue l.lotA ∧ field l.bytes 34 4 = idValue l.lotB ∧
      field l.bytes 38 4 = l.ring.toNat := by
  simp [LiveProgress.bytes, PerZone.toList, field_beyond, field_leBytes, field_leBytes_last, idBytes_eq, idValue_mod,
    toNat_word_mod]

/-! ### Step programs (R6, R25) -/

theorem within_iff (lo hi x : Nat) : within lo hi x = true ↔ lo ≤ x ∧ x ≤ hi := decide_eq_true_iff

@[simp] theorem EndpointMode.code_mod (m : EndpointMode) : m.code % 256 = m.code := by cases m <;> rfl

@[simp] theorem EndpointMode.ofCode_code (m : EndpointMode) : EndpointMode.ofCode m.code = some m := by cases m <;> rfl

theorem EndpointMode.ofCode_some_iff (n : Nat) : (∃ m, EndpointMode.ofCode n = some m) ↔ n ≤ 2 := by
  rcases n with _ | _ | _ | n <;> simp [EndpointMode.ofCode]

theorem EndpointMode.ofCode_removal_iff (n : Nat) : EndpointMode.ofCode n = some .removal ↔ n = 0 := by
  rcases n with _ | _ | _ | n <;> simp [EndpointMode.ofCode]

@[simp] theorem Platen.number_mod (p : Platen) : p.number % 256 = p.number := by cases p <;> rfl

@[simp] theorem Platen.ofNumber_number (p : Platen) : Platen.ofNumber p.number = some p := by cases p <;> rfl

theorem Platen.ofNumber_some_iff (n : Nat) : (∃ p, Platen.ofNumber n = some p) ↔ n ≤ 2 := by
  rcases n with _ | _ | _ | n <;> simp [Platen.ofNumber]

theorem indexBelow_val {n : Nat} (q : Fin n) : indexBelow n q.val = some q := by simp [indexBelow]

theorem indexBelow_of_lt {n v : Nat} (h : v < n) : indexBelow n v = some ⟨v, h⟩ := dif_pos h

theorem indexBelow_of_le {n v : Nat} (h : n ≤ v) : indexBelow n v = none := dif_neg (Nat.not_lt.2 h)

theorem indexBelow_some_iff (n v : Nat) : (∃ q, indexBelow n v = some q) ↔ v < n := by
  rcases Nat.lt_or_ge v n with h | h
  · simp [indexBelow_of_lt h, h]
  · simp [indexBelow_of_le h, h]

/-- The three numbers of a conditioning field that R6 and R25 allow. -/
theorem Conditioning.ofFields_some_iff (mode profile sweeps : Nat) :
    (∃ c, Conditioning.ofFields mode profile sweeps = some c) ↔
      (mode = 0 ∧ profile = 0 ∧ sweeps = 0) ∨ (mode = 1 ∧ profile ≤ 3 ∧ sweeps = 0) ∨
        (mode = 2 ∧ profile ≤ 3 ∧ 1 ≤ sweeps ∧ sweeps ≤ 15) := by
  rcases Nat.lt_or_ge profile 4 with h | h
  · rcases mode with _ | _ | _ | mode <;> simp [Conditioning.ofFields, indexBelow_of_lt h, within_iff] <;> omega
  · rcases mode with _ | _ | _ | mode <;> simp [Conditioning.ofFields, indexBelow_of_le h] <;> omega

theorem Conditioning.inRange_of_ofFields {mode profile sweeps : Nat} {c : Conditioning}
    (h : Conditioning.ofFields mode profile sweeps = some c) : c.inRange = true := by
  unfold Conditioning.ofFields at h
  split at h
  · split at h <;> cases h
    rfl
  · split at h <;> cases h
    rfl
  · split at h <;> cases h
    assumption
  · cases h

theorem Conditioning.ofFields_fields {c : Conditioning} (h : c.inRange = true) :
    Conditioning.ofFields c.fields.1 c.fields.2.1 c.fields.2.2 = some c := by
  cases c with
  | none => rfl
  | inSitu q => simp [Conditioning.fields, Conditioning.ofFields, indexBelow_val]
  | exSitu q n =>
    have : within 1 15 n = true := h
    simp [Conditioning.fields, Conditioning.ofFields, indexBelow_val, this]

/-- Zone fields in their ranges, as R6 gives them. -/
theorem ZoneProgram.inRange_iff (z : ZoneProgram) :
    z.inRange = true ↔ z.base ≤ 700 ∧ z.target ≤ 60000 ∧ 1 ≤ z.path ∧ z.path ≤ 8000 := by
  simp [ZoneProgram.inRange, within_iff, and_assoc]

theorem PerZone.mem_toList_iff {α : Type} (t : PerZone α) (x : α) : x ∈ t.toList ↔ ∃ z, t.get z = x := by
  constructor
  · intro h
    rcases (by simpa [PerZone.toList] using h : x = t.z0 ∨ x = t.z1 ∨ x = t.z2 ∨ x = t.z3) with h | h | h | h
    · exact ⟨.z0, h.symm⟩
    · exact ⟨.z1, h.symm⟩
    · exact ⟨.z2, h.symm⟩
    · exact ⟨.z3, h.symm⟩
  · rintro ⟨z, rfl⟩
    cases z <;> simp [PerZone.toList, PerZone.get]

theorem PerZone.all_toList_iff {α : Type} (t : PerZone α) (f : α → Bool) :
    t.toList.all f = true ↔ ∀ z, f (t.get z) = true := by
  simp [List.all_eq_true, PerZone.mem_toList_iff]

/-- The first check of R6, whatever the mode. -/
theorem StepProgram.hasTarget_iff (st : StepProgram) :
    st.hasTarget = true ↔ (st.mode = .removal → ∃ z, 0 < (st.zones.get z).target) := by
  unfold StepProgram.hasTarget
  cases e : st.mode <;> simp [PerZone.mem_toList_iff]

/-- A valid step program, range by range (R6). -/
theorem StepProgram.valid_iff (st : StepProgram) :
    st.valid = true ↔
      (1 ≤ st.timeLimit ∧ st.timeLimit ≤ 6000) ∧ (1 ≤ st.preston ∧ st.preston ≤ 65535) ∧ st.ringPressure ≤ 700 ∧
        st.settle ≤ 15 ∧ st.gain ≤ 255 ∧ (1 ≤ st.slew ∧ st.slew ≤ 100) ∧ st.conditioning.inRange = true ∧
        (∀ z, (st.zones.get z).inRange = true) ∧ (st.mode = .removal → ∃ z, 0 < (st.zones.get z).target) := by
  rw [← PerZone.all_toList_iff, ← StepProgram.hasTarget_iff]
  simp [StepProgram.valid, within_iff, and_assoc]

/-- A step program is read exactly when its parts are, each from its place, and it is valid (R25). -/
theorem readStep_eq_some_iff (b : List Byte) (st : StepProgram) :
    readStep b = some st ↔
      Platen.ofNumber (field b 0 1) = some st.platen ∧ EndpointMode.ofCode (field b 1 1) = some st.mode ∧
        st.timeLimit = field b 2 2 ∧ st.preston = field b 4 2 ∧ indexBelow 8 (field b 6 1) = some st.blendRow ∧
        Conditioning.ofFields (field b 7 1) (field b 8 1) (field b 9 1) = some st.conditioning ∧
        st.ringPressure = field b 10 2 ∧ st.settle = field b 12 1 ∧ st.gain = field b 13 1 ∧ st.slew = field b 14 1 ∧
        st.zones = ⟨zoneAt b 0, zoneAt b 1, zoneAt b 2, zoneAt b 3⟩ ∧ st.valid = true := by
  unfold readStep
  constructor
  · intro h
    split at h
    · rename_i p m q c hp hm hq hc
      dsimp only at h
      split at h
      · rename_i hv
        cases h
        exact ⟨hp, hm, rfl, rfl, hq, hc, rfl, rfl, rfl, rfl, rfl, hv⟩
      · cases h
    · cases h
  · rintro ⟨hp, hm, ht, hk, hq, hc, hr, hs, hg, hw, hz, hv⟩
    rw [hp, hm, hq, hc]
    simp only [← ht, ← hk, ← hr, ← hs, ← hg, ← hw, ← hz]
    exact if_pos hv

/-- The zone places of a layout read as the zones of a program do. -/
theorem forall_zoneAt_iff (b : List Byte) (P : ZoneProgram → Prop) :
    (∀ z, P ((⟨zoneAt b 0, zoneAt b 1, zoneAt b 2, zoneAt b 3⟩ : PerZone ZoneProgram).get z)) ↔
      ∀ z, z < 4 → P (zoneAt b z) := by
  constructor
  · intro h z hz
    interval_cases z
    · exact h .z0
    · exact h .z1
    · exact h .z2
    · exact h .z3
  · intro h z
    cases z
    · exact h 0 (by decide)
    · exact h 1 (by decide)
    · exact h 2 (by decide)
    · exact h 3 (by decide)

theorem exists_zoneAt_iff (b : List Byte) (P : ZoneProgram → Prop) :
    (∃ z, P ((⟨zoneAt b 0, zoneAt b 1, zoneAt b 2, zoneAt b 3⟩ : PerZone ZoneProgram).get z)) ↔
      ∃ z, z < 4 ∧ P (zoneAt b z) := by
  have := not_congr (forall_zoneAt_iff b fun x => ¬P x)
  simpa using this

/-- Bytes that are read as a step program spell one that R6 allows, and the other way round (R6, R25). -/
theorem spellsValidStep_iff_readStep (b : List Byte) : spellsValidStep b ↔ ∃ st, readStep b = some st := by
  have gain := field_lt b 13 1
  have preston := field_lt b 4 2
  constructor
  · rintro ⟨hp, hm, ht, ht', hk, hq, hc, hr, hs, hw, hw', hz, hg⟩
    obtain ⟨p, hp⟩ := (Platen.ofNumber_some_iff _).2 hp
    obtain ⟨m, hm⟩ := (EndpointMode.ofCode_some_iff _).2 hm
    obtain ⟨q, hq⟩ := (indexBelow_some_iff 8 _).2 (Nat.lt_succ_of_le hq)
    obtain ⟨c, hc⟩ := (Conditioning.ofFields_some_iff _ _ _).2 hc
    refine ⟨⟨p, m, _, _, q, c, _, _, _, _, _⟩,
      (readStep_eq_some_iff b _).2 ⟨hp, hm, rfl, rfl, hq, hc, rfl, rfl, rfl, rfl, rfl, ?_⟩⟩
    refine (StepProgram.valid_iff _).2 ⟨⟨ht, ht'⟩, ⟨hk, Nat.le_of_lt_succ preston⟩, hr, hs, Nat.le_of_lt_succ gain,
      ⟨hw, hw'⟩, Conditioning.inRange_of_ofFields hc, ?_, fun e => ?_⟩
    · exact (forall_zoneAt_iff b fun x => x.inRange = true).2 fun z lt => (ZoneProgram.inRange_iff _).2 (hz z lt)
    · cases e
      exact (exists_zoneAt_iff b fun x => 0 < x.target).2 (hg ((EndpointMode.ofCode_removal_iff _).1 hm))
  · rintro ⟨st, h⟩
    obtain ⟨hp, hm, ht, hk, hq, hc, hr, hs, hg, hw, hz, hv⟩ := (readStep_eq_some_iff b st).1 h
    obtain ⟨vt, vk, vr, vs, -, vw, -, vz, vg⟩ := (StepProgram.valid_iff st).1 hv
    rw [hz] at vz vg
    refine ⟨(Platen.ofNumber_some_iff _).1 ⟨_, hp⟩, (EndpointMode.ofCode_some_iff _).1 ⟨_, hm⟩, ht ▸ vt.1, ht ▸ vt.2,
      hk ▸ vk.1, Nat.le_of_lt_succ ((indexBelow_some_iff 8 _).1 ⟨_, hq⟩), (Conditioning.ofFields_some_iff _ _ _).1 ⟨_, hc⟩,
      hr ▸ vr, hs ▸ vs, hw ▸ vw.1, hw ▸ vw.2, fun z lt => ?_, fun e => ?_⟩
    · exact (ZoneProgram.inRange_iff _).1 ((forall_zoneAt_iff b fun x => x.inRange = true).1 vz z lt)
    · rw [(EndpointMode.ofCode_removal_iff _).2 e] at hm
      exact (exists_zoneAt_iff b fun x => 0 < x.target).1 (vg (Option.some.inj hm).symm)

/-! ### The 39 bytes of a step program (R25) -/

theorem StepProgram.length_bytes (st : StepProgram) : st.bytes.length = 39 := by
  simp [StepProgram.bytes, ZoneProgram.bytes, PerZone.toList]

/-- The parts of a valid step program before its zones, each at its offset. -/
theorem StepProgram.field_settings {st : StepProgram} (v : st.valid = true) :
    field st.bytes 0 1 = st.platen.number ∧ field st.bytes 1 1 = st.mode.code ∧ field st.bytes 2 2 = st.timeLimit ∧
      field st.bytes 4 2 = st.preston ∧ field st.bytes 6 1 = st.blendRow.val ∧ field st.bytes 10 2 = st.ringPressure ∧
      field st.bytes 12 1 = st.settle ∧ field st.bytes 13 1 = st.gain ∧ field st.bytes 14 1 = st.slew := by
  obtain ⟨ht, hk, hr, hs, hg, hw, -⟩ := (StepProgram.valid_iff st).1 v
  have hq := st.blendRow.isLt
  simp [StepProgram.bytes, field_beyond, field_leBytes]
  omega

theorem Conditioning.fields_lt {c : Conditioning} (h : c.inRange = true) :
    c.fields.1 < 256 ∧ c.fields.2.1 < 256 ∧ c.fields.2.2 < 256 := by
  cases c with
  | none => decide
  | inSitu q =>
    simp [Conditioning.fields]
    omega
  | exSitu q n =>
    have := (within_iff 1 15 n).1 h
    simp [Conditioning.fields]
    omega

theorem StepProgram.field_conditioning {st : StepProgram} (v : st.valid = true) :
    field st.bytes 7 1 = st.conditioning.fields.1 ∧ field st.bytes 8 1 = st.conditioning.fields.2.1 ∧
      field st.bytes 9 1 = st.conditioning.fields.2.2 := by
  obtain ⟨-, -, -, -, -, -, hc, -⟩ := (StepProgram.valid_iff st).1 v
  obtain ⟨h1, h2, h3⟩ := Conditioning.fields_lt hc
  simp [StepProgram.bytes, field_beyond, Nat.mod_eq_of_lt, h1, h2, h3]

theorem StepProgram.field_zone {st : StepProgram} (v : st.valid = true) :
    ∀ (i : Nat) (z : Zone), [Zone.z0, .z1, .z2, .z3][i]? = some z →
      field st.bytes (15 + 6 * i) 2 = (st.zones.get z).base ∧ field st.bytes (17 + 6 * i) 2 = (st.zones.get z).target ∧
        field st.bytes (19 + 6 * i) 2 = (st.zones.get z).path := by
  obtain ⟨-, -, -, -, -, -, -, hz, -⟩ := (StepProgram.valid_iff st).1 v
  have bounds := fun z => (ZoneProgram.inRange_iff _).1 (hz z)
  have h0 := bounds .z0
  have h1 := bounds .z1
  have h2 := bounds .z2
  have h3 := bounds .z3
  simp only [PerZone.get] at h0 h1 h2 h3
  apply forall_zone_place <;>
    simp [StepProgram.bytes, ZoneProgram.bytes, PerZone.toList, PerZone.get, field_beyond, field_leBytes,
      field_leBytes_last] <;>
    omega

theorem StepProgram.zoneAt_bytes {st : StepProgram} (v : st.valid = true) (i : Nat) (z : Zone)
    (h : [Zone.z0, .z1, .z2, .z3][i]? = some z) : zoneAt st.bytes i = st.zones.get z := by
  obtain ⟨hb, ht, hp⟩ := StepProgram.field_zone v i z h
  rw [zoneAt, hb, ht, hp]

/-- A valid step program reads back from its bytes. -/
theorem readStep_bytes {st : StepProgram} (v : st.valid = true) : readStep st.bytes = some st := by
  obtain ⟨hp, hm, ht, hk, hq, hr, hs, hg, hw⟩ := StepProgram.field_settings v
  obtain ⟨h1, h2, h3⟩ := StepProgram.field_conditioning v
  obtain ⟨-, -, -, -, -, -, hc, -⟩ := (StepProgram.valid_iff st).1 v
  rw [readStep_eq_some_iff, hp, hm, hq, h1, h2, h3, Conditioning.ofFields_fields hc,
    StepProgram.zoneAt_bytes v 0 .z0 rfl, StepProgram.zoneAt_bytes v 1 .z1 rfl, StepProgram.zoneAt_bytes v 2 .z2 rfl,
    StepProgram.zoneAt_bytes v 3 .z3 rfl]
  exact ⟨Platen.ofNumber_number _, EndpointMode.ofCode_code _, ht.symm, hk.symm, indexBelow_val _, rfl, hr.symm,
    hs.symm, hg.symm, hw.symm, rfl, v⟩

/-- Settles O59: the bytes R25 and R26 lay out are read part by part, and what is read is what R6 allows. -/
theorem stepProgramsReadBack : Obligations.StepProgramsReadBack := by
  refine ⟨fun b _ => ?_, fun st v => ?_, fun r => ?_, fun l => ?_⟩
  · rw [spellsValidStep_iff_readStep]
    exact exists_congr fun st => ⟨fun h => ⟨h, readStep_valid h⟩, And.left⟩
  · obtain ⟨hp, hm, ht, hk, hq, hr, hs, hg, hw⟩ := StepProgram.field_settings v
    obtain ⟨h1, h2, h3⟩ := StepProgram.field_conditioning v
    refine ⟨st.length_bytes, readStep_bytes v, hp, hm.trans ?_, ht, hk, hq, ?_, hr, hs, hg, hw, StepProgram.field_zone v⟩
    · cases st.mode <;> rfl
    · cases e : st.conditioning <;> rw [e] at h1 h2 h3 <;> exact ⟨h1, h2, h3⟩
  · obtain ⟨hi, hc, hr, hp⟩ := r.field_counts
    obtain ⟨hpad, ha, hb, hring⟩ := r.field_ids
    refine ⟨r.length_bytes, hi, hc.trans ?_, hr, hp, r.field_removal, hpad, ha.trans ?_, hb.trans ?_, hring, r.field_flags⟩
    · cases r.cause <;> rfl
    · cases r.lotA <;> rfl
    · cases r.lotB <;> rfl
  · obtain ⟨hr, hp, hs⟩ := l.field_counts
    obtain ⟨hpad, ha, hb, hring⟩ := l.field_ids
    refine ⟨l.length_bytes, l.field_acc, l.field_flags, hr, hp, hs, hpad, ha.trans ?_, hb.trans ?_, hring⟩
    · cases l.lotA <;> rfl
    · cases l.lotB <;> rfl

end Sys2Proof.Machine

/-! SUPPORT. A request that the buffers offer is answered as its checks say (R171, R173), and the searches of the Pass
Table (R1, R3). -/

namespace Sys2Proof.Machine

/-! ### Answers -/

/-- An offered request that fails a check is answered that status, and only the clock has moved. -/
theorem Offers.answers_error {α : Type} {s : State} {name : RequestName} {tag : Byte} {payload : List Byte} {dt : Nat}
    {c : Instr} {rule : Handler α} {status : Status} (o : Offers s name tag payload)
    (run : exec c s = .next ((s.elapse dt).serve name rule)) (k : rule.check payload (s.elapse dt) = .error status) :
    Answers c s (s.elapse dt) tag status [] := by
  obtain ⟨ready, code, named, taken⟩ := o
  rw [Answers, run]
  exact congrArg _ (serve_error (s := s.elapse dt) taken named ready k)

/-- An offered request that passes its checks acts and is answered OK with its reply. -/
theorem Offers.answers_ok {α : Type} {s : State} {name : RequestName} {tag : Byte} {payload : List Byte} {dt : Nat}
    {c : Instr} {rule : Handler α} {a : α} (o : Offers s name tag payload)
    (run : exec c s = .next ((s.elapse dt).serve name rule)) (k : rule.check payload (s.elapse dt) = .ok a) :
    Answers c s (rule.act a (s.elapse dt)).1 tag .ok (rule.act a (s.elapse dt)).2 := by
  obtain ⟨ready, code, named, taken⟩ := o
  rw [Answers, run]
  exact congrArg _ (serve_ok (s := s.elapse dt) taken named ready k)

/-! ### The Pass Table -/

@[simp] theorem pass_elapse (s : State) (dt : Nat) (i : PassSlot) : (s.elapse dt).pass i = s.pass i := rfl

theorem passSlots_eq_finRange : passSlots = List.finRange 24 := by decide

/-- A search over a range of slots finds the lowest with the property. -/
theorem find?_finRange_eq_some {n : Nat} (p : Fin n → Bool) (i : Fin n) :
    (List.finRange n).find? p = some i ↔ p i = true ∧ ∀ j, j < i → p j = false := by
  rw [List.find?_eq_some_iff_getElem]
  refine and_congr_right fun _ => ⟨?_, fun h => ⟨i.val, by simp, by simp, fun j lt => ?_⟩⟩
  · rintro ⟨m, lt, rfl, low⟩ j hj
    simpa using low j.val (by simpa [Fin.lt_def] using hj)
  · simpa using h ⟨j, _⟩ lt

theorem freePassSlot_eq_some {s : State} {i : PassSlot} (free : s.pass i = none) (low : ∀ j, j < i → s.pass j ≠ none) :
    s.freePassSlot = some i := by
  unfold State.freePassSlot
  rw [passSlots_eq_finRange, find?_finRange_eq_some]
  exact ⟨by simp [free], fun j lt => by simpa [Option.isSome_iff_ne_none] using low j lt⟩

theorem freePassSlot_eq_none {s : State} (full : ∀ i, s.pass i ≠ none) : s.freePassSlot = none :=
  List.find?_eq_none.2 fun i _ => by simpa using full i

theorem findPass_isSome_iff (s : State) (f : Pass → Bool) :
    (s.findPass f).isSome = true ↔ ∃ i r, s.pass i = some r ∧ f r = true := by
  constructor
  · intro h
    obtain ⟨i, e⟩ := Option.isSome_iff_exists.1 h
    exact ⟨i, findPass_some e⟩
  · rintro ⟨i, r, hr, hf⟩
    by_contra h
    rw [Option.not_isSome_iff_eq_none] at h
    simp [findPass_none h i r hr] at hf

theorem anyPass_iff (s : State) (f : Pass → Bool) : s.anyPass f = true ↔ ∃ i r, s.pass i = some r ∧ f r = true := by
  rw [← findPass_isSome_iff, State.findPass, List.find?_isSome, State.anyPass, List.any_eq_true]

theorem tagLive_iff (s : State) (tag : Word32) : s.tagLive tag = true ↔ ∃ i r, s.pass i = some r ∧ r.tag = tag := by
  simp [State.tagLive, anyPass_iff]

/-- A search that only one live record answers finds it. -/
theorem findPass_eq_some {s : State} {f : Pass → Bool} {i : PassSlot} {r : Pass} (live : s.pass i = some r)
    (holds : f r = true) (only : ∀ j q, s.pass j = some q → f q = true → j = i) : s.findPass f = some i := by
  obtain ⟨j, e⟩ := Option.isSome_iff_exists.1 ((findPass_isSome_iff s f).2 ⟨i, r, live, holds⟩)
  obtain ⟨q, hq, hf⟩ := findPass_some e
  rw [e, only j q hq hf]

theorem liveSlot_val (s : State) (i : PassSlot) : s.liveSlot i.val = (s.pass i).map fun r => (i, r) := by
  simp [State.liveSlot, indexBelow_val]

/-! ### Bytes that name a slot or a head -/

@[simp] theorem passSlot_mod (i : PassSlot) : i.val % 256 = i.val := Nat.mod_eq_of_lt (by omega)

@[simp] theorem Head.number_mod (h : Head) : h.number % 256 = h.number := by cases h <;> rfl

/-! ### PASS-CREATE (R11, R12) -/

/-- Step programs that are not all spelled as R6 allows are not read. -/
theorem readSteps_eq_none : ∀ (n : Nat) (b : List Byte) (i : Nat), i < n →
    ¬spellsValidStep ((b.drop (39 * i)).take 39) → readSteps n b = none
  | n + 1, b, 0, _, bad => by
    have : readStep (b.take 39) = none := by
      rw [spellsValidStep_iff_readStep, ← Option.isSome_iff_exists, Option.not_isSome_iff_eq_none] at bad
      simpa using bad
    simp [readSteps, this]
  | n + 1, b, i + 1, lt, bad => by
    have : readSteps n (b.drop 39) = none := by
      refine readSteps_eq_none n _ i (Nat.lt_of_succ_lt_succ lt) ?_
      rwa [List.drop_drop, Nat.add_comm 39, ← Nat.mul_succ]
    simp [readSteps, this]

/-- Valid step programs are read back from their bytes. -/
theorem readSteps_bytes (steps : List StepProgram) (valid : ∀ st ∈ steps, st.valid = true) :
    readSteps steps.length (steps.map StepProgram.bytes).flatten = some steps := by
  induction steps with
  | nil => rfl
  | cons st rest ih =>
    have first : readStep st.bytes = some st := readStep_bytes (valid st (by simp))
    have others := ih fun x hx => valid x (by simp [hx])
    simp [readSteps, StepProgram.length_bytes, first, others]

theorem length_flatten_steps (steps : List StepProgram) :
    (steps.map StepProgram.bytes).flatten.length = 39 * steps.length := by
  induction steps with
  | nil => rfl
  | cons st rest ih => simp [StepProgram.length_bytes, ih]; omega

/-- A PASS-CREATE payload in the layout of R11: the tag, the step count, then the bytes of the step programs. -/
structure CreatePayload (payload : List Byte) (wafer : Word32) (n : Nat) (rest : List Byte) : Prop where
  length : payload.length = 5 + rest.length
  tag : wordField payload 0 = wafer
  count : field payload 4 1 = n
  steps : payload.drop 5 = rest

theorem createPayload_layout (wafer : Word32) (n : Byte) (rest : List Byte) :
    CreatePayload (leBytes 4 wafer.toNat ++ n :: rest) wafer n.toNat rest where
  length := by
    simp
    omega
  tag := wordField_leBytes _ _
  count := by simp [field_beyond]
  steps := by simp [List.drop_append]

section
variable {payload rest : List Byte} {wafer : Word32} {n : Nat} (p : CreatePayload payload wafer n rest)

include p

theorem CreatePayload.check_count (h : n < 1 ∨ 4 < n) (s : State) : passCreateCheck payload s = .error .badParam := by
  have : within 1 4 n = false := decide_eq_false (by omega)
  simp [passCreateCheck, p.length, p.count, this]

variable (h1 : 1 ≤ n) (h4 : n ≤ 4)

include h1 h4

theorem CreatePayload.check_length (h : rest.length ≠ 39 * n) (s : State) :
    passCreateCheck payload s = .error .badLength := by
  simp [passCreateCheck, p.length, p.count, (within_iff 1 4 _).2 ⟨h1, h4⟩, h]

variable (length : rest.length = 39 * n)

include length

/-- Past the length checks an unread step program is BAD_PARAM. -/
theorem CreatePayload.check_unread (h : readSteps n rest = none) (s : State) :
    passCreateCheck payload s = .error .badParam := by
  simp [passCreateCheck, p.length, p.count, p.steps, (within_iff 1 4 _).2 ⟨h1, h4⟩, length, h]

theorem CreatePayload.check_zero (zero : wafer = 0) (s : State) : passCreateCheck payload s = .error .badParam := by
  cases e : readSteps n rest with
  | none => exact p.check_unread h1 h4 length e s
  | some steps =>
    simp [passCreateCheck, p.length, p.count, p.steps, (within_iff 1 4 _).2 ⟨h1, h4⟩, length, e, p.tag, zero]

variable {steps : List StepProgram} (read : readSteps n rest = some steps) (nonzero : wafer ≠ 0#32) {s : State}

include read nonzero

theorem CreatePayload.check_duplicate (live : s.tagLive wafer = true) :
    passCreateCheck payload s = .error .duplicate := by
  simp [passCreateCheck, p.length, p.count, p.steps, (within_iff 1 4 _).2 ⟨h1, h4⟩, length, read, p.tag,
    nonzero, live]

theorem CreatePayload.check_full (new : s.tagLive wafer = false) (full : s.freePassSlot = none) :
    passCreateCheck payload s = .error .tableFull := by
  simp [passCreateCheck, p.length, p.count, p.steps, (within_iff 1 4 _).2 ⟨h1, h4⟩, length, read, p.tag,
    nonzero, new, full]

theorem CreatePayload.check_accepts (new : s.tagLive wafer = false) {i : PassSlot} (free : s.freePassSlot = some i) :
    passCreateCheck payload s = .ok (i, freshPass wafer steps) := by
  simp [passCreateCheck, p.length, p.count, p.steps, (within_iff 1 4 _).2 ⟨h1, h4⟩, length, read, p.tag,
    nonzero, new, free]

end

/-- Settles O14: each refusal is the first check of R11 that fails, and with none failing the record of R12 is placed. -/
theorem passCreatePlacesARecord : Obligations.PassCreatePlacesARecord := by
  intro s dt tag payload offered
  have refused {status : Status} (k : passCreateCheck payload (s.elapse dt) = .error status) :
      Answers (.passCreate dt) s (s.elapse dt) tag status [] := offered.answers_error (rule := passCreateRule) rfl k
  refine ⟨fun short => refused (if_pos short), ?_⟩
  rintro wafer n rest rfl
  have p := createPayload_layout wafer n rest
  refine ⟨fun h => ?_, fun h1 h4 h => ?_, fun h1 h4 length h => ?_, ?_⟩
  · exact refused (p.check_count h _)
  · exact refused (p.check_length h1 h4 h _)
  · rcases h with zero | ⟨i, lt, bad⟩
    · exact refused (p.check_zero h1 h4 length zero _)
    · exact refused (p.check_unread h1 h4 length (readSteps_eq_none _ _ i lt bad) _)
  · rintro steps h1 h4 count rfl valid
    have length := (length_flatten_steps steps).trans (congrArg (39 * ·) count)
    have read := count ▸ readSteps_bytes steps valid
    refine ⟨fun nonzero live => ?_, fun nonzero fresh => ?_⟩
    · exact refused (p.check_duplicate h1 h4 length read nonzero ((tagLive_iff _ _).2 live))
    · have new : (s.elapse dt).tagLive wafer = false := anyPass_eq_false fun i r hr => by simpa using fresh i r hr
      refine ⟨fun full => ?_, fun i free low => ?_⟩
      · exact refused (p.check_full h1 h4 length read nonzero new (freePassSlot_eq_none full))
      · exact offered.answers_ok (rule := passCreateRule) rfl
          (p.check_accepts h1 h4 length read nonzero new (freePassSlot_eq_some free low))

end Sys2Proof.Machine

/-! SUPPORT. The reads of the Pass Table (R13, R14, R26) and the binding of a head (R15, R16, R143). -/

namespace Sys2Proof.Machine

/-! ### PASS-LOOKUP (R13) -/

theorem wordField_cons (x : Byte) (b : List Byte) : wordField (x :: b) 1 = wordField b 0 := by
  simp [wordField]

theorem passLookupCheck_key {key : Byte} (h : 1 < key.toNat) (rest : List Byte) (s : State) :
    passLookupCheck (key :: rest) s = .error .badParam := by
  have h0 : key.toNat ≠ 0 := by omega
  have h1 : key.toNat ≠ 1 := by omega
  simp [passLookupCheck, h0, h1]

theorem passLookupCheck_slot_length {rest : List Byte} (h : rest.length ≠ 1) (s : State) :
    passLookupCheck (0#8 :: rest) s = .error .badLength := by
  simp [passLookupCheck, h]

theorem passLookupCheck_slot_range {slot : Byte} (h : 23 < slot.toNat) (s : State) :
    passLookupCheck [0#8, slot] s = .error .badParam := by
  simp [passLookupCheck, h]

theorem passLookupCheck_slot_free {s : State} {i : PassSlot} (free : s.pass i = none) :
    passLookupCheck [0#8, byte i.val] s = .error .notFound := by
  have range : ¬23 < i.val := by omega
  simp [passLookupCheck, range, liveSlot_val, free]

theorem passLookupCheck_slot_live {s : State} {i : PassSlot} {r : Pass} (live : s.pass i = some r) :
    passLookupCheck [0#8, byte i.val] s = .ok (i, r) := by
  have range : ¬23 < i.val := by omega
  simp [passLookupCheck, range, liveSlot_val, live]

theorem passLookupCheck_tag_length {rest : List Byte} (h : rest.length ≠ 4) (s : State) :
    passLookupCheck (1#8 :: rest) s = .error .badLength := by
  simp [passLookupCheck, h]

theorem passLookupCheck_tag_zero {wafer : Word32} (zero : wafer = 0#32) (s : State) :
    passLookupCheck (1#8 :: leBytes 4 wafer.toNat) s = .error .badParam := by
  have tag : wordField (1#8 :: leBytes 4 wafer.toNat) 1 = 0#32 := by
    rw [wordField_cons, wordField_leBytes_last, zero]
  simp [passLookupCheck, tag]

theorem passLookupCheck_tag_unknown {s : State} {wafer : Word32} (nonzero : wafer ≠ 0#32)
    (fresh : ∀ i r, s.pass i = some r → r.tag ≠ wafer) :
    passLookupCheck (1#8 :: leBytes 4 wafer.toNat) s = .error .notFound := by
  have none : s.findPass (fun r => decide (r.tag = wafer)) = none := by
    rw [← Option.not_isSome_iff_eq_none, findPass_isSome_iff]
    simpa using fresh
  simp [passLookupCheck, wordField_cons, wordField_leBytes_last, nonzero, none]

theorem passLookupCheck_tag_live {s : State} {i : PassSlot} {r : Pass} (live : s.pass i = some r) (nonzero : r.tag ≠ 0#32)
    (only : ∀ j q, s.pass j = some q → q.tag = r.tag → j = i) :
    passLookupCheck (1#8 :: leBytes 4 r.tag.toNat) s = .ok (i, r) := by
  have found : s.findPass (fun q => decide (q.tag = r.tag)) = some i :=
    findPass_eq_some live (decide_eq_true rfl) fun j q hq e => only j q hq (of_decide_eq_true e)
  simp [passLookupCheck, wordField_cons, wordField_leBytes_last, nonzero, found, live]

/-! ### The head of a lookup (R26) -/

theorem Pass.length_headBytes (i : PassSlot) (r : Pass) : (r.headBytes i).length = 12 := by
  simp [Pass.headBytes]

theorem PassState.code_lt (x : PassState) : x.code < 256 := by cases x <;> decide

theorem headCode_lt (h : Option Head) : headCode h < 256 := by
  rcases h with _ | _ | _ | _ | _ <;> decide

theorem passEndCode_lt (e : Option PassEnd) : passEndCode e < 256 := by
  rcases e with _ | _ | _ | _ <;> decide

theorem startBlockCode_lt (b : Option StartBlock) : startBlockCode b < 256 := by
  rcases b with _ | _ | _ | _ | _ | _ | _ | _ | _ <;> decide

theorem HoldSet.code_lt (x : HoldSet) : x.code < 256 := by
  have h0 := flagBit_le x.host 0
  have h1 := flagBit_le x.trip 1
  have h2 := flagBit_le x.stall 2
  have h3 := flagBit_le x.sensor 3
  have h4 := flagBit_le x.supply 4
  unfold HoldSet.code
  omega

theorem Pass.field_head (i : PassSlot) (r : Pass) :
    field (r.headBytes i) 0 1 = i.val ∧ wordField (r.headBytes i) 1 = r.tag ∧ field (r.headBytes i) 5 1 = r.state.code ∧
      field (r.headBytes i) 6 1 = headCode r.head ∧ field (r.headBytes i) 7 1 = passEndCode r.endCause ∧
      field (r.headBytes i) 8 1 = r.holds.code ∧ field (r.headBytes i) 9 1 = startBlockCode r.startBlock ∧
      field (r.headBytes i) 10 1 = r.steps.length % 256 ∧ field (r.headBytes i) 11 1 = r.current % 256 := by
  simp [Pass.headBytes, wordField_cons, wordField_leBytes, field_beyond, Nat.mod_eq_of_lt, PassState.code_lt, headCode_lt,
    passEndCode_lt, startBlockCode_lt, HoldSet.code_lt]

/-! ### PASS-LIST (R14) -/

theorem PassState.code_inj (x y : PassState) : x.code = y.code ↔ x = y := by
  cases x <;> cases y <;> decide

theorem passListCheck_length {payload : List Byte} (h : 1 < payload.length) (s : State) :
    passListCheck payload s = .error .badLength := by
  have nonempty : payload.length ≠ 0 := by omega
  rw [passListCheck, if_neg nonempty, if_pos h]

theorem passListCheck_range {filter : Byte} (h : 4 < filter.toNat) (s : State) :
    passListCheck [filter] s = .error .badParam := by
  simp [passListCheck, h]

/-- The records PASS-LIST reports: the live ones, or those of one state, in ascending slot order. -/
def State.listed (s : State) (wanted : Option PassState) : List (PassSlot × Pass) :=
  passSlots.filterMap fun i => ((s.pass i).filter fun r => decide (wanted = none ∨ wanted = some r.state)).map (i, ·)

theorem passEntries_eq_listed (s : State) (wanted : Option PassState) :
    s.passEntries (wanted.map PassState.code) = (s.listed wanted).map fun x => passEntry x.1 x.2 := by
  unfold State.passEntries State.listed
  rw [List.map_filterMap]
  congr 1
  funext i
  cases s.pass i with
  | none => rfl
  | some r =>
    cases wanted with
    | none => simp [Option.filter]
    | some x =>
      by_cases e : x = r.state <;> simp [Option.filter, PassState.code_inj, e]

/-- A PASS-LIST payload of no byte wants every pass, one of a state code the passes of that state. -/
theorem passListCheck_wanted (wanted : Option PassState) (s : State) :
    passListCheck (wanted.elim [] fun x => [byte x.code]) s = .ok (wanted.map PassState.code) := by
  rcases wanted with _ | _ | _ | _ | _ | _ <;> rfl

/-- A live record looked up is answered with its bytes, which begin with its head (R26). -/
theorem Offers.answers_lookup {s : State} {dt : Nat} {tag : Byte} {payload : List Byte} {i : PassSlot} {r : Pass}
    (offered : Offers s .passLookup tag payload) (found : passLookupCheck payload (s.elapse dt) = .ok (i, r)) :
    Answers (.passLookup dt) s (s.elapse dt) tag .ok (r.bytes i) :=
  offered.answers_ok (rule := passLookupRule) (a := (i, r)) rfl found

/-- Settles O15: every check of R13 and R14, the layout of R26 and the listing of R14. -/
theorem passReads : Obligations.PassReads := by
  refine ⟨fun x => by cases x <;> rfl, fun s dt tag payload => ⟨fun offered => ?_, fun offered i r live => ?_,
    fun offered => ⟨fun long => ?_, ?_⟩, fun offered wanted spelled => ?_⟩⟩
  · have refused {status : Status} (k : passLookupCheck payload (s.elapse dt) = .error status) :
        Answers (.passLookup dt) s (s.elapse dt) tag status [] := offered.answers_error (rule := passLookupRule) rfl k
    refine ⟨fun empty => refused (by rw [empty]; rfl), ?_⟩
    rintro key rest rfl
    refine ⟨fun high => refused (passLookupCheck_key high _ _), ?_, ?_⟩
    · rintro rfl
      refine ⟨fun h => refused (passLookupCheck_slot_length h _), ?_⟩
      rintro slot rfl
      refine ⟨fun h => refused (passLookupCheck_slot_range h _), ?_⟩
      rintro i rfl free
      exact refused (passLookupCheck_slot_free free)
    · rintro rfl
      refine ⟨fun h => refused (passLookupCheck_tag_length h _), ?_⟩
      rintro wafer rfl
      exact ⟨fun zero => refused (passLookupCheck_tag_zero zero _),
        fun nonzero fresh => refused (passLookupCheck_tag_unknown nonzero fresh)⟩
  · intro spelled
    have found : passLookupCheck payload (s.elapse dt) = .ok (i, r) := by
      rcases spelled with rfl | ⟨rfl, nonzero, only⟩
      · exact passLookupCheck_slot_live live
      · exact passLookupCheck_tag_live live nonzero only
    obtain ⟨hi, ht, hs, hh, he, hc, hb, hn, hr⟩ := Pass.field_head i r
    refine ⟨r.headBytes i, r.length_headBytes i, ?_, hi, ht, hs.trans ?_, hh.trans ?_, he.trans ?_, hc, hb.trans ?_,
      fun few => hn.trans (Nat.mod_eq_of_lt few), fun few => hr.trans (Nat.mod_eq_of_lt few)⟩
    · convert offered.answers_lookup found using 1
      unfold Pass.bytes
      cases r.live <;> rfl
    · cases r.state <;> rfl
    · cases r.head <;> rfl
    · rcases r.endCause with _ | _ | _ | _ <;> rfl
    · rcases r.startBlock with _ | _ | _ | _ | _ | _ | _ | _ | _ <;> rfl
  · exact offered.answers_error (rule := passListRule) rfl (passListCheck_length long (s.elapse dt))
  · rintro filter rfl high
    exact offered.answers_error (rule := passListRule) rfl (passListCheck_range high (s.elapse dt))
  · have payload_eq : payload = wanted.elim [] fun x => [byte x.code] := by
      rw [spelled]
      rcases wanted with _ | _ | _ | _ | _ | _ <;> rfl
    have answered : Answers (.passList dt) s _ tag .ok _ :=
      offered.answers_ok (rule := passListRule) rfl (payload_eq ▸ passListCheck_wanted wanted (s.elapse dt))
    intro listed
    have listed_eq : listed = s.listed wanted := by
      unfold listed State.listed
      congr 1
      funext i
      cases s.pass i with
      | none => rfl
      | some r => by_cases e : wanted = none ∨ wanted = some r.state <;> simp [Option.filter, e]
    have entries : (s.elapse dt).passEntries (wanted.map PassState.code) = listed.map fun x => passEntry x.1 x.2 :=
      listed_eq ▸ passEntries_eq_listed (s.elapse dt) wanted
    dsimp only [passListRule] at answered
    rw [entries, List.length_map] at answered
    exact answered

end Sys2Proof.Machine

/-! SUPPORT. The checks of the requests that name a slot (R10), and the binding of a head (R15, R16, R143). -/

namespace Sys2Proof.Machine

/-! ### The checks of R10 -/

section
variable {α : Type} {n : Nat} {inRange : Bool} {payload : List Byte} {s : State}
  {own : PassSlot → Pass → Except Status α}

theorem slotChecks_length (h : payload.length ≠ n) : slotChecks n inRange payload s own = .error .badLength := if_pos h

theorem slotChecks_range (length : payload.length = n) (h : 23 < field payload 0 1 ∨ inRange = false) :
    slotChecks n inRange payload s own = .error .badParam := by
  rw [slotChecks, if_neg (not_not.2 length), if_pos h]

variable (length : payload.length = n) {i : PassSlot} (slot : field payload 0 1 = i.val) (range : inRange = true)

include length slot range

/-- A payload in range comes to the record of its slot. -/
theorem slotChecks_slot :
    slotChecks n inRange payload s own = (s.pass i).elim (.error .notFound) (own i) := by
  have inside : ¬(23 < i.val ∨ inRange = false) := by simp [range]; omega
  rw [slotChecks, if_neg (not_not.2 length), slot, if_neg inside, liveSlot_val]
  cases s.pass i <;> rfl

theorem slotChecks_free (free : s.pass i = none) : slotChecks n inRange payload s own = .error .notFound := by
  rw [slotChecks_slot length slot range, free]
  rfl

theorem slotChecks_live {r : Pass} (live : s.pass i = some r) : slotChecks n inRange payload s own = own i r := by
  rw [slotChecks_slot length slot range, live]
  rfl

end

/-! ### PASS-BIND (R15, R16, R143) -/

theorem Head.ofNumber_number (h : Head) : Head.ofNumber h.number = some h := by cases h <;> rfl

theorem Head.ofNumber_eq_none : ∀ {n : Nat}, 3 < n → Head.ofNumber n = none
  | _ + 4, _ => rfl

theorem platenUnder_eq_none_iff (k : Fin 4) (h : Head) : platenUnder k h = none ↔ stationOf k h = 0 := by
  revert k
  cases h <;> decide

theorem field_second (x y : Byte) (rest : List Byte) : field (x :: y :: rest) 1 1 = y.toNat := by simp

theorem passBindCheck_range {slot hd : Byte} (h : 23 < slot.toNat ∨ 3 < hd.toNat) (s : State) :
    passBindCheck [slot, hd] s = .error .badParam := by
  refine slotChecks_range rfl ?_
  rw [field_cons_one, field_second]
  exact h.imp_right fun high => by simp [Head.ofNumber_eq_none high]

theorem passBindCheck_free {s : State} {i : PassSlot} (h : Head) (free : s.pass i = none) :
    passBindCheck [byte i.val, byte h.number] s = .error .notFound :=
  slotChecks_free rfl (by simp) (by simp [Head.ofNumber_number]) free

/-- A bind of a live record comes to its own checks (R15). -/
theorem passBindCheck_live {s : State} {i : PassSlot} {r : Pass} (h : Head) (live : s.pass i = some r) :
    passBindCheck [byte i.val, byte h.number] s = bindChecks h s i r := by
  refine (slotChecks_live rfl (i := i) (by simp) (by simp [Head.ofNumber_number]) live).trans ?_
  simp [Head.ofNumber_number]

theorem Pass.holdsHead_iff (r : Pass) :
    r.holdsHead = true ↔ r.state = .waiting ∨ r.state = .polishing ∨ r.state = .held := decide_eq_true_iff

/-- A head is taken exactly when a pass WAITING, POLISHING or HELD has it (R3). -/
theorem holderOf_isSome_iff (s : State) (h : Head) :
    (s.holderOf h).isSome = true ↔ ∃ j q, s.pass j = some q ∧ q.head = some h ∧
      (q.state = .waiting ∨ q.state = .polishing ∨ q.state = .held) := by
  simp [State.holderOf, findPass_isSome_iff, Pass.holdsHead_iff, and_comm]

/-- Settles O16: the map of R143, and the checks of R10 and R15 one after the other. -/
theorem passBindBindsAHead : Obligations.PassBindBindsAHead := by
  refine ⟨by decide, platenUnder_eq_none_iff, fun s dt tag payload offered => ?_⟩
  have refused {status : Status} (k : passBindCheck payload (s.elapse dt) = .error status) :
      Answers (.passBind dt) s (s.elapse dt) tag status [] := offered.answers_error (rule := passBindRule) rfl k
  refine ⟨fun length => refused (slotChecks_length length), ?_⟩
  rintro slot hd rfl
  refine ⟨fun range => refused (passBindCheck_range range _), ?_⟩
  rintro i h rfl rfl
  refine ⟨fun free => refused (passBindCheck_free h free), fun r live => ?_⟩
  have own : passBindCheck [byte i.val, byte h.number] (s.elapse dt) = bindChecks h (s.elapse dt) i r :=
    passBindCheck_live h live
  refine ⟨fun tripped => refused (own.trans (if_pos tripped)), fun clear => ?_⟩
  have own := own.trans (if_neg (by simp [clear]))
  refine ⟨fun bound => refused (own.trans (if_pos bound)), fun staged => ?_⟩
  have own := own.trans (if_neg (not_not.2 staged))
  refine ⟨fun moving => refused (own.trans (if_pos moving)), fun stopped => ?_⟩
  have own := own.trans (if_neg (not_not.2 stopped))
  refine ⟨fun away => refused (own.trans (if_pos away)), fun loading => ?_⟩
  have own := own.trans (if_neg (not_not.2 loading))
  refine ⟨fun taken => refused (own.trans (if_pos ((holderOf_isSome_iff _ h).2 taken))), fun available => ?_⟩
  have own := own.trans (if_neg fun taken => by
    obtain ⟨j, q, hq, hh, hs⟩ := (holderOf_isSome_iff _ h).1 taken
    exact available j q hq hh hs)
  exact offered.answers_ok (rule := passBindRule) rfl own

end Sys2Proof.Machine

/-! SUPPORT. What a step end leaves in each block (R44, R45, R75, R111, R133), and the requests that end a pass or free its
slot (R22 to R24). -/

namespace Sys2Proof.Machine

/-! ### The blocks that served a step (R44) -/

theorem pass_eq_of_passes {s t : State} (h : t.passes = s.passes) (i : PassSlot) : t.pass i = s.pass i :=
  congrArg (slotAt · i) h

theorem Valve.shut_eq (now : Nat) (v : Valve) : v.shut now = ⟨false, if v.isOpen then some now else v.lastClosed⟩ := by
  rcases v with ⟨_ | _, closed⟩ <;> rfl

/-- In VENT the vent valve stands open when it did or when the dead time has passed (R75). -/
theorem Channel.openVentIfRested_vent {c : Channel} (now deadTime : Nat) (m : c.mode = .vent) :
    c.openVentIfRested now deadTime =
      { c with vent := ⟨c.vent.isOpen || decide (c.fill.restedFrom deadTime ≤ now), c.vent.lastClosed⟩ } := by
  rcases c with ⟨mode, setpoint, latest, fault, runCount, fill, ⟨opened, closed⟩, pulse, nextSample, nextPeriod⟩
  cases opened with
  | true => simp [Channel.openVentIfRested]
  | false =>
    have m : mode = .vent := m
    by_cases rested : fill.restedFrom deadTime ≤ now
    · simp [Channel.openVentIfRested, Valve.opened, m, rested]
    · rw [decide_eq_false rested]
      simp [Channel.openVentIfRested, m, rested]

/-- A channel enters VENT from DRIVE, and stays as it is otherwise (R75). -/
theorem Channel.enterVent_eq (now deadTime : Nat) (c : Channel) :
    c.enterVent now deadTime = if c.mode = .drive then c.vented now deadTime else c := by
  cases e : c.mode with
  | vent => simp [Channel.enterVent, e]
  | drive =>
    rw [Channel.enterVent, if_neg (by simp [e]), if_pos rfl, Channel.openVentIfRested_vent _ _ rfl, Valve.shut_eq]
    unfold Channel.vented Valve.restedFrom
    cases (if c.fill.isOpen = true then some now else c.fill.lastClosed) <;> simp

theorem ventHead_vented (s : State) (h : Head) : Vented s (s.ventHead h) h := by
  intro k c
  rw [State.ventHead, channel_updateHead]
  by_cases e : k = h
  · subst e
    simp [Channel.enterVent_eq]
  · simp [e]

theorem Vented.of_channels {s t u : State} {h : Head} (v : Vented s t h) (e : u.channels = t.channels) : Vented s u h := by
  intro k c
  rw [← v k c, State.channel, e]
  rfl

theorem endInSitu_arms (s : State) (p : Platen) :
    (s.endInSitu p).arms = if (s.arms.get p).service.isInSitu = true then
      s.arms.set p { (s.arms.get p).parked with service := .none } else s.arms := by
  unfold State.endInSitu
  dsimp only
  split <;> rfl

/-- The end of an arm's in-situ service changes nothing but the arms. -/
theorem endInSitu_others (s : State) (p : Platen) :
    (s.endInSitu p).channels = s.channels ∧ (s.endInSitu p).supply = s.supply ∧ (s.endInSitu p).items = s.items ∧
      (s.endInSitu p).attnPending = s.attnPending := by
  unfold State.endInSitu
  dsimp only
  split <;> exact ⟨rfl, rfl, rfl, rfl⟩

theorem endService_others (s : State) (h : Head) (st : StepProgram) :
    (s.endService h st).channels = (s.ventHead h).channels ∧
      (s.endService h st).supply = s.supply.set st.platen (s.supply.get st.platen).stopped ∧
      (s.endService h st).items = s.items ∧ (s.endService h st).attnPending = s.attnPending := by
  unfold State.endService
  cases st.conditioning with
  | none => exact ⟨rfl, rfl, rfl, rfl⟩
  | inSitu q => exact endInSitu_others _ _
  | exSitu q n => exact ⟨rfl, rfl, rfl, rfl⟩

/-- Only a step that is conditioned in situ stops its arm when it ends. -/
theorem endService_arms (s : State) (h : Head) (st : StepProgram) :
    (s.endService h st).arms = match st.conditioning with
      | .inSitu _ =>
        if (s.arms.get st.platen).service.isInSitu = true then
          s.arms.set st.platen { (s.arms.get st.platen).parked with service := .none }
        else s.arms
      | _ => s.arms := by
  unfold State.endService
  cases st.conditioning with
  | none => rfl
  | inSitu q => exact endInSitu_arms _ _
  | exSitu q n => rfl

theorem endService_vented (s : State) (h : Head) (st : StepProgram) : Vented s (s.endService h st) h :=
  (ventHead_vented s h).of_channels (endService_others s h st).1

/-! ### The end of a step (R44 to R46) -/

/-- The part when a step has ended, before the start attempt of a pass that moves on: the record closed, the causes raised,
the blocks released, the platen handed off. -/
def State.closedStep (s : State) (i : PassSlot) (r : Pass) (l : LiveProgress) (st : StepProgram) (h : Head)
    (cause : StepEnd) : State :=
  ((((s.setPass i (some (r.closeStep l cause))).raise .stepEnd).raiseIf (!r.movesOn cause) .passEnd).endService h
    st).handOffAfter st cause

section
variable {s : State} {i : PassSlot} {r : Pass} {l : LiveProgress} {st : StepProgram} {h : Head}

theorem endStep_eq (cause : StepEnd) (live : s.pass i = some r) (hl : r.live = some l) (hst : r.step = some st)
    (hh : r.head = some h) :
    s.endStep i cause =
      if r.movesOn cause = true then (s.closedStep i r l st h cause).attempt i else s.closedStep i r l st h cause := by
  simp only [State.endStep, live, hl, hst, hh]
  rfl

theorem closedStep_pass (cause : StepEnd) (j : PassSlot) :
    (s.closedStep i r l st h cause).pass j = if j = i then some (r.closeStep l cause) else s.pass j := by
  have served := (Served.raise (s.setPass i (some (r.closeStep l cause))) .stepEnd).then
    (((Served.raiseIf _ (!r.movesOn cause) .passEnd).then (.endService _ h st)).then (.handOffAfter _ st cause))
  rw [State.closedStep, pass_eq_of_passes served.passes, pass_setPass]

theorem handOffAfter_aborted (s : State) (st : StepProgram) : s.handOffAfter st .aborted = s := by
  unfold State.handOffAfter
  cases st.conditioning <;> rfl

theorem Pass.movesOn_aborted (r : Pass) : r.movesOn .aborted = false := decide_eq_false (by simp)

/-- A step that is aborted ends its pass, raises STEP_END and PASS_END and hands no platen off (R22, R45). -/
theorem closedStep_aborted :
    s.closedStep i r l st h .aborted =
      (((s.setPass i (some (r.closeStep l .aborted))).raise .stepEnd).raise .passEnd).endService h st := by
  rw [State.closedStep, handOffAfter_aborted, Pass.movesOn_aborted]
  rfl

theorem endStep_aborted (live : s.pass i = some r) (hl : r.live = some l) (hst : r.step = some st) (hh : r.head = some h) :
    s.endStep i .aborted = s.closedStep i r l st h .aborted := by
  rw [endStep_eq .aborted live hl hst hh, Pass.movesOn_aborted]
  rfl

theorem Pass.closeStep_aborted (r : Pass) (l : LiveProgress) :
    r.closeStep l .aborted =
      { r with
        state := .ended, endCause := some .aborted, head := none, current := r.results.length, startBlock := none,
        holds := HoldSet.empty, live := none
        results := r.results ++ [l.result r.current .aborted] } := by
  simp [Pass.closeStep, Pass.movesOn_aborted, Pass.enterEnded, StepEnd.passEnd]

theorem closedStep_aborted_vented : Vented s (s.closedStep i r l st h .aborted) h := by
  rw [closedStep_aborted]
  exact endService_vented _ h st

end

theorem add_stepEnd_passEnd (a : CauseSet) : (a.add .stepEnd).add .passEnd = a ||| 3#9 := by
  simp [CauseSet.add, Cause.bit, BitVec.or_assoc]

/-! ### PASS-ABORT and PASS-RETIRE (R22 to R24) -/

theorem Pass.running_iff (r : Pass) : r.running = true ↔ r.state = .polishing ∨ r.state = .held := decide_eq_true_iff

/-- The one byte of an abort or a retire that names no slot. -/
theorem slotByte_range {α : Type} {slot : Byte} (h : 23 < slot.toNat) (s : State)
    (own : PassSlot → Pass → Except Status α) : slotChecks 1 true [slot] s own = .error .badParam :=
  slotChecks_range rfl (.inl (by simpa using h))

theorem slotByte_free {α : Type} {s : State} {i : PassSlot} (free : s.pass i = none)
    (own : PassSlot → Pass → Except Status α) : slotChecks 1 true [byte i.val] s own = .error .notFound :=
  slotChecks_free rfl (by simp) rfl free

theorem slotByte_live {α : Type} {s : State} {i : PassSlot} {r : Pass} (live : s.pass i = some r)
    (own : PassSlot → Pass → Except Status α) : slotChecks 1 true [byte i.val] s own = own i r :=
  slotChecks_live rfl (by simp) rfl live

/-- An accepted abort answers OK with no payload. -/
theorem Offers.answers_abort {s : State} {dt : Nat} {tag : Byte} {i : PassSlot} {r : Pass}
    (offered : Offers s .passAbort tag [byte i.val]) (live : s.pass i = some r) (going : r.state ≠ .ended) :
    Answers (.passAbort dt) s ((s.elapse dt).abort i r) tag .ok [] :=
  offered.answers_ok (rule := passAbortRule) (a := (i, r)) rfl
    ((slotByte_live (s := s.elapse dt) live _).trans (if_neg going))

/-- Settles O18: the checks of R10, R22 and R24, an abort without a running step, and the step end of one with it. -/
theorem passAbortAndRetire : Obligations.PassAbortAndRetire := by
  refine ⟨fun s dt tag payload offered => ⟨fun length => ?_, ?_⟩,
    fun s dt tag i r offered live => ⟨fun ended => ?_, fun bound => ?_, fun running l st h hl hst hh => ?_⟩,
    fun s dt tag payload offered => ⟨fun length => ?_, ?_⟩⟩
  · exact offered.answers_error (rule := passAbortRule) rfl (slotChecks_length length)
  · rintro slot rfl
    refine ⟨fun high => offered.answers_error (rule := passAbortRule) rfl (slotByte_range high _ _), ?_⟩
    rintro i rfl free
    exact offered.answers_error (rule := passAbortRule) rfl (slotByte_free free _)
  · exact offered.answers_error (rule := passAbortRule) rfl ((slotByte_live live _).trans (if_pos ended))
  · have idle : ¬r.running = true := by
      rw [Pass.running_iff]
      rcases bound with e | e <;> simp [e]
    have answered := offered.answers_abort (dt := dt) live (by rcases bound with e | e <;> simp [e])
    rwa [State.abort, if_neg idle] at answered
  · have answered := offered.answers_abort (dt := dt) live (by rcases running with e | e <;> simp [e])
    rw [State.abort, if_pos ((Pass.running_iff r).2 running)] at answered
    refine ⟨answered, ?_⟩
    have kept := KeptStation.endStep (s.elapse dt) i .aborted
    rw [endStep_aborted (s := s.elapse dt) live hl hst hh] at kept ⊢
    let closed := (((s.elapse dt).setPass i (some (r.closeStep l .aborted))).raise .stepEnd).raise .passEnd
    obtain ⟨-, supply, items, attn⟩ := endService_others closed h st
    have arms := endService_arms closed h st
    rw [← closedStep_aborted] at supply items attn arms
    refine ⟨attn.trans (add_stepEnd_passEnd _), ?_, fun j other => ?_, closedStep_aborted_vented, supply,
      arms, items, kept⟩
    · rw [closedStep_pass, if_pos rfl, Pass.closeStep_aborted]
    · rw [closedStep_pass, if_neg other]
      rfl
  · exact offered.answers_error (rule := passRetireRule) rfl (slotChecks_length length)
  · rintro slot rfl
    refine ⟨fun high => offered.answers_error (rule := passRetireRule) rfl (slotByte_range high _ _), ?_⟩
    rintro i rfl
    refine ⟨fun free => offered.answers_error (rule := passRetireRule) rfl (slotByte_free free _), fun r live => ?_⟩
    have own := slotByte_live (s := s.elapse dt) live
      fun i r => if r.state = .ended then .ok i else .error .wrongState
    exact ⟨fun going => offered.answers_error (rule := passRetireRule) rfl (own.trans (if_neg going)),
      fun ended => offered.answers_ok (rule := passRetireRule) (a := i) rfl (own.trans (if_pos ended))⟩

end Sys2Proof.Machine

/-! SUPPORT. What an amend spells on the wire, what its checks make of it, and a step that an amend ends (R17 to R20). -/

namespace Sys2Proof.Machine

/-! ### Ranges of an amend (R17) -/

theorem inRangeIfAny_iff {α : Type} (f : α → Bool) (o : Option α) :
    inRangeIfAny f o = true ↔ ∀ x, o = some x → f x = true := by
  cases o <;> simp [inRangeIfAny]

theorem Amend.inRange_iff (a : Amend) : a.inRange = true ↔
    (∀ t, a.targets = some t → ∀ z, t.get z ≤ 60000) ∧ (∀ b, a.bases = some b → ∀ z, b.get z ≤ 700) ∧
      (∀ v, a.timeLimit = some v → 1 ≤ v ∧ v ≤ 6000) ∧ ∀ v, a.gain = some v → v ≤ 255 := by
  simp only [Amend.inRange, Bool.and_eq_true, inRangeIfAny_iff, PerZone.all_toList_iff, within_iff, Nat.zero_le, true_and,
    and_assoc]

/-- Values in the ranges of R17 fit their bytes. -/
theorem Amend.fitsWire_of_inRange {a : Amend} (h : a.inRange = true) : a.fitsWire := by
  obtain ⟨ht, hb, hl, hg⟩ := a.inRange_iff.1 h
  exact ⟨fun t e z => (ht t e z).trans_lt (by decide), fun b e z => (hb b e z).trans_lt (by decide),
    fun v e => (hl v e).2.trans_lt (by decide), fun v e => (hg v e).trans_lt (by decide)⟩

/-! ### The wire (R17) -/

/-- The mask byte of an amend. -/
def Amend.mask (a : Amend) : Nat :=
  flagBit a.targets.isSome 0 + flagBit a.bases.isSome 1 + flagBit a.timeLimit.isSome 2 + flagBit a.gain.isSome 3

/-- Four two-byte values, or nothing (R17). -/
def fourBytes (o : Option (PerZone Nat)) : List Byte := o.elim [] fun t => (t.toList.map (leBytes 2)).flatten

/-- A value of some bytes, or nothing (R17). -/
def valueBytes (n : Nat) (o : Option Nat) : List Byte := o.elim [] (leBytes n)

theorem Amend.wire_eq (a : Amend) :
    a.wire = byte a.mask ::
      (fourBytes a.targets ++ (fourBytes a.bases ++ (valueBytes 2 a.timeLimit ++ valueBytes 1 a.gain))) := by
  simp only [Amend.wire, Amend.mask, List.append_assoc]
  refine congrArg (_ :: ·) (congrArg₂ (· ++ ·) ?_ (congrArg₂ (· ++ ·) ?_ (congrArg₂ (· ++ ·) ?_ ?_)))
  · cases a.targets <;> rfl
  · cases a.bases <;> rfl
  · cases a.timeLimit <;> rfl
  · cases a.gain <;> rfl

/-- The bits of four flags are those flags. -/
theorem maskBit_flags (b0 b1 b2 b3 : Bool) :
    let mask := flagBit b0 0 + flagBit b1 1 + flagBit b2 2 + flagBit b3 3
    mask < 16 ∧ maskBit mask 0 = b0 ∧ maskBit mask 1 = b1 ∧ maskBit mask 2 = b2 ∧ maskBit mask 3 = b3 := by
  revert b0 b1 b2 b3
  decide

theorem Amend.mask_lt (a : Amend) : a.mask < 16 := (maskBit_flags _ _ _ _).1

theorem Amend.maskBit_mask (a : Amend) :
    maskBit a.mask 0 = a.targets.isSome ∧ maskBit a.mask 1 = a.bases.isSome ∧ maskBit a.mask 2 = a.timeLimit.isSome ∧
      maskBit a.mask 3 = a.gain.isSome := (maskBit_flags _ _ _ _).2

theorem length_fourBytes (o : Option (PerZone Nat)) : (fourBytes o).length = if o.isSome then 8 else 0 := by
  cases o <;> simp [fourBytes, PerZone.toList]

theorem length_valueBytes (n : Nat) (o : Option Nat) : (valueBytes n o).length = if o.isSome then n else 0 := by
  cases o <;> simp [valueBytes]

/-- The bytes a mask bit stands for are as many as the field has. -/
theorem Amend.maskedBytes_mask (a : Amend) :
    maskedBytes a.mask 0 8 = (fourBytes a.targets).length ∧ maskedBytes a.mask 1 8 = (fourBytes a.bases).length ∧
      maskedBytes a.mask 2 2 = (valueBytes 2 a.timeLimit).length ∧
      maskedBytes a.mask 3 1 = (valueBytes 1 a.gain).length := by
  obtain ⟨h0, h1, h2, h3⟩ := a.maskBit_mask
  simp [maskedBytes, h0, h1, h2, h3, length_fourBytes, length_valueBytes]

theorem amendLength_wire (a : Amend) (x y : Byte) : (x :: y :: a.wire).length = amendLength a.mask := by
  obtain ⟨h0, h1, h2, h3⟩ := a.maskedBytes_mask
  simp only [amendLength, h0, h1, h2, h3, Amend.wire_eq, List.length_cons, List.length_append]
  omega

/-- Four values that follow some bytes are read where those bytes end. -/
theorem fourAt_fourBytes {payload before after : List Byte} {o : Option (PerZone Nat)} {start : Nat}
    (h : payload = before ++ (fourBytes o ++ after)) (at_ : start = before.length)
    (fits : ∀ t, o = some t → ∀ z, t.get z < 65536) :
    (if o.isSome = true then some (fourAt payload start) else none) = o := by
  subst h at_
  cases o with
  | none => rfl
  | some t =>
    have h0 := fits t rfl .z0
    have h1 := fits t rfl .z1
    have h2 := fits t rfl .z2
    have h3 := fits t rfl .z3
    rcases t with ⟨a, b, c, d⟩
    simp only [PerZone.get] at h0 h1 h2 h3
    simp [fourBytes, fourAt, field_beyond, PerZone.toList, field_leBytes, Nat.mod_eq_of_lt, h0, h1, h2, h3]

theorem field_valueBytes {payload before after : List Byte} {n : Nat} {o : Option Nat} {start : Nat}
    (h : payload = before ++ (valueBytes n o ++ after)) (at_ : start = before.length)
    (fits : ∀ v, o = some v → v < 256 ^ n) : (if o.isSome = true then some (field payload start n) else none) = o := by
  subst h at_
  cases o with
  | none => rfl
  | some v => simp [valueBytes, field_beyond, field_leBytes, Nat.mod_eq_of_lt, fits v rfl]

/-- An amend reads back from the wire. -/
theorem readAmend_wire {a : Amend} (fits : a.fitsWire) (x y : Byte) : readAmend (x :: y :: a.wire) a.mask = a := by
  obtain ⟨ht, hb, hl, hg⟩ := fits
  obtain ⟨m0, m1, m2, m3⟩ := a.maskBit_mask
  obtain ⟨n0, n1, n2, -⟩ := a.maskedBytes_mask
  let head := [x, y, byte a.mask]
  have targets := fourAt_fourBytes (payload := x :: y :: a.wire) (before := head) (start := 3)
    (by rw [Amend.wire_eq]; rfl) rfl ht
  have bases := fourAt_fourBytes (payload := x :: y :: a.wire) (before := head ++ fourBytes a.targets)
    (after := valueBytes 2 a.timeLimit ++ valueBytes 1 a.gain) (start := 3 + (fourBytes a.targets).length)
    (by simp [Amend.wire_eq, head]) (by simp [head]; omega) hb
  have limit := field_valueBytes (n := 2) (o := a.timeLimit) (payload := x :: y :: a.wire) (after := valueBytes 1 a.gain)
    (before := head ++ fourBytes a.targets ++ fourBytes a.bases)
    (start := 3 + (fourBytes a.targets).length + (fourBytes a.bases).length) (by simp [Amend.wire_eq, head])
    (by simp [head]; omega) hl
  have gain := field_valueBytes (n := 1) (o := a.gain) (payload := x :: y :: a.wire) (after := [])
    (before := head ++ fourBytes a.targets ++ fourBytes a.bases ++ valueBytes 2 a.timeLimit)
    (start := 3 + (fourBytes a.targets).length + (fourBytes a.bases).length + (valueBytes 2 a.timeLimit).length)
    (by simp [Amend.wire_eq, head]) (by simp [head]; omega) hg
  simp only [readAmend, m0, m1, m2, m3, n0, n1, n2, targets, bases, limit, gain]

/-! ### The checks of PASS-AMEND (R10, R17) -/

theorem maskBit_toNat (mask : Byte) (bit : Nat) : maskBit mask.toNat bit = mask.getLsbD bit := by
  rw [maskBit, BitVec.getLsbD, Nat.testBit_eq_decide_div_mod_eq, Bool.beq_eq_decide_eq]

theorem amendLength_toNat (mask : Byte) :
    amendLength mask.toNat = 3 + ((if mask.getLsbD 0 then 8 else 0) + (if mask.getLsbD 1 then 8 else 0) +
      (if mask.getLsbD 2 then 2 else 0) + (if mask.getLsbD 3 then 1 else 0)) := by
  simp only [amendLength, maskedBytes, maskBit_toNat]
  omega

/-- The checks of PASS-AMEND on a payload that holds its mask. -/
theorem passAmendCheck_cons (slot n mask : Byte) (rest : List Byte) (s : State) :
    passAmendCheck (slot :: n :: mask :: rest) s =
      slotChecks (amendLength mask.toNat)
        (decide (mask.toNat < 16 ∧ n.toNat ≤ 3) && (readAmend (slot :: n :: mask :: rest) mask.toNat).inRange)
        (slot :: n :: mask :: rest) s
        (amendChecks n.toNat (readAmend (slot :: n :: mask :: rest) mask.toNat)) := by
  have two : field (slot :: n :: mask :: rest) 2 1 = mask.toNat := by simp
  have one : field (slot :: n :: mask :: rest) 1 1 = n.toNat := by simp
  simp [passAmendCheck, two, one]

/-- The checks of PASS-AMEND on an amend's own bytes. -/
theorem passAmendCheck_wire {a : Amend} (fits : a.fitsWire) (slot n : Byte) (s : State) :
    passAmendCheck (slot :: n :: a.wire) s =
      slotChecks (amendLength a.mask) (decide (n.toNat ≤ 3) && a.inRange) (slot :: n :: a.wire) s
        (amendChecks n.toNat a) := by
  have read := readAmend_wire fits slot n
  have small := a.mask_lt
  have mask : (byte a.mask).toNat = a.mask := by
    rw [toNat_byte]
    omega
  rw [Amend.wire_eq] at read ⊢
  rw [passAmendCheck_cons, mask, read]
  simp [small]

end Sys2Proof.Machine

/-! SUPPORT. What a start attempt can do to the record it is made for (R31, R34), and a step that an amend ends (R20). -/

namespace Sys2Proof.Machine

/-! ### Start attempts -/

theorem startStep_pass (s : State) (i j : PassSlot) (r : Pass) (h : Head) (st : StepProgram) :
    (s.startStep i r h st).pass j =
      if j = i then some { r with state := .polishing, startBlock := none, live := some (s.freshLive h st) }
      else s.pass j := by
  have served := ((Served.driveHead (s.setPass i (some
    { r with state := .polishing, startBlock := none, live := some (s.freshLive h st) })) h st (PerZone.all false)).then
      (.startDispensing _ st.platen st.blendRow)).then (.conditionStart _ st)
  rw [State.startStep, pass_eq_of_passes (served.then (.addUsageOf _ _ 1)).passes, pass_setPass]

/-- A start attempt leaves the record of its slot as it was, writes a start block, or starts the step (R31, R34). -/
theorem attempt_record {s : State} {i : PassSlot} {r : Pass} (live : s.pass i = some r) :
    (s.attempt i).pass i = some r ∨ ∃ q, (s.attempt i).pass i = some q ∧ Attempted r q := by
  simp only [State.attempt, live]
  split
  · split
    · rename_i h st _ hst
      split
      · exact .inr ⟨_, pass_setPass_self _ _ _, .inl ⟨_, rfl⟩⟩
      · exact .inr ⟨_, (startStep_pass _ _ _ _ _ _).trans (if_pos rfl), .inr ⟨st, _, _, _, _, _, hst, rfl⟩⟩
    · exact .inl live
  · exact .inl live

theorem Attempted.results {r q : Pass} (h : Attempted r q) : q.results = r.results := by
  rcases h with ⟨_, rfl⟩ | ⟨_, _, _, _, _, _, _, rfl⟩ <;> rfl

theorem Attempted.state {r q : Pass} (h : Attempted r q) : q.state = r.state ∨ q.state = .polishing := by
  rcases h with ⟨_, rfl⟩ | ⟨_, _, _, _, _, _, _, rfl⟩
  · exact .inl rfl
  · exact .inr rfl

/-! ### Causes stay pending -/

theorem CauseSet.has_add (a : CauseSet) (c d : Cause) : (a.add c).has d = true ↔ a.has d = true ∨ c.bit &&& d.bit ≠ 0 := by
  have split : (a ||| c.bit) &&& d.bit = (a &&& d.bit) ||| (c.bit &&& d.bit) := by
    ext i hi
    simp [Bool.and_or_distrib_right]
  rw [CauseSet.has, CauseSet.has, CauseSet.add, split, bne_iff_ne, bne_iff_ne, ne_eq, BitVec.or_eq_zero_iff]
  tauto

theorem CauseSet.has_add_self (a : CauseSet) (c : Cause) : (a.add c).has c = true :=
  (CauseSet.has_add a c c).2 (.inr (by cases c <;> decide))

/-- Every cause that is pending before is pending after. -/
structure KeepsCauses (s t : State) : Prop where
  keep : ∀ c, s.attnPending.has c = true → t.attnPending.has c = true

theorem KeepsCauses.of {s t : State} (e : t.attnPending = s.attnPending) : KeepsCauses s t := ⟨fun _ h => e ▸ h⟩

theorem KeepsCauses.then {s t u : State} (a : KeepsCauses s t) (b : KeepsCauses t u) : KeepsCauses s u :=
  ⟨fun c h => b.keep c (a.keep c h)⟩

theorem KeepsCauses.raiseIf (s : State) (b : Bool) (c : Cause) : KeepsCauses s (s.raiseIf b c) := by
  cases b with
  | false => exact .of rfl
  | true => exact ⟨fun d h => (CauseSet.has_add _ c d).2 (.inl h)⟩

theorem KeepsCauses.addUsageOf (s : State) (found : Option ItemSlot) (n : Nat) : KeepsCauses s (s.addUsageOf found n) := by
  unfold State.addUsageOf State.addUsageAt
  split
  · split
    · exact (KeepsCauses.of (by rfl)).then (.raiseIf _ _ _)
    · exact .of rfl
  · exact .of rfl

theorem conditionStart_attnPending (s : State) (st : StepProgram) : (s.conditionStart st).attnPending = s.attnPending := by
  unfold State.conditionStart
  cases st.conditioning <;> rfl

theorem KeepsCauses.startStep (s : State) (i : PassSlot) (r : Pass) (h : Head) (st : StepProgram) :
    KeepsCauses s (s.startStep i r h st) := by
  refine KeepsCauses.then (.of ?_) (.addUsageOf _ _ 1)
  exact conditionStart_attnPending _ st

theorem KeepsCauses.attempt (s : State) (i : PassSlot) : KeepsCauses s (s.attempt i) := by
  unfold State.attempt
  split
  · exact .of rfl
  · split
    · split
      · split
        · exact .of rfl
        · exact .startStep _ _ _ _ _
      · exact .of rfl
    · exact .of rfl

theorem handOff_attnPending (s : State) (p : Platen) (q : Fin 4) (n : Nat) :
    (s.handOff p q n).attnPending = s.attnPending := by
  unfold State.handOff
  dsimp only
  split
  · rfl
  · split
    · rfl
    · split <;> rfl

theorem handOffAfter_attnPending (s : State) (st : StepProgram) (cause : StepEnd) :
    (s.handOffAfter st cause).attnPending = s.attnPending := by
  unfold State.handOffAfter
  cases st.conditioning with
  | none => rfl
  | inSitu q => rfl
  | exSitu q n =>
    dsimp only
    split
    · rfl
    · exact handOff_attnPending _ _ _ _

/-! ### What a step end leaves, whatever its cause (R44, R45) -/

theorem Pass.closeStep_results (r : Pass) (l : LiveProgress) (cause : StepEnd) :
    (r.closeStep l cause).results = r.results ++ [l.result r.current cause] := by
  unfold Pass.closeStep
  dsimp only
  split <;> rfl

theorem Pass.closeStep_state (r : Pass) (l : LiveProgress) (cause : StepEnd) :
    (r.closeStep l cause).state = .waiting ∨ (r.closeStep l cause).state = .ended := by
  unfold Pass.closeStep
  dsimp only
  split
  · exact .inl rfl
  · exact .inr rfl

section
variable {s : State} {i : PassSlot} {r : Pass} {l : LiveProgress} {st : StepProgram} {h : Head} (cause : StepEnd)
  (live : s.pass i = some r) (hl : r.live = some l) (hst : r.step = some st) (hh : r.head = some h)

include live hl hst hh

theorem endStep_raises_stepEnd : (s.endStep i cause).attnPending.has .stepEnd = true := by
  have raised : (s.closedStep i r l st h cause).attnPending.has .stepEnd = true := by
    rw [State.closedStep, handOffAfter_attnPending, (endService_others _ h st).2.2.2]
    exact (KeepsCauses.raiseIf _ _ _).keep _ (CauseSet.has_add_self _ _)
  rw [endStep_eq cause live hl hst hh]
  split
  · exact (KeepsCauses.attempt _ i).keep _ raised
  · exact raised

/-- The record after a step end has the step's result behind those it had, and is not HELD. -/
theorem endStep_record : ∃ q, (s.endStep i cause).pass i = some q ∧ q.state ≠ .held ∧
    q.results = r.results ++ [l.result r.current cause] := by
  have closed : (s.closedStep i r l st h cause).pass i = some (r.closeStep l cause) := by
    rw [closedStep_pass, if_pos rfl]
  have ended : (r.closeStep l cause).state ≠ .held := by
    rcases r.closeStep_state l cause with e | e <;> simp [e]
  rw [endStep_eq cause live hl hst hh]
  split
  · rcases attempt_record closed with same | ⟨q, hq, tried⟩
    · exact ⟨_, same, ended, r.closeStep_results l cause⟩
    · refine ⟨q, hq, ?_, tried.results.trans (r.closeStep_results l cause)⟩
      rcases tried.state with e | e <;> simp [e, ended]
  · exact ⟨_, closed, ended, r.closeStep_results l cause⟩

end

/-! ### PASS-AMEND (R17 to R20) -/

theorem Pass.step_setStep {r : Pass} {st : StepProgram} (hst : r.step = some st) (new : StepProgram) :
    (r.setStep r.current new).step = some new := by
  obtain ⟨lt, -⟩ := List.getElem?_eq_some_iff.1 hst
  simp [Pass.step, Pass.setStep, lt]

/-- The fields an amend names rewritten, written out field by field. -/
theorem Amend.apply_eq (a : Amend) (st : StepProgram) :
    a.apply st = { st with
      zones := PerZone.tabulate fun z =>
        { base := (match a.bases with | some b => b.get z | none => (st.zones.get z).base)
          target := (match a.targets with | some t => t.get z | none => (st.zones.get z).target)
          path := (st.zones.get z).path }
      timeLimit := a.timeLimit.getD st.timeLimit
      gain := a.gain.getD st.gain } := by
  rcases a with ⟨t, b, l, g⟩
  cases l <;> cases g <;> rfl

/-- A new time limit in range leaves a step program valid. -/
theorem StepProgram.valid_timeLimit {st : StepProgram} (v : st.valid = true) {limit : Nat} (h1 : 1 ≤ limit)
    (h2 : limit ≤ 6000) : { st with timeLimit := limit }.valid = true := by
  obtain ⟨-, others⟩ := (StepProgram.valid_iff st).1 v
  exact (StepProgram.valid_iff _).2 ⟨⟨h1, h2⟩, others⟩

section
variable {s : State} {dt : Nat} {tag : Byte} {i : PassSlot} {n : Nat} {a : Amend} {r : Pass} (small : n ≤ 3)
  (ranged : a.inRange = true) (live : s.pass i = some r)

include small ranged live

/-- An amend in range of a live record comes to its own checks (R17). -/
theorem passAmendCheck_live : passAmendCheck (byte i.val :: byte n :: a.wire) s = amendChecks n a i r := by
  have size : (byte n).toNat = n := by
    rw [toNat_byte]
    omega
  rw [passAmendCheck_wire (Amend.fitsWire_of_inRange ranged), size]
  exact slotChecks_live (amendLength_wire a _ _) (by simp) (by simp [small, ranged]) live

variable {st : StepProgram} (named : r.steps[n]? = some st) (going : r.state ≠ .ended) (ahead : r.current ≤ n)
  (valid : (a.apply st).valid = true)

include named going ahead valid

theorem passAmendCheck_accepts : passAmendCheck (byte i.val :: byte n :: a.wire) s =
    .ok ⟨i, r.setStep n (a.apply st), if n = r.current then a.timeLimit else none⟩ := by
  rw [passAmendCheck_live small ranged live]
  simp [amendChecks, named, going, Nat.not_lt.2 ahead, valid]

end

/-- An amend of a payload that spells it, refused for its length or its ranges (R10, R17). -/
theorem amend_refused_by_range {s : State} {dt : Nat} {tag : Byte} {payload : List Byte}
    (offered : Offers s .passAmend tag payload) {slot n mask : Byte} {rest : List Byte}
    (spelled : payload = slot :: n :: mask :: rest) {bytes : Nat}
    (hb : amendLength mask.toNat = 3 + bytes) :
    (rest.length ≠ bytes → Answers (.passAmend dt) s (s.elapse dt) tag .badLength []) ∧
      (rest.length = bytes → 23 < slot.toNat ∨ 3 < n.toNat ∨ 16 ≤ mask.toNat →
        Answers (.passAmend dt) s (s.elapse dt) tag .badParam []) := by
  subst spelled
  have cons := passAmendCheck_cons slot n mask rest (s.elapse dt)
  refine ⟨fun h => ?_, fun h range => ?_⟩
  · refine offered.answers_error (rule := passAmendRule) rfl (cons.trans (slotChecks_length ?_))
    simp only [List.length_cons, hb]
    omega
  · refine offered.answers_error (rule := passAmendRule) rfl (cons.trans (slotChecks_range ?_ ?_))
    · simp only [List.length_cons, hb]
      omega
    · rw [field_cons_one]
      refine range.imp_right fun h => ?_
      have outside : decide (mask.toNat < 16 ∧ n.toNat ≤ 3) = false := decide_eq_false (by omega)
      rw [outside, Bool.false_and]

/-- An amend on the wire whose values are out of range, or whose slot is free (R10, R17). -/
theorem amend_refused_by_slot {s : State} {dt : Nat} {tag slot n : Byte} {a : Amend}
    (offered : Offers s .passAmend tag (slot :: n :: a.wire)) (fits : a.fitsWire) :
    (a.inRange = false → Answers (.passAmend dt) s (s.elapse dt) tag .badParam []) ∧
      (a.inRange = true → n.toNat ≤ 3 → ∀ i : PassSlot, slot = byte i.val → s.pass i = none →
        Answers (.passAmend dt) s (s.elapse dt) tag .notFound []) := by
  have wire := passAmendCheck_wire fits slot n (s.elapse dt)
  refine ⟨fun h => ?_, fun h small i hi free => ?_⟩
  · exact offered.answers_error (rule := passAmendRule) rfl
      (wire.trans (slotChecks_range (amendLength_wire a _ _) (.inr (by simp [h]))))
  · subst hi
    exact offered.answers_error (rule := passAmendRule) rfl
      (wire.trans (slotChecks_free (amendLength_wire a _ _) (by simp) (by simp [h, small]) free))

theorem amend_keepsStep {s : State} {a : AcceptedAmend} (h : a.record.limitReached a.newLimit = false) :
    s.amend a = s.setPass a.slot (some a.record) := by
  rw [State.amend, h]
  rfl

theorem amend_endsStep {s : State} {a : AcceptedAmend} (h : a.record.limitReached a.newLimit = true) :
    s.amend a = (s.setPass a.slot (some a.record)).endStep a.slot a.record.timerEnd := by
  rw [State.amend, h]
  rfl

theorem amendReply_setPass (s : State) (i : PassSlot) (r : Pass) :
    (s.setPass i (some r)).amendReply i = [byte r.state.code, byte r.current] := by
  rw [State.amendReply, pass_setPass_self]

/-- A new limit above the polish time, or for a step that does not run, ends nothing. -/
theorem limitReached_false {r : Pass} {o : Option Nat}
    (h : ∀ limit l, o = some limit → r.live = some l → l.polishTime < limit) : r.limitReached o = false := by
  cases o with
  | none => rfl
  | some limit =>
    unfold Pass.limitReached
    dsimp only
    split
    · rename_i l _ hl
      simpa using h limit l rfl hl
    · rfl

/-- An amend of the time limit alone, for the running step (R17). -/
theorem passAmendCheck_limit {s : State} {i : PassSlot} {r : Pass} {st : StepProgram} {limit : Nat} (h1 : 1 ≤ limit)
    (h2 : limit ≤ 6000) (small : r.current ≤ 3) (live : s.pass i = some r) (hst : r.step = some st)
    (going : r.state ≠ .ended) (valid : st.valid = true) :
    passAmendCheck (byte i.val :: byte r.current :: [4#8] ++ leBytes 2 limit) s =
      .ok ⟨i, r.setStep r.current { st with timeLimit := limit }, some limit⟩ := by
  let a : Amend := ⟨none, none, some limit, none⟩
  have ranged : a.inRange = true := by simp [a, Amend.inRange, inRangeIfAny, within_iff, h1, h2]
  have accepted := passAmendCheck_accepts small ranged live hst going le_rfl (StepProgram.valid_timeLimit valid h1 h2)
  rwa [if_pos rfl] at accepted

/-- A limit at or below the polish time of a running step is reached, whatever its step program becomes (R20). -/
theorem limitReached_setStep {r : Pass} {l : LiveProgress} {limit n : Nat} (running : r.running = true)
    (hl : r.live = some l) (short : limit ≤ l.polishTime) (new : StepProgram) :
    (r.setStep n new).limitReached (some limit) = true := by
  have running' : (r.setStep n new).running = true := running
  have hl' : (r.setStep n new).live = some l := hl
  simp [Pass.limitReached, running', hl', short]

theorem Pass.timerEnd_of_step {r : Pass} {st : StepProgram} (hst : r.step = some st) :
    r.timerEnd = st.mode.timerEnd := by
  rw [Pass.timerEnd, hst]

theorem EndpointMode.timerEnd_eq (m : EndpointMode) : m.timerEnd = if m = .time then .complete else .timeout := by
  cases m <;> rfl

/-- Settles O17: the wire of an amend is read back, its checks are those of R10 and R17 in order, and an accepted one
rewrites its step program and ends the step its new limit is too short for (R20). -/
theorem passAmendRewritesTheStep : Obligations.PassAmendRewritesTheStep := by
  refine ⟨Amend.inRange_iff, fun s dt tag payload offered => ⟨fun short => ?_, fun slot n mask rest spelled => ?_⟩,
    fun s dt tag i n a r small ranged offered live => ⟨fun beyond => ?_, fun st named => ⟨fun late => ?_, ?_⟩⟩, ?_⟩
  · exact offered.answers_error (rule := passAmendRule) rfl (if_pos short)
  · obtain ⟨length, range⟩ := amend_refused_by_range (dt := dt) offered spelled (amendLength_toNat mask)
    refine ⟨length, range, fun a fits wire => ?_⟩
    rw [spelled, wire] at offered
    exact amend_refused_by_slot offered fits
  · have own := passAmendCheck_live (s := s.elapse dt) small ranged live
    refine offered.answers_error (rule := passAmendRule) rfl (own.trans ?_)
    simp [amendChecks, List.getElem?_eq_none beyond]
  · have own := passAmendCheck_live (s := s.elapse dt) small ranged live
    refine offered.answers_error (rule := passAmendRule) rfl (own.trans ?_)
    simp [amendChecks, named, late]
  · intro going ahead amended
    have rewritten : a.apply st = amended := a.apply_eq st
    refine ⟨fun bad => ?_, fun valid open_ => ?_⟩
    · have own := passAmendCheck_live (s := s.elapse dt) small ranged live
      refine offered.answers_error (rule := passAmendRule) rfl (own.trans ?_)
      simp [amendChecks, named, going, Nat.not_lt.2 ahead, rewritten, bad]
    · have answered := offered.answers_ok (c := .passAmend dt) (rule := passAmendRule) rfl
        (passAmendCheck_accepts (s := s.elapse dt) small ranged live named going ahead (rewritten ▸ valid))
      have kept : (r.setStep n (a.apply st)).limitReached (if n = r.current then a.timeLimit else none) = false := by
        refine limitReached_false fun limit l e hl => ?_
        split at e
        · exact open_ limit l e ‹_› hl
        · cases e
      dsimp only [passAmendRule] at answered
      rw [amend_keepsStep kept, amendReply_setPass, rewritten] at answered
      exact answered
  · intro s dt tag i limit r st l h1 h2 small live running hst valid hl headed short offered amended cause t
    obtain ⟨h, hh⟩ := Option.ne_none_iff_exists'.1 headed
    have going : r.state ≠ .ended := by rcases running with e | e <;> simp [e]
    have answered := offered.answers_ok (c := .passAmend dt) (rule := passAmendRule) rfl
      (passAmendCheck_limit (s := s.elapse dt) h1 h2 small live hst going valid)
    have reached := limitReached_setStep (n := r.current) ((Pass.running_iff r).2 running) hl short amended
    have ended : (r.setStep r.current amended).timerEnd = cause := by
      rw [Pass.timerEnd_of_step (Pass.step_setStep hst amended), EndpointMode.timerEnd_eq]
    dsimp only [passAmendRule] at answered
    rw [amend_endsStep reached, ended] at answered
    have setLive := pass_setPass_self (s.elapse dt) i (some (r.setStep r.current amended))
    have step := Pass.step_setStep hst amended
    obtain ⟨q, hq, free, results⟩ := endStep_record cause setLive hl step hh
    refine ⟨answered, endStep_raises_stepEnd cause setLive hl step hh, q, hq, free, ?_, ?_⟩
    · rw [results]
      exact List.take_left
    · rw [results]
      exact List.getElem?_concat_length

end Sys2Proof.Machine

/-! SUPPORT. What is mounted where, the start conditions of R30 in their order, and what a start leaves in each block
(R28 to R35, R74, R89, R90, R111, R132). -/

namespace Sys2Proof

theorem PerPlaten.set_set {α : Type} (t : PerPlaten α) (p : Platen) (x y : α) : (t.set p x).set p y = t.set p y := by
  cases p <;> rfl

namespace Machine

/-! ### What is mounted where (R89) -/

theorem mounted_some {s : State} {kind : ItemKind} {pos : Position} {j : ItemSlot} (h : s.mounted kind pos = some j) :
    ∃ x, s.item j = some x ∧ x.kind = kind ∧ x.position = some pos := by
  obtain ⟨x, hx, here⟩ := findItem_some h
  exact ⟨x, hx, of_decide_eq_true here⟩

theorem mounted_none {s : State} {kind : ItemKind} {pos : Position} (h : s.mounted kind pos = none) (j : ItemSlot) (x : Item)
    (hx : s.item j = some x) : ¬(x.kind = kind ∧ x.position = some pos) :=
  of_decide_eq_false (findItem_none h j x hx)

theorem mountedItem_of_mounted {s : State} {kind : ItemKind} {pos : Position} {j : ItemSlot}
    (h : s.mounted kind pos = some j) : s.mountedItem kind pos = s.item j := by
  rw [State.mountedItem, h]

theorem mountedItem_some {s : State} {kind : ItemKind} {pos : Position} {x : Item} (h : s.mountedItem kind pos = some x) :
    ∃ j, s.mounted kind pos = some j ∧ s.item j = some x := by
  cases m : s.mounted kind pos with
  | none => simp [State.mountedItem, m] at h
  | some j => exact ⟨j, rfl, mountedItem_of_mounted m ▸ h⟩

theorem mountedItem_eq_none_iff (s : State) (kind : ItemKind) (pos : Position) :
    s.mountedItem kind pos = none ↔ s.mounted kind pos = none := by
  cases m : s.mounted kind pos with
  | none => simp [State.mountedItem, m]
  | some j =>
    obtain ⟨x, hx, -⟩ := mounted_some m
    simp [mountedItem_of_mounted m, hx]

theorem mounted_congr {s t : State} (e : t.items = s.items) (kind : ItemKind) (pos : Position) :
    t.mounted kind pos = s.mounted kind pos := by
  simp only [State.mounted, State.findItem, State.itemHas, State.item, e]

theorem mountedItem_congr {s t : State} (e : t.items = s.items) (kind : ItemKind) (pos : Position) :
    t.mountedItem kind pos = s.mountedItem kind pos := by
  simp only [State.mountedItem, mounted_congr e, State.item, e]

theorem lotRecordOn_eq {s : State} {f : Feed} {pos : Position} (here : feedPosition f = some pos) :
    s.lotRecordOn f = s.mountedItem .lot pos := by
  simp only [State.lotRecordOn, State.lotOn, here]
  rfl

/-! ### The start conditions (R30) -/

/-- No item of the kind is mounted at the position without a condition flag. -/
def State.unsoundAt (s : State) (kind : ItemKind) (pos : Position) : Prop :=
  ∀ x, s.mountedItem kind pos = some x → x.flags.worn = true ∨ x.flags.expired = true ∨ x.flags.empty = true

/-- No lot is mounted at the position that is neither EXPIRED nor EMPTY. -/
def State.noLotAt (s : State) (pos : Position) : Prop :=
  ∀ x, s.mountedItem .lot pos = some x → x.flags.expired = true ∨ x.flags.empty = true

theorem sound_eq_false_iff (s : State) (kind : ItemKind) (pos : Position) :
    s.sound kind pos = false ↔ s.unsoundAt kind pos := by
  unfold State.sound State.unsoundAt
  cases s.mountedItem kind pos with
  | none => simp
  | some x => simp only [ItemFlags.any, Bool.not_eq_false', Bool.or_eq_true, or_assoc, Option.some.injEq, forall_eq']

theorem headFault_iff (s : State) (h : Head) : s.headFault h = true ↔ ∃ c, (s.channel h c).fault = true := by
  rw [State.headFault, List.any_eq_true]
  constructor
  · rintro ⟨x, hx, fault⟩
    rcases List.mem_append.1 hx with zone | ring
    · obtain ⟨z, rfl⟩ := (PerZone.mem_toList_iff _ x).1 zone
      exact ⟨.zone z, fault⟩
    · cases List.mem_singleton.1 ring
      exact ⟨.rr, fault⟩
  · rintro ⟨c, fault⟩
    refine ⟨_, List.mem_append.2 ?_, fault⟩
    cases c with
    | zone z => exact .inl ((PerZone.mem_toList_iff _ _).2 ⟨z, rfl⟩)
    | rr => exact .inr (List.mem_singleton.2 rfl)

theorem stepUses_iff (s : State) (st : StepProgram) (f : Feed) :
    s.stepUses st f = true ↔ 0 < (s.row st.blendRow).parts f := decide_eq_true_iff

theorem goodLot_eq_false_iff {s : State} {st : StepProgram} {f : Feed} {pos : Position} (here : feedPosition f = some pos) :
    s.goodLot st f = false ↔ 0 < (s.row st.blendRow).parts f ∧ s.noLotAt pos := by
  rw [State.goodLot, State.noLotAt, lotRecordOn_eq here, ← stepUses_iff]
  cases s.mountedItem .lot pos with
  | none => simp
  | some x =>
    simp only [Bool.or_eq_false_iff, Bool.not_eq_false', Bool.or_eq_true, Option.some.injEq, forall_eq']

theorem Conditioning.isNone_eq_false_iff (c : Conditioning) : c.isNone = false ↔ c ≠ .none := by
  cases c <;> simp [Conditioning.isNone]

/-- Whether the condition of R30 that a reason names fails. -/
def State.blocks (s : State) (h : Head) (st : StepProgram) : StartBlock → Bool
  | .trip => s.tripLatch
  | .carousel => decide (s.carousel.state ≠ .stopped)
  | .fault => (s.rotation.get st.platen).stall || s.headFault h
  | .pad => !s.sound .pad (.platen st.platen)
  | .ring => !s.sound .ring (.head h)
  | .disk => !st.conditioning.isNone && !s.sound .disk (.platen st.platen)
  | .conditioning => (s.arms.get st.platen).busy
  | .lot => !(s.goodLot st .a && s.goodLot st .b)

/-- What R30 says of a reason when its condition fails. -/
def State.startFails (s : State) (h : Head) (st : StepProgram) : StartBlock → Prop
  | .trip => s.tripLatch = true
  | .carousel => s.carousel.state ≠ .stopped
  | .fault => (s.rotation.get st.platen).stall = true ∨ ∃ c, (s.channel h c).fault = true
  | .pad => s.unsoundAt .pad (.platen st.platen)
  | .ring => s.unsoundAt .ring (.head h)
  | .disk => st.conditioning ≠ .none ∧ s.unsoundAt .disk (.platen st.platen)
  | .conditioning => 0 < (s.arms.get st.platen).exSitu
  | .lot => (0 < (s.row st.blendRow).parts .a ∧ s.noLotAt .feedA) ∨ (0 < (s.row st.blendRow).parts .b ∧ s.noLotAt .feedB)

theorem blocks_iff_startFails (s : State) (h : Head) (st : StepProgram) (b : StartBlock) :
    s.blocks h st b = true ↔ s.startFails h st b := by
  cases b with
  | trip => exact Iff.rfl
  | carousel => exact decide_eq_true_iff
  | fault => simp only [State.blocks, State.startFails, Bool.or_eq_true, headFault_iff]
  | pad => simp only [State.blocks, State.startFails, Bool.not_eq_true', sound_eq_false_iff]
  | ring => simp only [State.blocks, State.startFails, Bool.not_eq_true', sound_eq_false_iff]
  | disk =>
    simp only [State.blocks, State.startFails, Bool.and_eq_true, Bool.not_eq_true', Conditioning.isNone_eq_false_iff,
      sound_eq_false_iff]
  | conditioning => exact decide_eq_true_iff
  | lot =>
    simp only [State.blocks, State.startFails, Bool.not_eq_true', Bool.and_eq_false_iff,
      goodLot_eq_false_iff (f := .a) rfl, goodLot_eq_false_iff (f := .b) rfl]

/-- The reasons in the order of R30. -/
def startOrder : List StartBlock := [.trip, .carousel, .fault, .pad, .ring, .disk, .conditioning, .lot]

theorem startFailure_eq_find? (s : State) (h : Head) (st : StepProgram) :
    s.startFailure h st = startOrder.find? (s.blocks h st) := by
  simp only [State.startFailure, startOrder, State.blocks, List.find?_cons, List.find?_nil]
  grind

theorem startFailure_eq_none {s : State} {h : Head} {st : StepProgram} (met : ∀ b, s.blocks h st b = false) :
    s.startFailure h st = none := by
  rw [startFailure_eq_find?]
  exact List.find?_eq_none.2 fun b _ => by simp [met b]

/-- The reason of a start failure is the first in the order of R30 whose condition fails. -/
theorem startFailure_eq_some {s : State} {h : Head} {st : StepProgram} {reason : StartBlock}
    (fails : s.blocks h st reason = true)
    (first : ∀ b, startOrder.idxOf b < startOrder.idxOf reason → s.blocks h st b = false) :
    s.startFailure h st = some reason := by
  have listed : startOrder.idxOf reason < startOrder.length := by cases reason <;> decide
  have distinct : startOrder.Nodup := by decide
  rw [startFailure_eq_find?, List.find?_eq_some_iff_getElem]
  refine ⟨fails, _, listed, List.getElem_idxOf listed, fun n lt => ?_⟩
  rw [first _ (by rwa [List.Nodup.idxOf_getElem distinct])]
  rfl

/-! ### Start attempts (R28, R31) -/

theorem Pass.seat_isSome_iff (k : Fin 4) (r : Pass) :
    (r.seat k).isSome = true ↔ ∃ h st, r.head = some h ∧ r.step = some st ∧ platenUnder k h = some st.platen := by
  unfold Pass.seat
  cases r.head <;> cases r.step <;> simp

theorem Pass.eligible_iff (k : Fin 4) (r : Pass) : r.eligible k = true ↔ r.mayStart k := by
  rw [Pass.eligible, Bool.and_eq_true, decide_eq_true_iff, Pass.seat_isSome_iff]
  rfl

section
variable {s : State} {i : PassSlot} {r : Pass} (live : s.pass i = some r)

include live

theorem attempt_ineligible (away : ¬r.mayStart s.carousel.k) : s.attempt i = s := by
  rw [← Pass.eligible_iff] at away
  simp only [State.attempt, live, if_neg away]

variable {h : Head} {st : StepProgram} (able : r.mayStart s.carousel.k) (hh : r.head = some h) (hst : r.step = some st)

include able hh hst

theorem attempt_blocked {reason : StartBlock} (fails : s.startFailure h st = some reason) :
    s.attempt i = s.setPass i (some { r with startBlock := some reason }) := by
  simp only [State.attempt, live, if_pos ((Pass.eligible_iff _ _).2 able), hh, hst, fails]

theorem attempt_starts (met : s.startFailure h st = none) : s.attempt i = s.startStep i r h st := by
  simp only [State.attempt, live, if_pos ((Pass.eligible_iff _ _).2 able), hh, hst, met]

end

/-! ### The start of a step (R34, R35) -/

theorem ChannelSettings.window_eq_clip (cs : ChannelSettings) (x : Nat) : cs.window x = cs.clip x := by
  unfold ChannelSettings.window ChannelSettings.clip limited
  split
  · rfl
  · split <;> omega

/-- A channel without a pulse enters DRIVE (R74). -/
theorem Channel.enterDrive_eq {c : Channel} (quiet : c.pulse = none) (now setpoint : Nat) :
    c.enterDrive now setpoint =
      { c with
        mode := .drive, setpoint := some setpoint
        vent := if c.vent.isOpen then ⟨false, some now⟩ else c.vent } := by
  simp only [Channel.enterDrive, Channel.endPulse, quiet]
  rfl

theorem driveHead_driven (s : State) (h : Head) (st : StepProgram) (complete : PerZone Bool) :
    Driven s (s.driveHead h st complete) h st complete := by
  refine ⟨fun k c other => ?_, fun c quiet => ?_⟩
  · rw [State.driveHead, channel_updateHead, if_neg other]
  · rw [State.driveHead, channel_updateHead, if_pos rfl, Channel.enterDrive_eq quiet]
    cases c <;> simp only [startingSetpoint, ChannelSettings.window_eq_clip]

theorem Driven.of_channels {s t u : State} {h : Head} {st : StepProgram} {complete : PerZone Bool}
    (d : Driven s t h st complete) (e : u.channels = t.channels) : Driven s u h st complete := by
  unfold Driven State.channel at d ⊢
  rwa [e]

theorem beginSweep_eq_swept (now : Nat) (pr : Profile) (a : Arm) : a.beginSweep now pr = a.swept now pr := by
  unfold Arm.beginSweep Arm.enterSegment Arm.swept sweepSegment
  cases a.direction with
  | outward => simp [List.head?_eq_getElem?]
  | inward => cases pr <;> simp [List.getLast?_eq_getElem?]

/-- An arm that was given a service begins a sweep by the profile of that service. -/
theorem beginSweep_setArm (s : State) (p : Platen) (a : Arm) {q : Fin 4} (served : a.service.profile = some q) :
    ((s.setArm p a).beginSweep p).arms = s.arms.set p (a.swept s.clock (s.profile q)) := by
  have profile : (s.setArm p a).armProfile p = s.profile q := by
    simp only [State.armProfile, setArm_arms, PerPlaten.get_set_self, served]
    rfl
  rw [State.beginSweep, profile, setArm_arms, setArm_arms, PerPlaten.set_set, PerPlaten.get_set_self, beginSweep_eq_swept]
  rfl

theorem conditionStart_arms (s : State) (st : StepProgram) :
    (s.conditionStart st).arms = match st.conditioning with
      | .inSitu q => s.arms.set st.platen
          (Arm.swept s.clock (s.profile q) { s.arms.get st.platen with service := .inSitu q, direction := .outward })
      | _ => s.arms := by
  unfold State.conditionStart
  cases st.conditioning with
  | none => rfl
  | inSitu q => exact beginSweep_setArm _ _ _ rfl
  | exSitu q n => rfl

theorem conditionStart_others (s : State) (st : StepProgram) :
    (s.conditionStart st).channels = s.channels ∧ (s.conditionStart st).supply = s.supply ∧
      (s.conditionStart st).items = s.items := by
  unfold State.conditionStart
  cases st.conditioning <;> exact ⟨rfl, rfl, rfl⟩

theorem rewriteItem_supply (s : State) (j : ItemSlot) (old new : Item) : (s.rewriteItem j old new).supply = s.supply := by
  unfold State.rewriteItem State.raiseIf
  split <;> rfl

theorem rewriteItem_items (s : State) (j : ItemSlot) (old new : Item) :
    (s.rewriteItem j old new).items = putAt s.items j (some new) := by
  unfold State.rewriteItem State.raiseIf
  split <;> rfl

theorem rewriteItem_attnPending (s : State) (j : ItemSlot) (old new : Item) :
    (s.rewriteItem j old new).attnPending =
      if old.flags.newlySet new.flags = true then s.attnPending ||| 16#9 else s.attnPending := by
  unfold State.rewriteItem State.raiseIf
  split <;> rfl

/-- A rise of usage sets no flag but WORN (R90). -/
theorem Item.newlySet_addUsage (n : Nat) (x : Item) :
    x.flags.newlySet (x.addUsage n).flags = ((x.addUsage n).flags.worn && !x.flags.worn) := by
  simp [ItemFlags.newlySet, Item.addUsage]

/-- The record of a pass whose step starts (R34). -/
def State.startedPass (s : State) (r : Pass) (h : Head) (st : StepProgram) : Pass :=
  { r with state := .polishing, startBlock := none, live := some (s.freshLive h st) }

/-- A step has started, but for the usage of its ring. -/
def State.servedStart (s : State) (i : PassSlot) (r : Pass) (h : Head) (st : StepProgram) : State :=
  (((s.setPass i (some (s.startedPass r h st))).driveHead h st (PerZone.all false)).startDispensing st.platen
    st.blendRow).conditionStart st

theorem captureLot_eq {s : State} {st : StepProgram} {f : Feed} {pos : Position} (here : feedPosition f = some pos) :
    s.captureLot st f =
      if 0 < (s.row st.blendRow).parts f then (s.mountedItem .lot pos).map Item.id else none := by
  simp only [State.captureLot, stepUses_iff, lotRecordOn_eq here]

section
variable (s : State) (i : PassSlot) (r : Pass) (h : Head) (st : StepProgram)

theorem startStep_eq_addUsageOf :
    s.startStep i r h st = (s.servedStart i r h st).addUsageOf (s.mounted .ring (.head h)) 1 := by
  have items : (s.servedStart i r h st).items = s.items := (conditionStart_others _ st).2.2
  rw [← mounted_congr items]
  rfl

theorem servedStart_driven : Driven s (s.servedStart i r h st) h st (PerZone.all false) :=
  (driveHead_driven s h st _).of_channels (conditionStart_others _ st).1

theorem servedStart_supply : (s.servedStart i r h st).supply =
    s.supply.set st.platen { s.supply.get st.platen with dispensing := some st.blendRow } :=
  (conditionStart_others _ st).2.1

theorem servedStart_arms : (s.servedStart i r h st).arms = match st.conditioning with
    | .inSitu q => s.arms.set st.platen
        (Arm.swept s.clock (s.profile q) { s.arms.get st.platen with service := .inSitu q, direction := .outward })
    | _ => s.arms :=
  conditionStart_arms _ st

theorem servedStart_items : (s.servedStart i r h st).items = s.items := (conditionStart_others _ st).2.2

theorem servedStart_attnPending : (s.servedStart i r h st).attnPending = s.attnPending := conditionStart_attnPending _ st

variable {s i r h st} {j : ItemSlot} {ring : Item} (on : s.mounted .ring (.head h) = some j) (hj : s.item j = some ring)

include on hj

/-- A step starts with its ring at hand (R35). -/
theorem startStep_eq_rewriteItem :
    s.startStep i r h st = (s.servedStart i r h st).rewriteItem j ring (ring.addUsage 1) := by
  have there : (s.servedStart i r h st).item j = some ring := by rwa [State.item, servedStart_items]
  rw [startStep_eq_addUsageOf, on, State.addUsageOf, State.addUsageAt, there]

theorem startStep_supply : (s.startStep i r h st).supply =
    s.supply.set st.platen { s.supply.get st.platen with dispensing := some st.blendRow } := by
  rw [startStep_eq_rewriteItem on hj, rewriteItem_supply, servedStart_supply]

theorem startStep_items : (s.startStep i r h st).items = putAt s.items j (some (ring.addUsage 1)) := by
  rw [startStep_eq_rewriteItem on hj, rewriteItem_items, servedStart_items]

theorem startStep_attnPending : (s.startStep i r h st).attnPending =
    if (ring.addUsage 1).flags.worn = true ∧ ring.flags.worn = false then s.attnPending ||| 16#9 else s.attnPending := by
  rw [startStep_eq_rewriteItem on hj, rewriteItem_attnPending, servedStart_attnPending, Item.newlySet_addUsage]
  simp only [Bool.and_eq_true, Bool.not_eq_true']

end

theorem startStep_driven (s : State) (i : PassSlot) (r : Pass) (h : Head) (st : StepProgram) :
    Driven s (s.startStep i r h st) h st (PerZone.all false) := by
  rw [startStep_eq_addUsageOf]
  exact (servedStart_driven s i r h st).of_channels (Plain.addUsageOf _ _ 1).channels

theorem startStep_arms (s : State) (i : PassSlot) (r : Pass) (h : Head) (st : StepProgram) :
    (s.startStep i r h st).arms = match st.conditioning with
      | .inSitu q => s.arms.set st.platen
          (Arm.swept s.clock (s.profile q) { s.arms.get st.platen with service := .inSitu q, direction := .outward })
      | _ => s.arms := by
  rw [startStep_eq_addUsageOf, (Plain.addUsageOf _ _ 1).arms]
  exact servedStart_arms s i r h st

/-- The usage of a mounted ring rises by one, and WORN joins its flags when that brings it to its limit (R90). -/
theorem Item.addUsage_ring {ring : Item} (kind : ring.kind = .ring) :
    let used : Item := { ring with usage := min 4294967295 (ring.usage + 1) }
    ring.addUsage 1 = { used with flags :=
      { ring.flags with worn := ring.flags.worn || decide (0 < ring.limit ∧ ring.limit ≤ used.usage) } } := by
  simp [Item.addUsage, Item.isWorn, maxWord, kind]

/-- The live progress of a step that starts, with the ids of what is mounted (R34). -/
theorem freshLive_eq {s : State} {h : Head} {st : StepProgram} {pad ring : Item}
    (hpad : s.mountedItem .pad (.platen st.platen) = some pad) (hring : s.mountedItem .ring (.head h) = some ring) :
    s.freshLive h st = .fresh st s.clock pad.id ring.id (s.captureLot st .a) (s.captureLot st .b) := by
  simp only [State.freshLive, State.mountedId, hpad, hring]
  rfl

/-- Settles O21: the reason a start attempt writes is the first of R30 whose condition fails, and with none failing each
block is as the start of the step leaves it. -/
theorem startAttempt : Obligations.StartAttempt := by
  refine ⟨fun s kind pos => ⟨fun x hx => ?_, fun none j x hx => ?_⟩, fun s i r live => ⟨attempt_ineligible live, ?_⟩⟩
  · obtain ⟨j, on, hj⟩ := mountedItem_some hx
    obtain ⟨y, hy, here⟩ := mounted_some on
    cases hj.symm.trans hy
    exact ⟨j, on, hj, here⟩
  · exact mounted_none ((mountedItem_eq_none_iff s kind pos).1 none) j x hx
  intro h st waiting hh hst under p uses unsound noLot fails place
  have able : r.mayStart s.carousel.k := ⟨waiting, h, st, hh, hst, under⟩
  have blocks_iff (b : StartBlock) : s.blocks h st b = true ↔ fails b := by
    refine (blocks_iff_startFails s h st b).trans ?_
    cases b <;> exact Iff.rfl
  have holds (b : StartBlock) (met : ¬fails b) : s.blocks h st b = false := by
    rwa [← blocks_iff, Bool.not_eq_true] at met
  refine ⟨fun reason failed first => ?_, ?_⟩
  · have place_eq (b : StartBlock) : place b = startOrder.idxOf b + 1 := by cases b <;> rfl
    refine attempt_blocked live able hh hst (startFailure_eq_some ((blocks_iff reason).2 failed) fun b before => ?_)
    exact holds b (first b (by rw [place_eq, place_eq]; omega))
  · intro met pad ring j hpad on hj t used wears
    obtain ⟨x, hx, kind, -⟩ := mounted_some on
    cases hj.symm.trans hx
    have hring : s.mountedItem .ring (.head h) = some ring := (mountedItem_of_mounted on).trans hj
    have started : t = s.startStep i r h st :=
      attempt_starts live able hh hst (startFailure_eq_none fun b => holds b (met b))
    have worn := Item.addUsage_ring kind
    rw [started]
    refine ⟨⟨s.captureLot st .a, s.captureLot st .b, ?_, ?_⟩, fun k other => ?_, startStep_driven s i r h st,
      startStep_supply on hj, startStep_arms s i r h st, ?_, ?_, .startStep s i r h st⟩
    · rw [startStep_pass, if_pos rfl, freshLive_eq hpad hring]
    · rw [captureLot_eq (f := .a) rfl, captureLot_eq (f := .b) rfl]
      exact ⟨fun u => if_pos u, fun u => if_neg u, fun u => if_pos u, fun u => if_neg u⟩
    · rw [startStep_pass, if_neg other]
    · rw [startStep_items on hj, worn]
    · rw [startStep_attnPending on hj, worn]
      simp only [wears, used]
      cases ring.flags.worn <;> simp

end Machine

end Sys2Proof

/-! SUPPORT. The hand-off of a platen (R134), and what a step end leaves in each block, whatever its cause (R44 to R46). -/

namespace Sys2Proof.Machine

/-! ### What a start attempt leaves alone (R30, R31) -/

theorem attempt_pass_other (s : State) {i j : PassSlot} (other : j ≠ i) : (s.attempt i).pass j = s.pass j := by
  unfold State.attempt
  split
  · rfl
  · split
    · split
      · split
        · rw [pass_setPass, if_neg other]
        · rw [startStep_pass, if_neg other]
      · rfl
    · rfl

/-- A start attempt for an eligible pass writes a start block or starts the step. -/
theorem attempt_attempted {s : State} {i : PassSlot} {r : Pass} (live : s.pass i = some r)
    (able : r.mayStart s.carousel.k) : ∃ q, (s.attempt i).pass i = some q ∧ Attempted r q := by
  have ⟨_, h, st, hh, hst, _⟩ := able
  cases e : s.startFailure h st with
  | some reason =>
    rw [attempt_blocked live able hh hst e]
    exact ⟨_, pass_setPass_self _ _ _, .inl ⟨reason, rfl⟩⟩
  | none =>
    rw [attempt_starts live able hh hst e]
    exact ⟨_, (startStep_pass _ _ _ _ _ _).trans (if_pos rfl), .inr ⟨st, _, _, _, _, _, hst, rfl⟩⟩

theorem CauseSet.has_add_of_apart (a : CauseSet) {c d : Cause} (apart : c.bit &&& d.bit = 0) :
    (a.add c).has d = a.has d := by
  rw [Bool.eq_iff_iff, CauseSet.has_add, apart]
  simp

/-- A rise of usage raises no cause but ITEM (R93). -/
theorem addUsageOf_has (s : State) (found : Option ItemSlot) (n : Nat) {c : Cause} (apart : Cause.item.bit &&& c.bit = 0) :
    (s.addUsageOf found n).attnPending.has c = s.attnPending.has c := by
  unfold State.addUsageOf State.addUsageAt
  split
  · split
    · rw [rewriteItem_attnPending]
      split
      · exact CauseSet.has_add_of_apart (c := .item) _ apart
      · rfl
    · rfl
  · rfl

/-- A start attempt raises no cause but ITEM. -/
theorem attempt_has (s : State) (i : PassSlot) {c : Cause} (apart : Cause.item.bit &&& c.bit = 0) :
    (s.attempt i).attnPending.has c = s.attnPending.has c := by
  unfold State.attempt
  split
  · rfl
  · split
    · split
      · split
        · rfl
        · rw [startStep_eq_addUsageOf, addUsageOf_has _ _ _ apart, servedStart_attnPending]
      · rfl
    · rfl

/-! ### The hand-off of a platen (R134) -/

/-- No disk without WORN is mounted on the platen. -/
def State.noDiskOn (s : State) (p : Platen) : Prop := ∀ x, s.mountedItem .disk (.platen p) = some x → x.flags.worn = true

theorem noDiskOn_iff (s : State) (p : Platen) :
    ((s.mounted .disk (.platen p)).isNone || s.diskWorn p) = true ↔ s.noDiskOn p := by
  rw [Bool.or_eq_true, Option.isNone_iff_eq_none, ← mountedItem_eq_none_iff, State.diskWorn, State.noDiskOn]
  cases s.mountedItem .disk (.platen p) <;> simp

/-- The arm of a platen that is handed off for ex-situ sweeps. -/
def Arm.handedOff (a : Arm) (q : Fin 4) (n : Nat) : Arm :=
  { a with service := .exSitu q, exSitu := n, direction := .outward, segment := 0 }

section
variable {s : State} {p : Platen} (q : Fin 4) (n : Nat)

theorem handOff_eq_self (kept : s.tripLatch = true ∨ s.noDiskOn p) : s.handOff p q n = s := by
  rw [← noDiskOn_iff] at kept
  unfold State.handOff
  split
  · rfl
  · rename_i clear
    exact if_pos (kept.resolve_left clear)

theorem handOff_arms (clear : s.tripLatch = false) (disk : ¬s.noDiskOn p) :
    (s.handOff p q n).arms =
      if (s.rotation.get p).stall = true then s.arms.set p ((s.arms.get p).handedOff q n)
      else s.arms.set p (((s.arms.get p).handedOff q n).swept s.clock (s.profile q)) := by
  rw [← noDiskOn_iff] at disk
  rw [State.handOff, if_neg (by simp [clear]), if_neg disk]
  dsimp only
  split
  · rfl
  · exact beginSweep_setArm s p ((s.arms.get p).handedOff q n) rfl

end

theorem handOff_others (s : State) (p : Platen) (q : Fin 4) (n : Nat) :
    (s.handOff p q n).channels = s.channels ∧ (s.handOff p q n).supply = s.supply ∧
      (s.handOff p q n).items = s.items := by
  unfold State.handOff
  dsimp only
  split
  · exact ⟨rfl, rfl, rfl⟩
  · split
    · exact ⟨rfl, rfl, rfl⟩
    · split <;> exact ⟨rfl, rfl, rfl⟩

theorem handOffAfter_others (s : State) (st : StepProgram) (cause : StepEnd) :
    (s.handOffAfter st cause).channels = s.channels ∧ (s.handOffAfter st cause).supply = s.supply ∧
      (s.handOffAfter st cause).items = s.items := by
  unfold State.handOffAfter
  cases st.conditioning with
  | none => exact ⟨rfl, rfl, rfl⟩
  | inSitu q => exact ⟨rfl, rfl, rfl⟩
  | exSitu q n =>
    dsimp only
    split
    · exact ⟨rfl, rfl, rfl⟩
    · exact handOff_others _ _ _ _

/-! ### The record after a step end (R44, R45) -/

theorem Pass.movesOn_iff (r : Pass) (cause : StepEnd) :
    r.movesOn cause = true ↔ cause = .complete ∧ r.current + 1 < r.steps.length := decide_eq_true_iff

theorem Pass.closeStep_movesOn {r : Pass} {cause : StepEnd} (on : r.movesOn cause = true) (l : LiveProgress) :
    r.closeStep l cause =
      { r with
        state := .waiting, startBlock := none, holds := HoldSet.empty, live := none
        results := r.results ++ [l.result r.current cause], current := r.current + 1 } := by
  rw [Pass.closeStep, if_pos on]

theorem Pass.closeStep_ends {r : Pass} {cause : StepEnd} (off : ¬r.movesOn cause = true) (l : LiveProgress) :
    r.closeStep l cause =
      { r with
        state := .ended, head := none, startBlock := none, holds := HoldSet.empty, live := none
        results := r.results ++ [l.result r.current cause], endCause := some cause.passEnd
        current := (r.results ++ [l.result r.current cause]).length - 1 } := by
  rw [Pass.closeStep, if_neg off]
  rfl

/-! ### The station after a step end, before a start attempt (R44 to R46, R134) -/

theorem KeptStation.closedStep (s : State) (i : PassSlot) (r : Pass) (l : LiveProgress) (st : StepProgram) (h : Head)
    (cause : StepEnd) : KeptStation s (s.closedStep i r l st h cause) :=
  ((((KeptStation.setPass _ _ _).then (.raise _ _)).then (.raiseIf _ _ _)).then (.endService _ _ _)).then
    (.handOffAfter _ _ _)

/-- A step has ended, but for the hand-off of its platen. -/
def State.releasedStep (s : State) (i : PassSlot) (r : Pass) (l : LiveProgress) (st : StepProgram) (h : Head)
    (cause : StepEnd) : State :=
  (((s.setPass i (some (r.closeStep l cause))).raise .stepEnd).raiseIf (!r.movesOn cause) .passEnd).endService h st

section
variable (s : State) (i : PassSlot) (r : Pass) (l : LiveProgress) (st : StepProgram) (h : Head) (cause : StepEnd)

theorem closedStep_eq_handOffAfter :
    s.closedStep i r l st h cause = (s.releasedStep i r l st h cause).handOffAfter st cause := rfl

theorem KeptStation.releasedStep : KeptStation s (s.releasedStep i r l st h cause) :=
  (((KeptStation.setPass _ _ _).then (.raise _ _)).then (.raiseIf _ _ _)).then (.endService _ _ _)

theorem releasedStep_vented : Vented s (s.releasedStep i r l st h cause) h := by
  unfold State.releasedStep
  cases r.movesOn cause <;> exact endService_vented _ h st

theorem releasedStep_supply :
    (s.releasedStep i r l st h cause).supply = s.supply.set st.platen (s.supply.get st.platen).stopped := by
  unfold State.releasedStep
  cases r.movesOn cause <;> exact (endService_others _ h st).2.1

theorem releasedStep_items : (s.releasedStep i r l st h cause).items = s.items := by
  unfold State.releasedStep
  cases r.movesOn cause <;> exact (endService_others _ h st).2.2.1

theorem releasedStep_arms : (s.releasedStep i r l st h cause).arms = match st.conditioning with
    | .inSitu _ =>
      if (s.arms.get st.platen).service.isInSitu = true then
        s.arms.set st.platen { (s.arms.get st.platen).parked with service := .none }
      else s.arms
    | _ => s.arms := by
  unfold State.releasedStep
  cases r.movesOn cause <;> exact endService_arms _ h st

theorem closedStep_vented : Vented s (s.closedStep i r l st h cause) h :=
  (releasedStep_vented s i r l st h cause).of_channels (handOffAfter_others _ st cause).1

theorem closedStep_supply :
    (s.closedStep i r l st h cause).supply = s.supply.set st.platen (s.supply.get st.platen).stopped :=
  (handOffAfter_others _ st cause).2.1.trans (releasedStep_supply s i r l st h cause)

theorem closedStep_items : (s.closedStep i r l st h cause).items = s.items :=
  (handOffAfter_others _ st cause).2.2.trans (releasedStep_items s i r l st h cause)

theorem closedStep_attnPending : (s.closedStep i r l st h cause).attnPending =
    if r.movesOn cause = true then s.attnPending ||| 1#9 else s.attnPending ||| 3#9 := by
  rw [State.closedStep, handOffAfter_attnPending, (endService_others _ h st).2.2.2]
  cases r.movesOn cause with
  | true => rfl
  | false => exact add_stepEnd_passEnd _

end

/-! ### The arms after a step end (R44, R46, R134) -/

section
variable {s : State} {i : PassSlot} {r : Pass} {l : LiveProgress} {st : StepProgram} {h : Head} {cause : StepEnd}

theorem closedStep_arms_none (unconditioned : st.conditioning = .none) :
    (s.closedStep i r l st h cause).arms = s.arms := by
  rw [closedStep_eq_handOffAfter, State.handOffAfter, unconditioned]
  exact (releasedStep_arms s i r l st h cause).trans (by rw [unconditioned])

theorem closedStep_arms_inSitu {q : Fin 4} (inSitu : st.conditioning = .inSitu q) :
    (s.closedStep i r l st h cause).arms =
      if (s.arms.get st.platen).service.isInSitu = true then
        s.arms.set st.platen { (s.arms.get st.platen).parked with service := .none }
      else s.arms := by
  rw [closedStep_eq_handOffAfter, State.handOffAfter, inSitu]
  exact (releasedStep_arms s i r l st h cause).trans (by rw [inSitu])

theorem releasedStep_noDiskOn_iff : (s.releasedStep i r l st h cause).noDiskOn st.platen ↔ s.noDiskOn st.platen := by
  rw [State.noDiskOn, mountedItem_congr (releasedStep_items s i r l st h cause)]
  rfl

variable {q : Fin 4} {n : Nat} (exSitu : st.conditioning = .exSitu q n)

include exSitu

theorem releasedStep_arms_exSitu : (s.releasedStep i r l st h cause).arms = s.arms :=
  (releasedStep_arms s i r l st h cause).trans (by rw [exSitu])

/-- An EX_SITU step that ends ABORTED, under the trip latch or without a sound disk leaves the arms as they were. -/
theorem closedStep_arms_unserved (kept : cause = .aborted ∨ s.tripLatch = true ∨ s.noDiskOn st.platen) :
    (s.closedStep i r l st h cause).arms = s.arms := by
  have latch := (KeptStation.releasedStep s i r l st h cause).tripLatch
  rw [closedStep_eq_handOffAfter, State.handOffAfter, exSitu]
  dsimp only
  split
  · exact releasedStep_arms_exSitu exSitu
  · rename_i going
    rw [handOff_eq_self, releasedStep_arms_exSitu exSitu]
    rw [latch, releasedStep_noDiskOn_iff]
    exact kept.resolve_left going

/-- Any other EX_SITU step hands its platen off; the sweep waits while the platen is stalled. -/
theorem closedStep_arms_served (going : cause ≠ .aborted) (clear : s.tripLatch = false) (disk : ¬s.noDiskOn st.platen) :
    (s.closedStep i r l st h cause).arms =
      if (s.rotation.get st.platen).stall = true then s.arms.set st.platen ((s.arms.get st.platen).handedOff q n)
      else s.arms.set st.platen (((s.arms.get st.platen).handedOff q n).swept s.clock (s.profile q)) := by
  have kept := KeptStation.releasedStep s i r l st h cause
  have profile : (s.releasedStep i r l st h cause).profile q = s.profile q :=
    congrArg (slotAt · q) kept.outside.profiles
  rw [closedStep_eq_handOffAfter, State.handOffAfter, exSitu]
  dsimp only
  rw [if_neg going, handOff_arms q n (kept.tripLatch.trans clear) (by rwa [releasedStep_noDiskOn_iff]),
    kept.rotation, kept.outside.clock, profile, releasedStep_arms_exSitu exSitu]

end

/-- Settles O23: the record is closed and each block released, the causes are raised, and a pass that moves on makes its
start attempt after all of this. -/
theorem stepEndCloses : Obligations.StepEndCloses := by
  intro s i cause r l st h live hl hst hh t p result results noDisk arms dropped released
  let u := s.closedStep i r l st h cause
  have ends : t = if r.movesOn cause = true then u.attempt i else u := endStep_eq cause live hl hst hh
  have moves : r.movesOn cause = true ↔ cause = .complete ∧ r.current + 1 < r.steps.length := r.movesOn_iff cause
  have others (j : PassSlot) (other : j ≠ i) : u.pass j = s.pass j := (closedStep_pass cause j).trans (if_neg other)
  have closed : u.pass i = some (r.closeStep l cause) := (closedStep_pass cause i).trans (if_pos rfl)
  have attn : u.attnPending = _ := closedStep_attnPending s i r l st h cause
  have carousel : u.carousel = s.carousel := (KeptStation.closedStep s i r l st h cause).carousel
  have free : released u := by
    refine ⟨closedStep_vented s i r l st h cause, closedStep_supply s i r l st h cause, fun served => ?_, ?_,
      closedStep_items s i r l st h cause, others, .closedStep s i r l st h cause⟩
    · cases e : st.conditioning with
      | none => simpa only [arms, e] using closedStep_arms_none e
      | inSitu q => simpa only [arms, e] using closedStep_arms_inSitu e
      | exSitu q n =>
        simp only [arms, e]
        split
        · rename_i kept
          exact closedStep_arms_unserved e (kept.imp_right .inl)
        · rename_i going
          obtain ⟨going, clear⟩ := not_or.1 going
          have clear : s.tripLatch = false := by simpa using clear
          exact closedStep_arms_served e going clear fun none => served ⟨⟨q, n, e⟩, going, clear, none⟩
    · rintro ⟨⟨q, n, e⟩, -, -, none⟩
      exact closedStep_arms_unserved e (.inr (.inr none))
  refine ⟨fun j other => ?_, .endStep s i cause, endStep_raises_stepEnd cause live hl hst hh, fun stays => ?_,
    fun done more => ?_⟩
  · rw [ends]
    split
    · rw [attempt_pass_other u other, others j other]
    · exact others j other
  · rw [← moves] at stays
    rw [if_neg stays] at ends attn
    rw [ends]
    refine ⟨closed.trans ?_, free, attn⟩
    rw [Pass.closeStep_ends stays]
    cases cause <;> rfl
  · have on := moves.2 ⟨done, more⟩
    rw [if_pos on] at ends attn
    rw [Pass.closeStep_movesOn on] at closed
    intro next
    refine ⟨?_, u, closed, free, attn, fun able => ?_, fun away => ?_⟩
    · rw [ends, attempt_has u i rfl, attn]
      exact CauseSet.has_add_of_apart (c := .stepEnd) _ rfl
    · rw [← carousel] at able
      rw [ends]
      exact ⟨rfl, attempt_attempted closed able⟩
    · rw [← carousel] at away
      rw [ends, attempt_ineligible closed away]

end Sys2Proof.Machine

/-! SUPPORT. The pass on a platen and the captured items of its step (R58, R62, R87), what an accepted index edge leaves behind
(R52, R122), and the revolution a normal edge credits (R57 to R67). -/

namespace Sys2Proof.Machine

/-! ### The pass on a platen (R58, R143) -/

theorem platenUnder_eq_some_iff (k : Fin 4) (h : Head) (p : Platen) : platenUnder k h = some p ↔ headOver k p = h := by
  revert k
  cases h <;> cases p <;> decide

theorem Pass.seat_eq_some_iff (k : Fin 4) (r : Pass) (p : Platen) :
    r.seat k = some p ↔ ∃ h st, r.head = some h ∧ r.step = some st ∧ st.platen = p ∧ platenUnder k h = some p := by
  cases hh : r.head with
  | none => simp [Pass.seat, hh]
  | some h =>
    cases hst : r.step with
    | none => simp [Pass.seat, hh, hst]
    | some st =>
      simp only [Pass.seat, hh, hst]
      split
      · rename_i under
        constructor
        · rintro ⟨⟩
          exact ⟨h, st, rfl, rfl, rfl, under⟩
        · rintro ⟨_, _, ⟨⟩, ⟨⟩, rfl, -⟩
          rfl
      · rename_i away
        constructor
        · rintro ⟨⟩
        · rintro ⟨_, _, ⟨⟩, ⟨⟩, rfl, under⟩
          exact absurd under away

/-- What a search for the pass on a platen asks of a record. -/
theorem Pass.onPlaten_iff (k : Fin 4) (p : Platen) (r : Pass) :
    (r.running && decide (r.seat k = some p)) = true ↔ r.onPlaten k p := by
  rw [Bool.and_eq_true, Pass.running_iff, decide_eq_true_iff, Pass.seat_eq_some_iff]
  rfl

/-- At most one pass is POLISHING or HELD on a platen, so the search finds it (R58). -/
theorem runningOn_eq_some {s : State} {p : Platen} {i : PassSlot} {r : Pass} (apart : s.passesApart) (live : s.pass i = some r)
    (on : r.onPlaten s.carousel.k p) : s.runningOn p = some i := by
  refine findPass_eq_some live ((Pass.onPlaten_iff _ p r).2 on) fun j q hq found => ?_
  obtain ⟨-, h, -, hh, -, -, under⟩ := on
  obtain ⟨-, g, -, hg, -, -, above⟩ := (Pass.onPlaten_iff _ p q).1 found
  have same : g = h := ((platenUnder_eq_some_iff _ g p).1 above).symm.trans ((platenUnder_eq_some_iff _ h p).1 under)
  by_contra other
  obtain ⟨-, none | apart⟩ := apart j i q r hq live other
  · simp [hg] at none
  · exact apart (by rw [hg, hh, same])

/-! ### Records keep their tags and heads (R1, R3) -/

/-- A record has the tag, and holds no head but the head, that the record in its slot had in a state. -/
def Inherits (s : State) (i : PassSlot) (q : Pass) : Prop :=
  ∃ r, s.pass i = some r ∧ q.tag = r.tag ∧ (q.head = none ∨ q.head = r.head)

theorem Pass.closeStep_tag_head (r : Pass) (l : LiveProgress) (cause : StepEnd) :
    (r.closeStep l cause).tag = r.tag ∧ ((r.closeStep l cause).head = none ∨ (r.closeStep l cause).head = r.head) := by
  by_cases on : r.movesOn cause = true
  · rw [Pass.closeStep_movesOn on]
    exact ⟨rfl, .inr rfl⟩
  · rw [Pass.closeStep_ends on]
    exact ⟨rfl, .inl rfl⟩

theorem closed_inherits (k : Fin 4) (free : Prop) (s : State) : Closed k free (Inherits s) where
  block _ _ _ q _ := q
  start _ _ _ _ _ q _ _ := q
  hold _ _ _ _ q _ := q
  addHold _ _ _ q _ := q
  live _ _ _ q := q
  close i r l cause q _ := by
    obtain ⟨x, hx, tag, head⟩ := q
    obtain ⟨tag', head'⟩ := r.closeStep_tag_head l cause
    exact ⟨x, hx, tag'.trans tag, head'.elim .inl fun e => e ▸ head⟩

/-- Records that keep their tags and take no new head stay apart. -/
theorem passesApart_of_inherits {s t : State} (apart : s.passesApart) (kept : AllPass (Inherits s) t) : t.passesApart := by
  intro i j r q hr hq other
  obtain ⟨r', hr', tagr, headr⟩ := kept i r hr
  obtain ⟨q', hq', tagq, headq⟩ := kept j q hq
  obtain ⟨tags, heads⟩ := apart i j r' q' hr' hq' other
  refine ⟨by rwa [tagr, tagq], ?_⟩
  by_cases none : r.head = none
  · exact .inl none
  · have head : r.head = r'.head := headr.resolve_left none
    refine .inr fun same => ?_
    have headq : q.head = q'.head := headq.resolve_left (same ▸ none)
    exact heads.elim (fun e => none (head.trans e)) fun ne => ne (head.symm.trans (same.trans headq))

theorem records_inherits (s : State) : Records s.carousel.k True Wanted.nothing (Inherits s) s where
  all _ r hr := ⟨r, hr, rfl, .inr rfl⟩
  offset := rfl
  starts _ _ := trivial
  latched _ := id
  channels := False.elim
  dwells := False.elim
  parked := False.elim

/-! ### What an accepted edge leaves behind (R52, R122) -/

/-- A change of live progress changes nothing but the records. -/
theorem updateLiveOn_others (s : State) (p : Platen) (f : LiveProgress → LiveProgress) :
    (s.updateLiveOn p f).supply = s.supply ∧ (s.updateLiveOn p f).items = s.items := by
  unfold State.updateLiveOn State.updateLive
  split
  · split <;> exact ⟨rfl, rfl⟩
  · exact ⟨rfl, rfl⟩

theorem raiseIf_others (s : State) (b : Bool) (c : Cause) :
    (s.raiseIf b c).supply = s.supply ∧ (s.raiseIf b c).items = s.items := by
  cases b <;> exact ⟨rfl, rfl⟩

theorem closeSupply_supply (s : State) (p : Platen) :
    (s.closeSupply p).supply = s.supply.set p (s.supply.get p).close := by
  unfold State.closeSupply
  dsimp only
  split
  · rw [(updateLiveOn_others _ _ _).1, (raiseIf_others _ _ _).1]
    rfl
  · rw [(raiseIf_others _ _ _).1]
    rfl

theorem closeSupply_items (s : State) (p : Platen) : (s.closeSupply p).items = s.items := by
  unfold State.closeSupply
  dsimp only
  split
  · rw [(updateLiveOn_others _ _ _).2, (raiseIf_others _ _ _).2]
    rfl
  · rw [(raiseIf_others _ _ _).2]
    rfl

theorem acceptEdge_items (s : State) (p : Platen) : (s.acceptEdge p).items = s.items := closeSupply_items _ p

/-- The last ratio of a platen after an accepted edge is that of the revolution it closes (R122). -/
theorem acceptEdge_lastRatio (s : State) (p : Platen) :
    ((s.acceptEdge p).supply.get p).lastRatio = (s.supply.get p).closingRatio := by
  rw [State.acceptEdge, closeSupply_supply, PerPlaten.get_set_self]
  rfl

theorem acceptEdge_passesApart {s : State} (apart : s.passesApart) (p : Platen) : (s.acceptEdge p).passesApart :=
  passesApart_of_inherits apart ((records_inherits s).acceptEdge (closed_inherits _ _ s) p).all

/-! ### The captured items (R62, R87, R94, R95) -/

theorem item_eq_of_items {s t : State} (e : t.items = s.items) (j : ItemSlot) : t.item j = s.item j :=
  congrArg (slotAt · j) e

theorem itemsWf_of_items {s t : State} (e : t.items = s.items) (wf : s.itemsWf) : t.itemsWf := by
  simpa only [State.itemsWf, item_eq_of_items e] using wf

/-- No two live items hold one id (R87). -/
theorem itemsWf_slot_unique {s : State} (wf : s.itemsWf) {j k : ItemSlot} {x y : Item} (hx : s.item j = some x)
    (hy : s.item k = some y) (same : x.id = y.id) : j = k := by
  by_contra other
  exact (wf.2 j k x y hx hy other).1 same

/-- A search by id finds the item that holds it. -/
theorem itemById_eq_some {s : State} (wf : s.itemsWf) {j : ItemSlot} {x : Item} (hx : s.item j = some x) :
    s.itemById x.id = some j := by
  cases found : s.itemById x.id with
  | none => simpa using findItem_none found j x hx
  | some k =>
    obtain ⟨y, hy, same⟩ := findItem_some found
    rw [itemsWf_slot_unique wf hy hx (of_decide_eq_true same)]

theorem itemWithId_eq_some {s : State} (wf : s.itemsWf) {j : ItemSlot} {x : Item} (hx : s.item j = some x) :
    s.itemWithId x.id = some x := by
  simp only [State.itemWithId, itemById_eq_some wf hx, hx]

theorem itemWithId_some {s : State} {id : Word32} {x : Item} (h : s.itemWithId id = some x) :
    ∃ j, s.item j = some x ∧ x.id = id := by
  unfold State.itemWithId at h
  split at h
  · rename_i j found
    obtain ⟨y, hy, same⟩ := findItem_some found
    cases hy.symm.trans h
    exact ⟨j, hy, of_decide_eq_true same⟩
  · cases h

theorem fpad_of_pad {s : State} (wf : s.itemsWf) {j : ItemSlot} {pad : Item} (hpad : s.item j = some pad)
    (kind : pad.kind = .pad) : s.fpad pad.id = pad.padFactor := by
  simp only [State.fpad, itemWithId_eq_some wf hpad, if_pos kind]

theorem flot_of_lot {s : State} (wf : s.itemsWf) {j : ItemSlot} {lot : Item} (hlot : s.item j = some lot)
    (kind : lot.kind = .lot) : s.flot (some lot.id) = lot.lotFactor := by
  simp only [State.flot, itemWithId_eq_some wf hlot, if_pos kind]

theorem flot_of_no_lot {s : State} {id : Word32} (none : ∀ j x, s.item j = some x → x.id = id → x.kind ≠ .lot) :
    s.flot (some id) = 4096 := by
  cases found : s.itemWithId id with
  | none => simp only [State.flot, found]
  | some x =>
    obtain ⟨j, hx, same⟩ := itemWithId_some found
    simp only [State.flot, found, if_neg (none j x hx same)]

/-- The lot factor is the only value that R62 and R95 leave. -/
theorem eq_flot {s : State} (wf : s.itemsWf) (captured : Option Word32) {flot : Nat} (uncaptured : captured = none → flot = 4096)
    (gone : ∀ id, captured = some id → (∀ j x, s.item j = some x → x.id = id → x.kind ≠ .lot) → flot = 4096)
    (live : ∀ id j lot, captured = some id → s.item j = some lot → lot.id = id → lot.kind = .lot → flot = lot.lotFactor) :
    flot = s.flot captured := by
  cases captured with
  | none => exact uncaptured rfl
  | some id =>
    by_cases held : ∃ j lot, s.item j = some lot ∧ lot.id = id ∧ lot.kind = .lot
    · obtain ⟨j, lot, hlot, rfl, kind⟩ := held
      rw [live _ j lot rfl hlot rfl kind, flot_of_lot wf hlot kind]
    · have none : ∀ j x, s.item j = some x → x.id = id → x.kind ≠ .lot := fun j x hx same kind => held ⟨j, x, hx, same, kind⟩
      rw [gone id rfl none, flot_of_no_lot none]

/-! ### The usage of the pad (R90, R93) -/

theorem rewriteItem_eq (s : State) (j : ItemSlot) (old new : Item) :
    s.rewriteItem j old new =
      { s with
        items := putAt s.items j (some new)
        attnPending := if old.flags.newlySet new.flags = true then s.attnPending ||| 16#9 else s.attnPending } := by
  unfold State.rewriteItem State.raiseIf
  split <;> rfl

/-- A usage rise of an item that is no lot sets WORN when it brings the usage to a limit other than 0 (R90). -/
theorem Item.addUsage_of_ne_lot {x : Item} (kind : x.kind ≠ .lot) (n : Nat) :
    let used : Item := { x with usage := min 4294967295 (x.usage + n) }
    x.addUsage n =
      { used with flags := { x.flags with worn := x.flags.worn || decide (0 < x.limit ∧ x.limit ≤ used.usage) } } := by
  simp [Item.addUsage, Item.isWorn, maxWord, kind]

theorem Item.newlySet_addUsage_of_ne_lot {x : Item} (kind : x.kind ≠ .lot) (n : Nat) :
    x.flags.newlySet (x.addUsage n).flags =
      (decide (0 < x.limit ∧ x.limit ≤ min 4294967295 (x.usage + n)) && !x.flags.worn) := by
  rw [Item.newlySet_addUsage, Item.addUsage_of_ne_lot kind]
  cases x.flags.worn <;> simp

/-- The usage of an item that is no lot rises, and ITEM is raised when that newly sets WORN (R90, R93). -/
theorem addUsageOf_of_ne_lot {s : State} {j : ItemSlot} {x : Item} (hx : s.item j = some x) (kind : x.kind ≠ .lot) (n : Nat) :
    let used : Item := { x with usage := min 4294967295 (x.usage + n) }
    let wears : Bool := decide (0 < x.limit ∧ x.limit ≤ used.usage)
    s.addUsageOf (some j) n =
      { s with
        items := putAt s.items j (some { used with flags := { x.flags with worn := x.flags.worn || wears } })
        attnPending := if wears = true ∧ x.flags.worn = false then s.attnPending ||| 16#9 else s.attnPending } := by
  intro used wears
  have rise : s.addUsageOf (some j) n = s.rewriteItem j x (x.addUsage n) := by
    simp only [State.addUsageOf, State.addUsageAt, hx]
  rw [rise, rewriteItem_eq, Item.newlySet_addUsage_of_ne_lot kind, Item.addUsage_of_ne_lot kind]
  simp only [Bool.and_eq_true, Bool.not_eq_true']
  rfl

/-! ### The pressures of a revolution (R57) -/

theorem Window.closingPressure_eq (w : Window) :
    w.closingPressure = if 0 < w.count then w.sum / w.count else w.lastAverage.getD 0 := by
  unfold Window.closingPressure
  cases w.lastAverage <;> rfl

theorem closingPressures_eq {s : State} {h : Head} {p : Platen} (above : headOver s.carousel.k p = h) :
    s.closingPressures p = PerZone.tabulate fun z =>
      let w := (s.windows.get h).get z
      if 0 < w.count then w.sum / w.count else w.lastAverage.getD 0 := by
  simp only [State.closingPressures, above, Window.closingPressure_eq]

/-! ### A credited revolution (R58 to R60) -/

theorem LiveProgress.allComplete_iff (l : LiveProgress) (st : StepProgram) :
    l.allComplete st = true ↔ ∀ z, (st.zones.get z).target = 0 ∨ l.complete.get z = true := by
  simp only [LiveProgress.allComplete, List.all_eq_true, Bool.or_eq_true, decide_eq_true_iff]
  exact ⟨fun h z => h z (mem_zones z), fun h z _ => h z⟩

section
variable {s : State} {i : PassSlot} {r : Pass} {l : LiveProgress} {st : StepProgram} {h : Head}

/-- The step ends when it is in REMOVAL mode with every targeted zone complete (R40). -/
theorem testAndSteer_ends {tested : LiveProgress} (test : l.testZones st = tested) (mode : st.mode = .removal)
    (all : ∀ z, (st.zones.get z).target = 0 ∨ tested.complete.get z = true) :
    s.testAndSteer i r l st h = (s.setPass i (some { r with live := some tested })).endStep i .complete := by
  subst test
  exact if_pos ⟨mode, (LiveProgress.allComplete_iff _ st).2 all⟩

/-- The head is steered when the step goes on (R80). -/
theorem testAndSteer_steers {tested : LiveProgress} (test : l.testZones st = tested)
    (goesOn : ¬(st.mode = .removal ∧ ∀ z, (st.zones.get z).target = 0 ∨ tested.complete.get z = true)) :
    s.testAndSteer i r l st h = (s.setPass i (some { r with live := some tested })).steerHead h st tested := by
  subst test
  exact if_neg fun ⟨mode, all⟩ => goesOn ⟨mode, (LiveProgress.allComplete_iff _ st).1 all⟩

variable (live : s.pass i = some r) (hl : r.live = some l) (hst : r.step = some st) (hh : r.head = some h)
  (pressures : PerZone Nat) (fsup fgl : Nat)

include live hl hst hh

theorem credit_first (first : l.firstRevolution = true) :
    s.credit i pressures fsup fgl = s.setPass i (some { r with live := some { l with firstRevolution := false } }) := by
  simp only [State.credit, live, hl, hst, hh, if_pos first]

theorem credit_held (later : l.firstRevolution = false) (held : r.state = .held) :
    s.credit i pressures fsup fgl = s.setPass i (some { r with
      live := some (l.credit st pressures (combinedFactor (s.fpad l.pad) (s.flot l.lotA) fsup fgl)) }) := by
  simp only [State.credit, live, hl, hst, hh, later, held, Bool.false_eq_true, if_false, if_true]

theorem credit_polishing (later : l.firstRevolution = false) (polishing : r.state = .polishing) :
    s.credit i pressures fsup fgl = (s.addUsageOf (s.itemById l.pad) 1).testAndSteer i r
      { l.credit st pressures (combinedFactor (s.fpad l.pad) (s.flot l.lotA) fsup fgl) with settleLeft := l.settleLeft - 1 }
      st h := by
  have going : r.state ≠ .held := by simp [polishing]
  simp only [State.credit, live, hl, hst, hh, later, Bool.false_eq_true, if_false, if_neg going]
  rfl

end

/-! ### A normal edge (R49, R51, R58) -/

/-- The part when an edge of a platen has been seen and its period written, before the actions of R52. -/
def State.timedEdge (s : State) (dt : Nat) (p : Platen) (period : Word32) : State :=
  { s with
    clock := s.clock + dt
    rotation := s.rotation.set p { s.rotation.get p with level := true, lastPeriod := some period } }

theorem writePeriod_setIndexLevel (s : State) (dt : Nat) (p : Platen) (period : Word32) :
    ((s.elapse dt).setIndexLevel p true).writePeriod p period = s.timedEdge dt p period := by
  simp [State.writePeriod, State.setIndexLevel, State.setRotation, State.elapse, State.timedEdge, PerPlaten.set_set]

theorem edgeKind_normal {x : Rotation} {reference capture : Word32} (known : x.reference = some reference)
    (clear : x.stall = false) (low : 100000 ≤ (capture - reference).toNat) (high : (capture - reference).toNat ≤ 6000000) :
    edgeKind x capture = .normal (capture - reference) := by
  simp only [edgeKind, known, clear, Bool.false_eq_true, if_false, if_neg (Nat.not_lt.2 low), if_pos high]

section
variable {s : State} {dt : Nat} {p : Platen} {reference : Word32} {i : PassSlot}

/-- A normal edge with a pass running on the platen credits it, with the pressures, the supply ratio and the glaze count of the
revolution that ends. -/
theorem exec_normalEdge_credits (low : (s.rotation.get p).level = false) (clear : (s.rotation.get p).stall = false)
    (known : (s.rotation.get p).reference = some reference)
    (period : Word32) (hperiod : period = BitVec.ofNat 32 (s.clock + dt) - reference)
    (long : 100000 ≤ period.toNat) (short : period.toNat ≤ 6000000)
    (on : ((s.timedEdge dt p period).acceptEdge p).runningOn p = some i) :
    exec (.platenIndexEdge dt p) s = .next
      (((s.timedEdge dt p period).acceptEdge p).credit i (s.closingPressures p)
        (((s.timedEdge dt p period).acceptEdge p).supply.get p).lastRatio
        (glazeFactor (s.glazeSettings.get p) (s.arms.get p).glaze)) := by
  have seen : ((s.elapse dt).setIndexLevel p true).rotation.get p = { s.rotation.get p with level := true } :=
    PerPlaten.get_set_self _ _ _
  have kind : edgeKind (((s.elapse dt).setIndexLevel p true).rotation.get p) ((s.elapse dt).setIndexLevel p true).timeBase =
      .normal period := by
    subst hperiod
    rw [seen]
    exact edgeKind_normal known clear long short
  have rises : ((s.elapse dt).setIndexLevel p true).risingIndexEdge p =
      ((s.timedEdge dt p period).acceptEdge p).credit i (s.closingPressures p) (s.supply.get p).closingRatio
        (glazeFactor (s.glazeSettings.get p) (s.arms.get p).glaze) := by
    simp only [State.risingIndexEdge, kind, writePeriod_setIndexLevel, on]
    rfl
  rw [acceptEdge_lastRatio]
  calc exec (.platenIndexEdge dt p) s
      = .next (if (s.rotation.get p).level = true then s.elapse dt
          else ((s.elapse dt).setIndexLevel p true).risingIndexEdge p) := rfl
    _ = _ := by rw [if_neg (by simp [low]), rises]; rfl

end

/-- Settles O32: a normal edge credits the one pass on its platen with the factors of R62, and what is credited, tested and worn
is as R59 and R60 list it. -/
theorem creditedRevolution : Obligations.CreditedRevolution := by
  refine ⟨fun _ => rfl, ?_⟩
  intro s dt p reference i r l st h j pad x period accepted low clear known long short apart wf live running hl hst hh seat
    under hpad padId kind pressure fpad fsup fgl flot uncaptured gone held factor acc credited done tested used wears written
  have items : accepted.items = s.items := acceptEdge_items _ p
  have wf' : accepted.itemsWf := itemsWf_of_items items wf
  have hpad' : accepted.item j = some pad := (item_eq_of_items items j).trans hpad
  have offset : accepted.carousel = s.carousel := (Steady.acceptEdge _ p).carousel
  have on : accepted.runningOn p = some i :=
    runningOn_eq_some (acceptEdge_passesApart (s := s.timedEdge dt p period) apart p) live
      ⟨running, h, st, hh, hst, seat, offset ▸ under⟩
  have edge : exec (.platenIndexEdge dt p) s = .next (accepted.credit i (PerZone.tabulate pressure) fsup fgl) :=
    closingPressures_eq ((platenUnder_eq_some_iff _ h p).1 under) ▸
      exec_normalEdge_credits low clear known period rfl long short on
  have hfpad : accepted.fpad l.pad = fpad := padId ▸ fpad_of_pad wf' hpad' kind
  have hflot : accepted.flot l.lotA = flot := (eq_flot wf' l.lotA uncaptured
    (fun id lotA none => gone id lotA fun k y hy => none k y ((item_eq_of_items items k).trans hy))
    fun id k lot lotA hlot => held id k lot lotA ((item_eq_of_items items k).symm.trans hlot)).symm
  have gains : l.credit st (PerZone.tabulate pressure) (combinedFactor (accepted.fpad l.pad) (accepted.flot l.lotA) fsup fgl) =
      credited := by
    rw [hfpad, hflot]
    rfl
  rw [edge]
  refine ⟨fun first => ?_, fun later held => ?_, fun later polishing => ?_⟩
  · rw [credit_first live hl hst hh _ _ _ first]
  · rw [credit_held live hl hst hh _ _ _ later held, gains]
  · have worn : (accepted.addUsageOf (accepted.itemById l.pad) 1).setPass i (some { r with live := some tested }) = written := by
      rw [← padId, itemById_eq_some wf' hpad', addUsageOf_of_ne_lot hpad' (by simp [kind]), items]
      rfl
    rw [credit_polishing live hl hst hh _ _ _ later polishing, gains]
    have complete (z : Zone) : tested.complete.get z = done z := PerZone.get_tabulate done z
    have test : { credited with settleLeft := l.settleLeft - 1 }.testZones st = tested := rfl
    refine ⟨fun mode all => ?_, fun goesOn => ?_⟩
    · rw [testAndSteer_ends test mode (by simpa only [complete] using all)]
      exact congrArg (fun t => Host.Outcome.next (t.endStep i .complete)) worn
    · rw [testAndSteer_steers test (by simpa only [complete] using goesOn)]
      exact congrArg (fun t => Host.Outcome.next (t.steerHead h st tested)) worn

end Sys2Proof.Machine

/-! SUPPORT. The setpoint each class of zone takes after a credited revolution (R80, R81). -/

namespace Sys2Proof.Machine

theorem limitedInt_eq {lo hi : Int} (h : lo ≤ hi) (x : Int) : limitedInt lo hi x = max lo (min hi x) := by
  unfold limitedInt
  split
  · omega
  · split <;> omega

theorem steeringTerm_eq (st : StepProgram) (l : LiveProgress) (z : Zone) :
    steeringTerm st l z =
      if 0 < st.gain ∧ l.settleLeft = 0 ∧ 2 ≤ (zones.filter (isActive st l)).length then
        Int.tdiv
          (((st.zones.get z).base : Int) * ((meanProgress st l : Int) - (zoneProgress st l z : Int)) * (st.gain : Int)) 65536
      else 0 := by
  simp only [steeringTerm, steeringActs, decide_eq_true_eq]

section
variable {cs : ChannelSettings} {st : StepProgram} {l : LiveProgress} {z : Zone} (previous : Nat)

theorem updatedSetpoint_complete (complete : l.complete.get z = true) :
    updatedSetpoint cs st l z previous = cs.wmin := if_pos complete

theorem updatedSetpoint_untargeted (incomplete : l.complete.get z = false) (untargeted : (st.zones.get z).target = 0) :
    updatedSetpoint cs st l z previous = cs.clip (st.zones.get z).base := by
  rw [updatedSetpoint, if_neg (by simp [incomplete]), if_pos untargeted, ChannelSettings.window_eq_clip]

theorem updatedSetpoint_active (incomplete : l.complete.get z = false) (targeted : 0 < (st.zones.get z).target)
    (window : cs.wmin ≤ cs.wmax) :
    updatedSetpoint cs st l z previous =
      (max (cs.wmin : Int) (min (cs.wmax : Int) (max ((previous : Int) - st.slew)
        (min ((previous : Int) + st.slew) ((st.zones.get z).base + steeringTerm st l z))))).toNat := by
  rw [updatedSetpoint, if_neg (by simp [incomplete]), if_neg (by omega), steeredSetpoint, limitedInt_eq (by omega),
    limitedInt_eq (by omega)]

end

section
variable (s : State) (h : Head) (st : StepProgram) (l : LiveProgress)

theorem steerHead_other_head {k : Head} (other : k ≠ h) (c : Chan) :
    (s.steerHead h st l).channel k c = s.channel k c := by
  rw [State.steerHead, channel_updateHead, if_neg other]

theorem steerHead_ring : (s.steerHead h st l).channel h .rr = s.channel h .rr := by
  rw [State.steerHead, channel_updateHead, if_pos rfl]

theorem steerHead_zone (z : Zone) :
    (s.steerHead h st l).channel h (.zone z) =
      (s.channel h (.zone z)).moveSetpoint
        (updatedSetpoint ((s.headSettings.get h).chans.get (.zone z)) st l z) := by
  rw [State.steerHead, channel_updateHead, if_pos rfl]

end

theorem Channel.moveSetpoint_none {c : Channel} (absent : c.setpoint = none) (f : Nat → Nat) : c.moveSetpoint f = c := by
  cases c
  cases absent
  rfl

theorem Channel.moveSetpoint_some {c : Channel} {previous : Nat} (present : c.setpoint = some previous) (f : Nat → Nat) :
    c.moveSetpoint f = { c with setpoint := some (f previous) } := by
  rw [Channel.moveSetpoint, present]
  rfl

/-- Settles O33: a zone's setpoint moves by its class (R80), and an active zone's by the steering term of R81. -/
theorem steeredSetpoints : Obligations.SteeredSetpoints := by
  intro s h st l t target base active progress mean term
  refine ⟨rfl, fun k c other => steerHead_other_head s h st l other c, steerHead_ring s h st l, fun z => ?_⟩
  intro x cs
  have zone : t.channel h (.zone z) = x.moveSetpoint (updatedSetpoint cs st l z) := steerHead_zone s h st l z
  refine ⟨fun absent => by rw [zone, Channel.moveSetpoint_none absent], fun previous present => ?_⟩
  rw [zone, Channel.moveSetpoint_some present]
  refine ⟨fun complete => ?_, fun incomplete untargeted => ?_, fun incomplete targeted window => ?_⟩
  · rw [updatedSetpoint_complete previous complete]
  · rw [updatedSetpoint_untargeted previous incomplete untargeted]
  · have acts : steeringTerm st l z = term z := steeringTerm_eq st l z
    rw [updatedSetpoint_active previous incomplete targeted window, acts]

end Sys2Proof.Machine

/-! SUPPORT. A pressure sample, the sensor fault it may change, and what a change of the fault calls (R56, R70 to R73, R159). -/

namespace Sys2Proof

@[simp] theorem PerZone.set_get_self {α : Type} (t : PerZone α) (z : Zone) : t.set z (t.get z) = t := by
  cases z <;> rfl

namespace Machine

/-! ### The pass running on a head (R3, R159) -/

theorem Pass.runsOn_iff (r : Pass) (h : Head) :
    (r.running && decide (r.head = some h)) = true ↔ (r.state = .polishing ∨ r.state = .held) ∧ r.head = some h := by
  rw [Bool.and_eq_true, Pass.running_iff, decide_eq_true_iff]

/-- No two passes hold one head, so the search for the pass running on it finds it. -/
theorem runningAt_eq_some {s : State} {h : Head} {i : PassSlot} {r : Pass} (apart : s.passesApart) (live : s.pass i = some r)
    (running : r.state = .polishing ∨ r.state = .held) (on : r.head = some h) : s.runningAt h = some i := by
  refine findPass_eq_some live ((Pass.runsOn_iff r h).2 ⟨running, on⟩) fun j q hq found => ?_
  obtain ⟨-, hg⟩ := (Pass.runsOn_iff q h).1 found
  by_contra other
  obtain ⟨-, none | apart⟩ := apart j i q r hq live other
  · simp [hg] at none
  · exact apart (hg.trans on.symm)

theorem runningAt_eq_none {s : State} {h : Head}
    (away : ∀ i r, s.pass i = some r → r.state = .polishing ∨ r.state = .held → r.head ≠ some h) :
    s.runningAt h = none := by
  by_contra found
  obtain ⟨i, r, live, runs⟩ := (findPass_isSome_iff s _).1 (Option.isSome_iff_ne_none.2 found)
  obtain ⟨running, on⟩ := (Pass.runsOn_iff r h).1 runs
  exact away i r live running on

/-! ### Holds raise nothing (R156, R157) -/

theorem parkInSitu_attnPending (s : State) (p : Platen) : (s.parkInSitu p).attnPending = s.attnPending := by
  simp only [State.parkInSitu]
  split <;> rfl

theorem suspendService_attnPending (s : State) (r : Pass) : (s.suspendService r).attnPending = s.attnPending := by
  unfold State.suspendService
  split
  · exact parkInSitu_attnPending _ _
  · rfl

theorem addCause_attnPending (s : State) (i : PassSlot) (c : HoldCause) : (s.addCause i c).attnPending = s.attnPending := by
  unfold State.addCause
  split
  · rfl
  · split
    · exact suspendService_attnPending _ _
    all_goals rfl

/-! ### The sample of a channel (R70 to R72) -/

theorem Channel.track_agrees {c : Channel} {good : Bool} (agrees : good ≠ c.fault) : c.track good = { c with runCount := 0 } :=
  if_neg (by simpa using agrees)

theorem Channel.track_counts {c : Channel} {good : Bool} (disagrees : good = c.fault) (below : c.runCount ≠ 7) :
    c.track good = { c with runCount := c.runCount + 1 } := by
  rw [Channel.track, if_pos (by simpa using disagrees), if_neg (by omega)]

theorem Channel.track_changes {c : Channel} {good : Bool} (disagrees : good = c.fault) (eighth : c.runCount = 7) :
    c.track good = { c with fault := !c.fault, runCount := 0 } := by
  rw [Channel.track, if_pos (by simpa using disagrees), if_pos (by omega)]

/-- A channel whose latest good pressure and next sample are those a sample leaves, before its run count is kept (R70, R71). -/
def Channel.sampled (pressure : Option Nat) (c : Channel) : Channel :=
  { c with latest := pressure.or c.latest, nextSample := c.nextSample + 2000 }

theorem Channel.takeSample_eq (pressure : Option Nat) (c : Channel) :
    c.takeSample pressure = (c.sampled pressure).track pressure.isSome := by
  cases pressure <;> rfl

/-- What the RI's windows are after a sample of a channel (R56, R71). -/
def State.windowsWith (s : State) (h : Head) (c : Chan) (pressure : Option Nat) : PerHead (PerZone Window) :=
  match c, pressure with
  | .zone z, some q => s.windows.set h ((s.windows.get h).set z (((s.windows.get h).get z).addSample q))
  | _, _ => s.windows

theorem handSample_eq (s : State) (h : Head) (c : Chan) (pressure : Option Nat) :
    s.handSample h c pressure = { s with windows := s.windowsWith h c pressure } := by
  cases c <;> cases pressure <;> rfl

theorem windowsWith_full {s : State} {h : Head} {z : Zone} (full : ¬((s.windows.get h).get z).count < 65535) (q : Nat) :
    s.windowsWith h (.zone z) (some q) = s.windows := by
  have kept : ((s.windows.get h).get z).addSample q = (s.windows.get h).get z := if_neg full
  rw [State.windowsWith, kept, PerZone.set_get_self, PerHead.set_get_self]

theorem windowsWith_room {s : State} {h : Head} {z : Zone} (room : ((s.windows.get h).get z).count < 65535) (q : Nat) :
    s.windowsWith h (.zone z) (some q) =
      s.windows.set h ((s.windows.get h).set z { (s.windows.get h).get z with
        sum := ((s.windows.get h).get z).sum + q, count := ((s.windows.get h).get z).count + 1 }) :=
  congrArg (fun w => s.windows.set h ((s.windows.get h).set z w)) (if_pos room)

/-- The part once a sample is taken and handed on, with the channel as it then is (R70, R71). -/
def State.sampledAs (s : State) (h : Head) (c : Chan) (pressure : Option Nat) (y : Channel) : State :=
  { s with
    clock := max s.clock (s.channel h c).nextSample
    windows := s.windowsWith h c pressure
    channels := s.channels.set h ((s.channels.get h).set c y) }

/-- A sample rewrites its channel, hands the pressure on, and reports a change of the sensor fault. -/
theorem exec_pressureSample (s : State) (h : Head) (c : Chan) (code : BitVec 12) {pressure : Option Nat}
    (read : samplePressure ((s.headSettings.get h).chans.get c) code = pressure) {y : Channel}
    (taken : ((s.channel h c).sampled pressure).track pressure.isSome = y) :
    exec (.pressureSample h c code) s =
      .next ((s.sampledAs h c pressure y).reportFault h (s.channel h c).fault y.fault) := by
  subst read taken
  rw [← Channel.takeSample_eq]
  have run : exec (.pressureSample h c code) s = .next ((s.runTo (s.channel h c).nextSample).sample h c code) := rfl
  rw [run, State.sample, handSample_eq]
  rfl

theorem sampledAs_channel (s : State) (h : Head) (c d : Chan) (pressure : Option Nat) (y : Channel) :
    (s.sampledAs h c pressure y).channel h d = if d = c then y else s.channel h d := by
  simp only [State.sampledAs, State.channel, PerHead.get_set_self, PerChan.get_set]

/-! ### What a change of the sensor fault calls (R73, R159) -/

theorem reportFault_unchanged (s : State) (h : Head) (b : Bool) : s.reportFault h b b = s := by
  cases b <;> rfl

theorem reportFault_set (s : State) (h : Head) :
    s.reportFault h false true = (s.addCauseOf (s.runningAt h) .sensor).raise .fault := rfl

theorem reportFault_set_idle {s : State} {h : Head}
    (away : ∀ i r, s.pass i = some r → r.state = .polishing ∨ r.state = .held → r.head ≠ some h) :
    s.reportFault h false true = { s with attnPending := s.attnPending ||| 8#9 } := by
  rw [reportFault_set, runningAt_eq_none away]
  rfl

theorem reportFault_set_running {s : State} {h : Head} {i : PassSlot} {r : Pass} (apart : s.passesApart)
    (live : s.pass i = some r) (running : r.state = .polishing ∨ r.state = .held) (on : r.head = some h) :
    s.reportFault h false true = { s.addCause i .sensor with attnPending := s.attnPending ||| 8#9 } := by
  rw [reportFault_set, runningAt_eq_some apart live running on, ← addCause_attnPending s i .sensor]
  rfl

theorem reportFault_cleared_last {s : State} {h : Head} (sound : ∀ c, (s.channel h c).fault = false) :
    s.reportFault h true false = s.attemptOn h := by
  have clear : s.headFault h = false := by
    rw [← Bool.not_eq_true, headFault_iff]
    simp [sound]
  rw [State.reportFault, clear]
  rfl

theorem reportFault_cleared_others {s : State} {h : Head} {c : Chan} (other : (s.channel h c).fault = true) :
    s.reportFault h true false = s := by
  rw [State.reportFault, (headFault_iff s h).2 ⟨c, other⟩]
  rfl

/-- Settles O35: the sample is read as R70 says, the run count of R72 decides whether the sensor fault changes, and a change is
reported as R73 and R159 say. -/
theorem pressureSampleIsTaken : Obligations.PressureSampleIsTaken := by
  intro s h c code x cs pressure disagrees kept windows taken
  have good (d : disagrees) : pressure.isSome = x.fault := by
    obtain ⟨bad, clear⟩ | ⟨ok, fault⟩ := d
    · rw [bad, clear]; rfl
    · rw [fault, Option.isSome_iff_ne_none.2 ok]
  have agreeing (a : ¬disagrees) : pressure.isSome ≠ x.fault := by
    intro same
    cases hp : pressure with
    | none => exact a (.inl ⟨hp, by rw [← same, hp]; rfl⟩)
    | some q => exact a (.inr ⟨by rw [hp]; simp, by rw [← same, hp]; rfl⟩)
  have hkept : x.sampled pressure = kept := by
    simp only [Channel.sampled, kept]
    cases pressure <;> rfl
  have hwindows : s.windowsWith h c pressure = windows := by
    simp only [windows]
    cases c with
    | rr => cases pressure <;> rfl
    | zone z =>
      cases pressure with
      | none => rfl
      | some q =>
        by_cases room : ((s.windows.get h).get z).count < 65535
        · rw [windowsWith_room room]; exact (if_pos room).symm
        · rw [windowsWith_full room]; exact (if_neg room).symm
  have run {y : Channel} (tracked : kept.track pressure.isSome = y) :
      exec (.pressureSample h c code) s = .next ((taken y).reportFault h x.fault y.fault) := by
    have := exec_pressureSample s h c code (pressure := pressure) rfl ((congrArg _ hkept).trans tracked)
    rwa [State.sampledAs, hwindows] at this
  have channelOf (y : Channel) (d : Chan) : (taken y).channel h d = if d = c then y else s.channel h d := by
    rw [← sampledAs_channel s h c d pressure y, State.sampledAs, hwindows]
  refine ⟨fun a => ?_, fun d below => ?_, fun d eighth => ?_⟩
  · rw [run (Channel.track_agrees (agreeing a))]
    exact congrArg _ (reportFault_unchanged _ _ _)
  · rw [run (Channel.track_counts (good d) below)]
    exact congrArg _ (reportFault_unchanged _ _ _)
  · have changed := run (Channel.track_changes (good d) eighth)
    intro after
    refine ⟨fun clear => ?_, fun fault => ?_⟩
    · have reported : exec (.pressureSample h c code) s = .next (after.reportFault h false true) := by
        rw [changed]; simp only [kept, clear, after]; rfl
      refine ⟨fun away => ?_, fun apart i r live running on => ?_⟩
      · rw [reported]
        exact congrArg _ (reportFault_set_idle (s := after) away)
      · rw [reported]
        exact congrArg _ (reportFault_set_running (s := after) apart live running on)
    · have cleared : exec (.pressureSample h c code) s = .next (after.reportFault h true false) := by
        rw [changed]; simp only [kept, fault, after]; rfl
      have own : (after.channel h c).fault = false := by rw [channelOf, if_pos rfl]; simp [fault]
      refine ⟨fun others => ?_, fun ⟨d, other, still⟩ => ?_⟩
      · rw [cleared, reportFault_cleared_last]
        intro d
        by_cases e : d = c
        · rw [e, own]
        · rw [channelOf, if_neg e, others d e]
      · rw [cleared, reportFault_cleared_others (c := d)]
        rw [channelOf, if_neg other, still]

end Machine

end Sys2Proof

/-! SUPPORT. The reads of head, slurry and conditioning state, field by field (R84, R86, R109, R125, R139, R141). -/

namespace Sys2Proof

/-! ### Tables in the order of the layouts -/

theorem PerChan.getElem?_toList {α : Type} (t : PerChan α) {i : Nat} {c : Chan} (place : chans[i]? = some c) :
    t.toList[i]? = some (t.get c) := by
  have order : t.toList = chans.map t.get := rfl
  rw [order, List.getElem?_map, place]
  rfl

theorem getElem?_platens (p : Platen) : platens[p.number]? = some p := by cases p <;> rfl

theorem getElem?_toList_slotAt {α : Type} {n : Nat} (t : Vector α n) (i : Fin n) : t.toList[i.val]? = some (slotAt t i) := by
  rw [Vector.getElem?_toList]
  exact Vector.getElem?_eq_getElem i.isLt

/-- The feeds in the order A, B, C (R125). -/
def feedList : List Feed := [.a, .b, .c]

namespace Machine

/-! ### Blocks of equal length -/

theorem length_flatten_blocks {α : Type} {f : α → List Byte} {m : Nat} (size : ∀ x, (f x).length = m) (l : List α) :
    (l.map f).flatten.length = m * l.length := by
  induction l with
  | nil => rfl
  | cons x l ih =>
    simp only [List.map_cons, List.flatten_cons, List.length_append, List.length_cons, size, ih, Nat.mul_succ]
    omega

/-- The field of a block, at its place among blocks of one length that stand between other bytes. -/
theorem field_block {α : Type} {f : α → List Byte} {m : Nat} (size : ∀ x, (f x).length = m) (after : List Byte) {k n : Nat}
    (fits : k + n ≤ m) : ∀ {l : List α} {i : Nat} {x : α} {before : List Byte} {o place : Nat}, l[i]? = some x →
      before.length = o → place = o + m * i + k → field (before ++ (l.map f).flatten ++ after) place n = field (f x) k n
  | y :: l, 0, _, before, o, _, rfl, start, rfl => by
    rw [List.append_assoc, field_beyond _ _ _ _ (by omega), List.map_cons, List.flatten_cons, List.append_assoc,
      field_within _ _ _ _ (by rw [size]; omega)]
    congr 1
    omega
  | y :: l, i + 1, x, before, o, _, here, start, rfl => by
    rw [List.map_cons, List.flatten_cons, ← List.append_assoc]
    exact field_block size after fits (l := l) (i := i) (o := o + m) here (by rw [List.length_append, size, start])
      (by rw [Nat.mul_succ]; omega)

theorem field_one (bs : List Byte) (o : Nat) : field bs o 1 = bs[o]?.elim 0 BitVec.toNat := by
  rw [field, List.take_one, List.head?_drop]
  cases bs[o]? <;> rfl

theorem field_zeros (m o n : Nat) : field (List.replicate m 0#8) o n = 0 := by
  rw [field, List.drop_replicate, List.take_replicate]
  generalize min n (m - o) = k
  induction k with
  | zero => rfl
  | succ k ih => rw [List.replicate_succ, leValue, ih]; rfl

@[simp] theorem length_padTo (n : Nat) (fill : Byte) (bs : List Byte) : (padTo n fill bs).length = n := by
  simp [padTo]

theorem getElem?_padTo {n k : Nat} (h : k < n) (fill : Byte) (bs : List Byte) :
    (padTo n fill bs)[k]? = some (bs[k]?.getD fill) := by
  rw [padTo, List.getElem?_take_of_lt h]
  by_cases inside : k < bs.length
  · rw [List.getElem?_append_left inside, List.getElem?_eq_getElem inside]
    rfl
  · rw [List.getElem?_append_right (by omega), List.getElem?_replicate_of_lt (by omega), List.getElem?_eq_none (by omega)]
    rfl

/-- A field of the blocks at the front. -/
theorem field_block_first {α : Type} {f : α → List Byte} {m : Nat} (size : ∀ x, (f x).length = m) (after : List Byte)
    {k n : Nat} (fits : k + n ≤ m) {l : List α} {i : Nat} {x : α} (here : l[i]? = some x) {place : Nat}
    (at' : place = m * i + k) : field ((l.map f).flatten ++ after) place n = field (f x) k n :=
  field_block size after fits (before := []) (o := 0) here rfl (by omega)

/-- A field of the blocks at the end. -/
theorem field_block_last {α : Type} {f : α → List Byte} {m : Nat} (size : ∀ x, (f x).length = m) {k n : Nat}
    (fits : k + n ≤ m) {l : List α} {i : Nat} {x : α} {before : List Byte} {o place : Nat} (here : l[i]? = some x)
    (start : before.length = o) (at' : place = o + m * i + k) : field (before ++ (l.map f).flatten) place n = field (f x) k n := by
  rw [← field_block size [] fits here start at', List.append_nil]

/-! ### Head state (R84, R86) -/

theorem ChannelSettings.length_bytes (c : ChannelSettings) : c.bytes.length = 7 := by simp [ChannelSettings.bytes]

theorem ChannelSettings.field_bytes (c : ChannelSettings) :
    field c.bytes 0 2 = c.wmin % 65536 ∧ field c.bytes 2 2 = c.wmax % 65536 ∧ field c.bytes 4 2 = c.span % 65536 ∧
      field c.bytes 6 1 = c.zero % 256 := by
  simp [ChannelSettings.bytes, field_beyond, field_leBytes]

/-- The seven bytes before the channels in a head's settings (R84). -/
def DriveSettings.bytes (d : DriveSettings) : List Byte :=
  [byte d.deadband] ++ leBytes 2 d.kp ++ leBytes 2 d.pulseMax ++ leBytes 2 d.deadTime

theorem HeadSettings.bytes_eq (x : HeadSettings) :
    x.bytes = x.drive.bytes ++ (x.chans.toList.map ChannelSettings.bytes).flatten := rfl

theorem DriveSettings.length_bytes (d : DriveSettings) : d.bytes.length = 7 := by simp [DriveSettings.bytes]

theorem DriveSettings.field_bytes (d : DriveSettings) :
    field d.bytes 0 1 = d.deadband % 256 ∧ field d.bytes 1 2 = d.kp % 65536 ∧ field d.bytes 3 2 = d.pulseMax % 65536 ∧
      field d.bytes 5 2 = d.deadTime % 65536 := by
  simp [DriveSettings.bytes, field_beyond, field_leBytes, field_leBytes_last]

theorem HeadSettings.length_bytes (x : HeadSettings) : x.bytes.length = 42 := by
  rw [HeadSettings.bytes_eq, List.length_append, DriveSettings.length_bytes,
    length_flatten_blocks ChannelSettings.length_bytes]
  rfl

theorem pressureBytes_eq (o : Option Nat) : pressureBytes o = leBytes 2 (o.getD 65535) := by cases o <;> rfl

theorem pressure_mod (o : Option Nat) : o.getD 65535 % 65536 = match o with | some v => v % 65536 | none => 65535 := by
  cases o <;> rfl

theorem Channel.length_bytes (c : Channel) : c.bytes.length = 6 := by simp [Channel.bytes, pressureBytes_eq]

theorem Channel.field_bytes (c : Channel) :
    field c.bytes 0 1 = (match c.mode with | .vent => 0 | .drive => 1) ∧
      field c.bytes 1 2 = (match c.setpoint with | some v => v % 65536 | none => 65535) ∧
      field c.bytes 3 2 = (match c.latest with | some v => v % 65536 | none => 65535) ∧
      field c.bytes 5 1 = flagBit c.fault 0 + flagBit c.fill.isOpen 1 + flagBit c.vent.isOpen 2 := by
  have h0 := flagBit_le c.fault 0
  have h1 := flagBit_le c.fill.isOpen 1
  have h2 := flagBit_le c.vent.isOpen 2
  rw [← pressure_mod, ← pressure_mod]
  refine ⟨?_, ?_, ?_, ?_⟩
  · cases hm : c.mode <;> simp [Channel.bytes, hm]
  all_goals simp [Channel.bytes, pressureBytes_eq, field_beyond, field_leBytes]
  omega

section
variable (s : State) (h : Head)

theorem length_headBytes : (s.headBytes h).length = 73 := by
  rw [State.headBytes, List.length_append, List.length_cons, HeadSettings.length_bytes,
    length_flatten_blocks Channel.length_bytes]
  rfl

theorem headBytes_number : field (s.headBytes h) 0 1 = h.number := by
  rw [State.headBytes, List.cons_append, field_cons_one, toNat_byte, Head.number_mod]

theorem headBytes_drive {k n : Nat} (fits : k + n ≤ 7) :
    field (s.headBytes h) (k + 1) n = field (s.headSettings.get h).drive.bytes k n := by
  have length := DriveSettings.length_bytes (s.headSettings.get h).drive
  rw [State.headBytes, List.cons_append, field_cons_succ, HeadSettings.bytes_eq, List.append_assoc,
    field_within _ _ _ _ (by omega)]

variable {i : Nat} {c : Chan} (order : chans[i]? = some c)
include order

theorem headBytes_settings {k n place : Nat} (fits : k + n ≤ 7) (at' : place = 8 + 7 * i + k) :
    field (s.headBytes h) place n = field ((s.headSettings.get h).chans.get c).bytes k n :=
  field_block ChannelSettings.length_bytes _ fits (before := byte h.number :: (s.headSettings.get h).drive.bytes)
    (PerChan.getElem?_toList _ order) (by rw [List.length_cons, DriveSettings.length_bytes]) at'

theorem headBytes_channel {k n place : Nat} (fits : k + n ≤ 6) (at' : place = 43 + 6 * i + k) :
    field (s.headBytes h) place n = field (s.channel h c).bytes k n :=
  field_block_last Channel.length_bytes fits (PerChan.getElem?_toList _ order)
    (by rw [List.length_cons, HeadSettings.length_bytes]) at'

end

/-! ### Slurry state (R109, R125) -/

theorem BlendRow.length_bytes (r : BlendRow) : r.bytes.length = 5 := by simp [BlendRow.bytes]

theorem BlendRow.field_bytes (r : BlendRow) :
    field r.bytes 0 2 = r.flow % 65536 ∧ field r.bytes 2 1 = r.partA % 256 ∧ field r.bytes 3 1 = r.partB % 256 ∧
      field r.bytes 4 1 = r.partC % 256 := by
  simp [BlendRow.bytes, field_beyond, field_leBytes]

theorem length_phaseBytes (t : PhaseTable) : (phaseBytes t).length = 32 := length_padTo _ _ _

theorem field_phaseBytes (t : PhaseTable) {n : Nat} (h : n < 32) :
    field (phaseBytes t) n 1 = match t[n]? with | some (some p) => p.number | some none => 3 | none => 255 := by
  rw [field_one, phaseBytes, getElem?_padTo h, List.getElem?_map]
  cases t[n]? with
  | none => rfl
  | some e => cases e with
    | none => rfl
    | some p => exact (toNat_byte _).trans (Platen.number_mod p)

theorem FeedUnit.length_bytes (f : FeedUnit) : f.bytes.length = 34 := by simp [FeedUnit.bytes, length_phaseBytes]

theorem FeedUnit.field_counts (f : FeedUnit) :
    field f.bytes 0 1 = f.active.length % 256 ∧ field f.bytes 1 1 = f.pointer % 256 := by simp [FeedUnit.bytes]

theorem FeedUnit.field_phases (f : FeedUnit) (n : Nat) : field f.bytes (n + 2) 1 = field (phaseBytes f.active) n 1 := by
  simp [FeedUnit.bytes]

theorem PlatenSupply.length_bytes (x : PlatenSupply) : x.bytes.length = 12 := by
  cases hd : x.dispensing <;> simp [PlatenSupply.bytes, hd]

theorem PlatenSupply.field_dispensing (x : PlatenSupply) :
    field x.bytes 0 1 = (match x.dispensing with | some _ => 1 | none => 0) ∧
      field x.bytes 1 1 = (match x.dispensing with | some r => r.val | none => 255) := by
  cases hd : x.dispensing with
  | none => simp [PlatenSupply.bytes, hd]
  | some r =>
    have := r.isLt
    simp [PlatenSupply.bytes, hd]
    omega

theorem PlatenSupply.field_counts (x : PlatenSupply) :
    field x.bytes 2 1 = x.strokes.a % 256 ∧ field x.bytes 3 1 = x.strokes.b % 256 ∧ field x.bytes 4 1 = x.strokes.c % 256 ∧
      field x.bytes 5 2 = x.demanded % 65536 ∧ field x.bytes 7 2 = x.granted % 65536 ∧
      field x.bytes 9 2 = x.lastRatio % 65536 ∧ field x.bytes 11 1 = (x.shortRun + flagBit x.short 2) % 256 := by
  cases hd : x.dispensing <;> simp [PlatenSupply.bytes, hd, field_beyond, field_leBytes]

section
variable (s : State)

/-- The 80 bytes of SLURRY-READ before the feeds (R125). -/
def State.slurryHead : List Byte :=
  s.rowsBytes ++ s.volumeBytes ++ [byte (loadCode s.load), byte s.staged.length] ++ phaseBytes s.staged

theorem slurryBytes_eq :
    s.slurryBytes = s.slurryHead ++ (feedList.map fun f => (s.feeds.get f).bytes).flatten ++
      (platens.map fun p => (s.supply.get p).bytes).flatten := by
  simp [State.slurryBytes, State.slurryHead, feedList, platens, PerFeed.get, PerPlaten.get]

theorem volumeBytes_eq : s.volumeBytes = (feedList.map fun f => leBytes 2 (s.feeds.get f).volume).flatten := by
  simp [State.volumeBytes, feedList, PerFeed.get]

theorem length_rowsBytes : s.rowsBytes.length = 40 := by
  rw [State.rowsBytes, length_flatten_blocks BlendRow.length_bytes, Vector.length_toList]

theorem length_volumeBytes : s.volumeBytes.length = 6 := by simp [State.volumeBytes]

theorem length_slurryHead : s.slurryHead.length = 80 := by
  simp [State.slurryHead, length_rowsBytes, length_volumeBytes, length_phaseBytes]

theorem length_feedBytes : ((feedList.map fun f => (s.feeds.get f).bytes).flatten).length = 102 :=
  length_flatten_blocks (fun f => (s.feeds.get f).length_bytes) _

theorem length_slurryBytes : s.slurryBytes.length = 218 := by
  rw [slurryBytes_eq, List.length_append, List.length_append, length_slurryHead, length_feedBytes,
    length_flatten_blocks fun p => (s.supply.get p).length_bytes]
  rfl

theorem slurryBytes_head {place n : Nat} (fits : place + n ≤ 80) :
    field s.slurryBytes place n = field s.slurryHead place n := by
  rw [slurryBytes_eq, List.append_assoc, field_within _ _ _ _ (by rwa [length_slurryHead])]

theorem slurryBytes_row (r : Fin 8) {k n place : Nat} (fits : k + n ≤ 5) (at' : place = 5 * r.val + k) :
    field s.slurryBytes place n = field (s.row r).bytes k n := by
  rw [slurryBytes_head s (by omega), State.slurryHead, List.append_assoc, List.append_assoc]
  exact field_block_first BlendRow.length_bytes _ fits (getElem?_toList_slotAt _ r) at'

theorem slurryBytes_load : field s.slurryBytes 46 1 = loadCode s.load := by
  have below : loadCode s.load < 256 := by
    cases s.load with
    | none => decide
    | some taken =>
      have ha := flagBit_le taken.a 1
      have hb := flagBit_le taken.b 2
      have hc := flagBit_le taken.c 3
      simp only [loadCode]
      omega
  rw [slurryBytes_head s (by omega), State.slurryHead]
  simp [field_beyond, length_rowsBytes, length_volumeBytes, below]

theorem slurryBytes_length : field s.slurryBytes 47 1 = s.staged.length % 256 := by
  rw [slurryBytes_head s (by omega), State.slurryHead]
  simp [field_beyond, length_rowsBytes, length_volumeBytes]

theorem slurryBytes_staged {n : Nat} (h : n < 32) : field s.slurryBytes (48 + n) 1 = field (phaseBytes s.staged) n 1 := by
  have before : (s.rowsBytes ++ s.volumeBytes ++ [byte (loadCode s.load), byte s.staged.length]).length = 48 := by
    simp [length_rowsBytes, length_volumeBytes]
  rw [slurryBytes_head s (by omega), State.slurryHead, field_beyond _ _ _ _ (by omega), before, Nat.add_sub_cancel_left]

section
variable {i : Nat} {f : Feed} (order : feedList[i]? = some f)
include order

theorem slurryBytes_volume : field s.slurryBytes (40 + 2 * i) 2 = (s.feeds.get f).volume % 65536 := by
  have low : i < 3 := (List.getElem?_eq_some_iff.1 order).1
  rw [slurryBytes_head s (by omega), State.slurryHead, List.append_assoc, volumeBytes_eq]
  exact (field_block (fun _ => length_leBytes 2 _) _ (Nat.le_refl (0 + 2)) order (length_rowsBytes s) rfl).trans
    (field_leBytes_last 2 _)

theorem slurryBytes_feed {k n place : Nat} (fits : k + n ≤ 34) (at' : place = 80 + 34 * i + k) :
    field s.slurryBytes place n = field (s.feeds.get f).bytes k n := by
  rw [slurryBytes_eq]
  exact field_block (fun f => (s.feeds.get f).length_bytes) _ fits order (length_slurryHead s) at'

end

theorem slurryBytes_supply (p : Platen) {k n place : Nat} (fits : k + n ≤ 12) (at' : place = 182 + 12 * p.number + k) :
    field s.slurryBytes place n = field (s.supply.get p).bytes k n := by
  rw [slurryBytes_eq]
  exact field_block_last (fun p => (s.supply.get p).length_bytes) fits (getElem?_platens p)
    (by rw [List.length_append, length_slurryHead, length_feedBytes]) at'

end

/-! ### Conditioning state (R139, R141) -/

theorem Segment.length_bytes (g : Segment) : g.bytes.length = 4 := by simp [Segment.bytes]

theorem Segment.field_bytes (g : Segment) :
    field g.bytes 0 2 = g.dwell % 65536 ∧ field g.bytes 2 2 = g.force % 65536 := by
  simp [Segment.bytes, field_beyond, field_leBytes, field_leBytes_last]

theorem length_profileBytes (pr : Profile) : (profileBytes pr).length = 41 := by simp [profileBytes]

theorem profileBytes_count (pr : Profile) : field (profileBytes pr) 0 1 = pr.length % 256 := by simp [profileBytes]

/-- The segments of a profile stand behind its count, with zeros beyond them. -/
theorem profileBytes_segments (pr : Profile) {place n : Nat} (fits : place + n ≤ 40) :
    field (profileBytes pr) (place + 1) n = field ((pr.map Segment.bytes).flatten ++ List.replicate 40 0#8) place n := by
  rw [profileBytes, field_cons_succ, padTo, field_take _ _ _ _ fits]

theorem profileBytes_segment {pr : Profile} {j : Nat} {g : Segment} (here : pr[j]? = some g) (low : j < 10) {k n place : Nat}
    (fits : k + n ≤ 4) (at' : place = 1 + 4 * j + k) : field (profileBytes pr) place n = field g.bytes k n := by
  obtain rfl : place = (4 * j + k) + 1 := by omega
  rw [profileBytes_segments pr (by omega)]
  exact field_block_first Segment.length_bytes _ fits here rfl

theorem profileBytes_beyond {pr : Profile} {j : Nat} (beyond : pr[j]? = none) (low : j < 10) {k n place : Nat}
    (fits : k + n ≤ 4) (at' : place = 1 + 4 * j + k) : field (profileBytes pr) place n = 0 := by
  obtain rfl : place = (4 * j + k) + 1 := by omega
  have past : pr.length ≤ j := List.getElem?_eq_none_iff.1 beyond
  rw [profileBytes_segments pr (by omega),
    field_beyond _ _ _ _ (by rw [length_flatten_blocks Segment.length_bytes]; omega), field_zeros]

theorem GlazeSettings.length_bytes (g : GlazeSettings) : g.bytes.length = 3 := by simp [GlazeSettings.bytes]

theorem GlazeSettings.field_bytes (g : GlazeSettings) :
    field g.bytes 0 1 = g.rate % 256 ∧ field g.bytes 1 2 = g.floor % 65536 := by
  simp [GlazeSettings.bytes, field_leBytes_last]

theorem Service.length_bytes (x : Service) : x.bytes.length = 2 := by cases x <;> rfl

theorem Service.field_bytes (x : Service) :
    field x.bytes 0 1 = (match x with | .none => 0 | .inSitu _ => 1 | .exSitu _ => 2) ∧
      field x.bytes 1 1 = (match x with | .none => 255 | .inSitu q => q.val | .exSitu q => q.val) := by
  cases x with
  | none => simp [Service.bytes]
  | inSitu q => simp [Service.bytes]; omega
  | exSitu q => simp [Service.bytes]; omega

theorem Arm.length_bytes (a : Arm) : a.bytes.length = 9 := by simp [Arm.bytes, Service.length_bytes]

theorem Arm.field_service (a : Arm) : field a.bytes 1 1 = field a.service.bytes 0 1 ∧
    field a.bytes 2 1 = field a.service.bytes 1 1 := by
  simp [Arm.bytes, field_within, Service.length_bytes]

theorem Arm.field_bytes (a : Arm) :
    field a.bytes 0 1 = (if a.sweeping then 1 else 0) ∧ field a.bytes 3 1 = a.segment % 256 ∧
      field a.bytes 4 1 = (match a.direction with | .outward => 0 | .inward => 1) ∧ field a.bytes 5 1 = a.exSitu % 256 ∧
      field a.bytes 6 2 = a.glaze % 65536 ∧ field a.bytes 8 1 = (if 0 < a.exSitu then 1 else 0) := by
  refine ⟨?_, ?_, ?_, ?_, ?_, ?_⟩
  · cases hw : a.sweeping <;> simp [Arm.bytes, hw]
  · simp [Arm.bytes, field_beyond, Service.length_bytes]
  · cases hd : a.direction <;> simp [Arm.bytes, hd, field_beyond, Service.length_bytes]
  · simp [Arm.bytes, field_beyond, Service.length_bytes]
  · simp [Arm.bytes, field_beyond, field_leBytes, Service.length_bytes]
  · by_cases b : 0 < a.exSitu <;> simp [Arm.bytes, field_beyond, Service.length_bytes, Arm.busy, flagBit, b]

section
variable (s : State)

theorem conditioningBytes_eq :
    s.conditioningBytes = s.profilesBytes ++ (platens.map fun p => (s.glazeSettings.get p).bytes).flatten ++
      (platens.map fun p => (s.arms.get p).bytes).flatten := by
  simp [State.conditioningBytes, State.glazeBytes, platens, PerPlaten.get]

theorem length_profilesBytes : s.profilesBytes.length = 164 := by
  rw [State.profilesBytes, length_flatten_blocks length_profileBytes, Vector.length_toList]

theorem length_glazeBytes : ((platens.map fun p => (s.glazeSettings.get p).bytes).flatten).length = 9 :=
  length_flatten_blocks (fun p => (s.glazeSettings.get p).length_bytes) _

theorem length_conditioningBytes : s.conditioningBytes.length = 200 := by
  rw [conditioningBytes_eq, List.length_append, List.length_append, length_profilesBytes, length_glazeBytes,
    length_flatten_blocks fun p => (s.arms.get p).length_bytes]
  rfl

theorem conditioningBytes_profile (q : Fin 4) {k n place : Nat} (fits : k + n ≤ 41) (at' : place = 41 * q.val + k) :
    field s.conditioningBytes place n = field (profileBytes (s.profile q)) k n := by
  rw [conditioningBytes_eq, List.append_assoc]
  exact field_block_first length_profileBytes _ fits (getElem?_toList_slotAt _ q) at'

theorem conditioningBytes_glaze (p : Platen) {k n place : Nat} (fits : k + n ≤ 3) (at' : place = 164 + 3 * p.number + k) :
    field s.conditioningBytes place n = field (s.glazeSettings.get p).bytes k n := by
  rw [conditioningBytes_eq]
  exact field_block (fun p => (s.glazeSettings.get p).length_bytes) _ fits (getElem?_platens p) (length_profilesBytes s) at'

theorem conditioningBytes_arm (p : Platen) {k n place : Nat} (fits : k + n ≤ 9) (at' : place = 173 + 9 * p.number + k) :
    field s.conditioningBytes place n = field (s.arms.get p).bytes k n := by
  rw [conditioningBytes_eq]
  exact field_block_last (fun p => (s.arms.get p).length_bytes) fits (getElem?_platens p)
    (by rw [List.length_append, length_profilesBytes, length_glazeBytes]) at'

end

/-! ### The checks of the three reads -/

theorem headReadCheck_length {payload : List Byte} (h : payload.length ≠ 1) (s : State) :
    headReadCheck payload s = .error .badLength := if_pos h

theorem headReadCheck_range {hd : Byte} (h : 3 < hd.toNat) (s : State) : headReadCheck [hd] s = .error .badParam := by
  simp [headReadCheck, Head.ofNumber_eq_none h]

theorem headReadCheck_head (h : Head) (s : State) : headReadCheck [byte h.number] s = .ok h := by
  simp [headReadCheck, Head.ofNumber_number]

theorem emptyPayload_length {payload : List Byte} (h : payload ≠ []) (rest : Except Status Unit) :
    emptyPayload payload rest = .error .badLength := if_pos (by simpa using h)

section
variable {s : State} {dt : Nat} {tag : Byte}

theorem Offers.answers_headRead {h : Head} (o : Offers s .headRead tag [byte h.number]) :
    Answers (.headRead dt) s (s.elapse dt) tag .ok (s.headBytes h) :=
  o.answers_ok (rule := headReadRule) rfl (headReadCheck_head h (s.elapse dt))

theorem Offers.answers_slurryRead (o : Offers s .slurryRead tag []) :
    Answers (.slurryRead dt) s (s.elapse dt) tag .ok s.slurryBytes :=
  o.answers_ok (rule := slurryReadRule) (a := ()) rfl rfl

theorem Offers.answers_conditioningRead (o : Offers s .conditioningRead tag []) :
    Answers (.conditioningRead dt) s (s.elapse dt) tag .ok s.conditioningBytes :=
  o.answers_ok (rule := conditioningReadRule) (a := ()) rfl rfl

end

/-- Settles O39: each of the three replies is laid out in parts of known lengths, so a field of the reply is a field of the part
it stands in, and that is the value the part writes. -/
theorem stationReads : Obligations.StationReads := by
  intro s dt tag payload now
  refine ⟨fun o => ⟨fun length => ?_, fun hd named range => ?_, fun h named => ?_⟩,
    fun o => ⟨fun filled => ?_, fun empty => ?_⟩, fun o => ⟨fun filled => ?_, fun empty => ?_⟩⟩
  · exact o.answers_error (rule := headReadRule) rfl (headReadCheck_length length now)
  · subst named
    exact o.answers_error (rule := headReadRule) rfl (headReadCheck_range range now)
  · subst named
    refine ⟨s.headBytes h, o.answers_headRead, length_headBytes s h, headBytes_number s h, ?_,
      fun i c order => ?_⟩
    · obtain ⟨deadband, kp, pulseMax, deadTime⟩ := (s.headSettings.get h).drive.field_bytes
      exact ⟨(headBytes_drive s h (by decide)).trans deadband, (headBytes_drive s h (by decide)).trans kp,
        (headBytes_drive s h (by decide)).trans pulseMax, (headBytes_drive s h (by decide)).trans deadTime⟩
    · obtain ⟨wmin, wmax, span, zero⟩ := ((s.headSettings.get h).chans.get c).field_bytes
      obtain ⟨mode, setpoint, latest, flags⟩ := (s.channel h c).field_bytes
      have setting {k n place : Nat} := headBytes_settings s h order (k := k) (n := n) (place := place)
      have live {k n place : Nat} := headBytes_channel s h order (k := k) (n := n) (place := place)
      exact ⟨(setting (by decide) (by omega)).trans wmin, (setting (by decide) (by omega)).trans wmax,
        (setting (by decide) (by omega)).trans span, (setting (by decide) (by omega)).trans zero,
        (live (by decide) (by omega)).trans mode, (live (by decide) (by omega)).trans setpoint,
        (live (by decide) (by omega)).trans latest, (live (by decide) (by omega)).trans flags⟩
  · exact o.answers_error (rule := slurryReadRule) rfl (emptyPayload_length filled _)
  · subst empty
    refine ⟨s.slurryBytes, o.answers_slurryRead, length_slurryBytes s, fun r => ?_, slurryBytes_load s,
      slurryBytes_length s, fun n low => (slurryBytes_staged s low).trans (field_phaseBytes _ low), fun i f order => ?_,
      fun p => ?_⟩
    · obtain ⟨flow, partA, partB, partC⟩ := (s.row r).field_bytes
      exact ⟨(slurryBytes_row s r (by decide) (by omega)).trans flow, (slurryBytes_row s r (by decide) (by omega)).trans partA,
        (slurryBytes_row s r (by decide) (by omega)).trans partB, (slurryBytes_row s r (by decide) (by omega)).trans partC⟩
    · obtain ⟨length, pointer⟩ := (s.feeds.get f).field_counts
      refine ⟨slurryBytes_volume s order, (slurryBytes_feed s order (by decide) (by omega)).trans length,
        (slurryBytes_feed s order (by decide) (by omega)).trans pointer, fun n low => ?_⟩
      rw [slurryBytes_feed s order (k := n + 2) (by omega) (by omega), FeedUnit.field_phases]
      exact field_phaseBytes _ low
    · obtain ⟨on, row⟩ := (s.supply.get p).field_dispensing
      obtain ⟨a, b, c, demanded, granted, ratio, short⟩ := (s.supply.get p).field_counts
      intro x o
      have part {k n : Nat} (fits : k + n ≤ 12) : field s.slurryBytes (o + k) n = field x.bytes k n :=
        slurryBytes_supply s p fits rfl
      exact ⟨(part (k := 0) (by decide)).trans on, (part (by decide)).trans row, (part (by decide)).trans a,
        (part (by decide)).trans b, (part (by decide)).trans c, (part (by decide)).trans demanded,
        (part (by decide)).trans granted, (part (by decide)).trans ratio, (part (by decide)).trans short⟩
  · exact o.answers_error (rule := conditioningReadRule) rfl (emptyPayload_length filled _)
  · subst empty
    refine ⟨s.conditioningBytes, o.answers_conditioningRead, length_conditioningBytes s, fun q => ?_, fun p => ?_⟩
    · refine ⟨(conditioningBytes_profile s q (by decide) rfl).trans (profileBytes_count _), fun n low => ?_⟩
      rw [conditioningBytes_profile s q (k := 1 + 4 * n) (by omega) (by omega),
        conditioningBytes_profile s q (k := 3 + 4 * n) (by omega) (by omega)]
      cases here : (s.profile q)[n]? with
      | none =>
        exact ⟨profileBytes_beyond here low (k := 0) (by decide) rfl,
          profileBytes_beyond here low (k := 2) (by decide) (by omega)⟩
      | some g =>
        obtain ⟨dwell, force⟩ := g.field_bytes
        exact ⟨(profileBytes_segment here low (k := 0) (by decide) rfl).trans dwell,
          (profileBytes_segment here low (k := 2) (by decide) (by omega)).trans force⟩
    · obtain ⟨rate, floor⟩ := (s.glazeSettings.get p).field_bytes
      obtain ⟨sweeping, segment, direction, exSitu, glaze, busy⟩ := (s.arms.get p).field_bytes
      obtain ⟨service, profile⟩ := (s.arms.get p).field_service
      obtain ⟨kind, index⟩ := (s.arms.get p).service.field_bytes
      intro a o
      have part {k n : Nat} (fits : k + n ≤ 9) : field s.conditioningBytes (o + k) n = field a.bytes k n :=
        conditioningBytes_arm s p fits rfl
      exact ⟨(conditioningBytes_glaze s p (k := 0) (by decide) rfl).trans rate,
        (conditioningBytes_glaze s p (k := 1) (by decide) (by omega)).trans floor,
        (part (k := 0) (by decide)).trans sweeping, ((part (by decide)).trans service).trans kind,
        ((part (by decide)).trans profile).trans index, (part (by decide)).trans segment, (part (by decide)).trans direction,
        (part (by decide)).trans exSitu, (part (by decide)).trans glaze, (part (by decide)).trans busy⟩

end Machine

end Sys2Proof

/-! SUPPORT. The searches of the Item Table (R87, R89), the checks that name an item by its id (R98) and the positions in use
(R101). -/

namespace Sys2Proof.Machine

/-! ### The Item Table -/

@[simp] theorem item_elapse (s : State) (dt : Nat) (j : ItemSlot) : (s.elapse dt).item j = s.item j := rfl

theorem itemSlots_eq_finRange : itemSlots = List.finRange 16 := by decide

theorem freeItemSlot_eq_some {s : State} {j : ItemSlot} (free : s.item j = none) (low : ∀ i, i < j → s.item i ≠ none) :
    s.freeItemSlot = some j := by
  unfold State.freeItemSlot
  rw [itemSlots_eq_finRange, find?_finRange_eq_some]
  exact ⟨by simp [free], fun i lt => by simpa [Option.isSome_iff_ne_none] using low i lt⟩

theorem freeItemSlot_eq_none {s : State} (full : ∀ j, s.item j ≠ none) : s.freeItemSlot = none :=
  List.find?_eq_none.2 fun j _ => by simpa using full j

theorem findItem_eq_none {s : State} {f : Item → Bool} (h : ∀ j x, s.item j = some x → f x = false) :
    s.findItem f = none := by
  rw [Option.eq_none_iff_forall_ne_some]
  intro j found
  obtain ⟨x, hx, holds⟩ := findItem_some found
  simp [h j x hx] at holds

theorem itemById_eq_none {s : State} {id : Word32} (unknown : ∀ j x, s.item j = some x → x.id ≠ id) :
    s.itemById id = none :=
  findItem_eq_none fun j x hx => decide_eq_false (unknown j x hx)

theorem itemById_isSome {s : State} {j : ItemSlot} {x : Item} (hx : s.item j = some x) :
    (s.itemById x.id).isSome = true := by
  rw [Option.isSome_iff_ne_none]
  intro none
  simpa using findItem_none none j x hx

theorem mounted_eq_none {s : State} {kind : ItemKind} {pos : Position}
    (empty : ∀ j x, s.item j = some x → x.kind = kind → x.position ≠ some pos) : s.mounted kind pos = none :=
  findItem_eq_none fun j x hx => decide_eq_false fun ⟨same, here⟩ => empty j x hx same here

/-- At most one item of a kind stands at a position (R89), so the search finds it. -/
theorem mounted_eq_some {s : State} (wf : s.itemsWf) {j : ItemSlot} {x : Item} {pos : Position} (hx : s.item j = some x)
    (here : x.position = some pos) : s.mounted x.kind pos = some j := by
  cases found : s.mounted x.kind pos with
  | none => exact absurd ⟨rfl, here⟩ (mounted_none found j x hx)
  | some k =>
    obtain ⟨y, hy, kind, there⟩ := mounted_some found
    by_contra other
    rcases (wf.2 k j y x hy hx fun e => other (congrArg some e)).2 kind with off | apart
    · simp [off] at there
    · exact apart (there.trans here.symm)

/-! ### The checks of R98 -/

section
variable {α : Type} {n : Nat} {inRange : Bool} {payload : List Byte} {s : State}
  {own : ItemSlot → Item → Except Status α}

theorem itemChecks_length (h : payload.length ≠ n) : itemChecks n inRange payload s own = .error .badLength := if_pos h

theorem itemChecks_range (length : payload.length = n) (h : wordField payload 0 = 0 ∨ inRange = false) :
    itemChecks n inRange payload s own = .error .badParam := by
  rw [itemChecks, if_neg (not_not.2 length), if_pos h]

variable (length : payload.length = n) {id : Word32} (named : wordField payload 0 = id) (nonzero : id ≠ 0)

include length named nonzero

theorem itemChecks_unknown (unknown : ∀ j x, s.item j = some x → x.id ≠ id) :
    itemChecks n true payload s own = .error .notFound := by
  rw [itemChecks, if_neg (not_not.2 length), named, if_neg (by simpa using nonzero), itemById_eq_none unknown]

/-- A payload in range that names a live item comes to the request's own checks of its record. -/
theorem itemChecks_live (wf : s.itemsWf) {j : ItemSlot} {x : Item} (hx : s.item j = some x) (holds : x.id = id) :
    itemChecks n true payload s own = own j x := by
  rw [itemChecks, if_neg (not_not.2 length), named, if_neg (by simpa using nonzero), ← holds, itemById_eq_some wf hx]
  simp only [hx]

end

theorem State.itemsWf.id_ne_zero {s : State} (wf : s.itemsWf) {j : ItemSlot} {x : Item} (hx : s.item j = some x) :
    x.id ≠ 0 := by
  obtain ⟨nonzero, -⟩ := wf.1 j x hx
  exact nonzero

theorem State.itemsWf.takes {s : State} (wf : s.itemsWf) {j : ItemSlot} {x : Item} (hx : s.item j = some x)
    {pos : Position} (here : x.position = some pos) : pos.takes x.kind = true := by
  obtain ⟨-, takes, -⟩ := wf.1 j x hx
  exact takes pos here

/-! ### Positions in use (R101) -/

theorem runningOn_isSome_iff (s : State) (p : Platen) :
    (s.runningOn p).isSome = true ↔ ∃ i r, s.pass i = some r ∧ r.onPlaten s.carousel.k p := by
  simp only [State.runningOn, findPass_isSome_iff, Pass.onPlaten_iff]

/-- For an item a position takes, in use is what R101 calls it. -/
theorem positionInUse_iff_locked (s : State) {kind : ItemKind} {pos : Position} (takes : pos.takes kind = true) :
    s.positionInUse kind pos = true ↔ s.locked pos := by
  cases pos with
  | platen p =>
    have notLot : kind = .pad ∨ kind = .disk := of_decide_eq_true takes
    rw [State.locked, ← runningOn_isSome_iff]
    rcases notLot with rfl | rfl <;> simp [State.positionInUse, Arm.busy, or_assoc]
  | feedA =>
    obtain rfl : kind = .lot := of_decide_eq_true takes
    exact ⟨nofun, False.elim⟩
  | feedB =>
    obtain rfl : kind = .lot := of_decide_eq_true takes
    exact ⟨nofun, False.elim⟩
  | head h =>
    obtain rfl : kind = .ring := of_decide_eq_true takes
    refine (holderOf_isSome_iff s h).trans ?_
    simp only [State.locked, and_comm]

end Sys2Proof.Machine

/-! SUPPORT. ITEM-REGISTER (R98, R99). -/

namespace Sys2Proof.Machine

@[simp] theorem itemSlot_mod (j : ItemSlot) : j.val % 256 = j.val := Nat.mod_eq_of_lt (by omega)

@[simp] theorem ItemKind.code_mod (k : ItemKind) : k.code % 256 = k.code := by cases k <;> rfl

@[simp] theorem ItemKind.ofCode_code (k : ItemKind) : ItemKind.ofCode k.code = some k := by cases k <;> rfl

theorem ItemKind.ofCode_eq_none : ∀ {n : Nat}, 3 < n → ItemKind.ofCode n = none
  | _ + 4, _ => rfl

theorem ItemKind.code_of_ofCode : ∀ {n : Nat} {k : ItemKind}, ItemKind.ofCode n = some k → n = k.code
  | 0, _, rfl => rfl
  | 1, _, rfl => rfl
  | 2, _, rfl => rfl
  | 3, _, rfl => rfl

theorem ItemKind.exists_code {n : Nat} (low : n ≤ 3) : ∃ k : ItemKind, n = k.code := by
  interval_cases n <;> exact ⟨_, ItemKind.code_of_ofCode rfl⟩

/-! ### Reading the record (R99) -/

/-- The record the 25 bytes of ITEM-REGISTER give an item of a kind, before its flags are worked out (R99). -/
def registered (payload : List Byte) (kind : ItemKind) : Item :=
  { id := wordField payload 0, kind, position := none, usage := field payload 5 4, limit := field payload 9 4,
    flags := ItemFlags.none, f0 := field payload 13 2, slope := field payload 15 2, volume := field payload 17 4,
    age := field payload 21 2, potLife := field payload 23 2 }

/-- The fields an item's kind does not have are 0 (R88, R99). -/
def Item.fieldsOfKind (i : Item) : Bool :=
  (i.kind.hasLimit || i.limit == 0) && (i.kind.hasFactor || (i.f0 == 0 && i.slope == 0)) &&
    (i.kind.isLot || (i.volume == 0 && i.age == 0 && i.potLife == 0))

/-- What check 2 of R99 asks of a new record: an id, F0 in its range, and the fields of its kind. -/
def Item.registrable (i : Item) : Prop := i.id ≠ 0 ∧ i.f0 ≤ 8191 ∧ i.fieldsOfKind = true

theorem readItem_eq_some {payload : List Byte} {k : ItemKind} (named : field payload 4 1 = k.code)
    (fits : (registered payload k).registrable) : readItem payload = some (registered payload k).reflagged := by
  rw [readItem, named, ItemKind.ofCode_code]
  exact if_pos fits

theorem readItem_eq_none {payload : List Byte}
    (bad : ∀ k, field payload 4 1 = k.code → ¬(registered payload k).registrable) : readItem payload = none := by
  cases named : ItemKind.ofCode (field payload 4 1) with
  | none => rw [readItem, named]
  | some k =>
    rw [readItem, named]
    exact if_neg (bad k (ItemKind.code_of_ofCode named))

/-- The refusals of check 2, by the number that codes the kind (R99). -/
theorem registrable_iff {payload : List Byte} {k : ItemKind} {kind : Nat} (named : kind = k.code) :
    (registered payload k).registrable ↔
      ¬(wordField payload 0 = 0 ∨ 3 < kind ∨ 8191 < field payload 13 2 ∨ (kind = 2 ∧ field payload 9 4 ≠ 0) ∨
        ((kind = 1 ∨ kind = 3) ∧ (field payload 13 2 ≠ 0 ∨ field payload 15 2 ≠ 0)) ∨
        (kind ≠ 2 ∧ (field payload 17 4 ≠ 0 ∨ field payload 21 2 ≠ 0 ∨ field payload 23 2 ≠ 0))) := by
  subst named
  cases k <;>
    simp [Item.registrable, Item.fieldsOfKind, registered, ItemKind.code, ItemKind.hasLimit, ItemKind.hasFactor,
      ItemKind.isLot, and_assoc]

/-! ### The checks of ITEM-REGISTER (R99) -/

theorem itemRegisterCheck_length {payload : List Byte} (h : payload.length ≠ 25) (s : State) :
    itemRegisterCheck payload s = .error .badLength := if_pos h

section
variable {payload : List Byte} (length : payload.length = 25)

include length

theorem itemRegisterCheck_unread (unread : readItem payload = none) (s : State) :
    itemRegisterCheck payload s = .error .badParam := by
  simp [itemRegisterCheck, length, unread]

variable {i : Item} (read : readItem payload = some i) {s : State}

include read

theorem itemRegisterCheck_duplicate {j : ItemSlot} {x : Item} (hx : s.item j = some x) (same : x.id = i.id) :
    itemRegisterCheck payload s = .error .duplicate := by
  simp [itemRegisterCheck, length, read, ← same, itemById_isSome hx]

variable (new : s.itemById i.id = none)

include new

theorem itemRegisterCheck_full (full : s.freeItemSlot = none) : itemRegisterCheck payload s = .error .tableFull := by
  simp [itemRegisterCheck, length, read, new, full]

theorem itemRegisterCheck_accepts {j : ItemSlot} (free : s.freeItemSlot = some j) :
    itemRegisterCheck payload s = .ok (j, i) := by
  simp [itemRegisterCheck, length, read, new, free]

end

/-- ITEM is bit 4 of the pending causes (R174). -/
theorem raiseIf_item (s : State) (b : Bool) :
    s.raiseIf b .item = { s with attnPending := if b then s.attnPending ||| 16#9 else s.attnPending } := by
  cases b <;> rfl

/-- Settles O40: each refusal is the first check of R99 that fails, and with none failing the record read is placed. -/
theorem itemRegisterPlacesARecord : Obligations.ItemRegisterPlacesARecord := by
  intro s dt tag payload offered now id kind usage limit f0 slope volume age potLife bad known
  have refused {status : Status} (k : itemRegisterCheck payload now = .error status) :
      Answers (.itemRegister dt) s now tag status [] := offered.answers_error (rule := itemRegisterRule) rfl k
  refine ⟨fun length => refused (itemRegisterCheck_length length now), fun length isBad => ?_, fun length fine => ?_⟩
  · have unread : readItem payload = none := readItem_eq_none fun k named fits => (registrable_iff named).1 fits isBad
    exact refused (itemRegisterCheck_unread length unread now)
  · have read {k : ItemKind} (named : kind = k.code) : readItem payload = some (registered payload k).reflagged :=
      readItem_eq_some named ((registrable_iff named).2 fine)
    obtain ⟨k, named⟩ : ∃ k : ItemKind, kind = k.code :=
      ItemKind.exists_code (Nat.le_of_not_lt fun high => fine (.inr (.inl high)))
    refine ⟨?_, fun fresh => ?_⟩
    · rintro ⟨j, x, hx, same⟩
      exact refused (itemRegisterCheck_duplicate length (read named) hx same)
    have new : now.itemById id = none := itemById_eq_none fun j x hx same => fresh ⟨j, x, hx, same⟩
    refine ⟨fun full => ?_, fun j k free low named => ?_⟩
    · exact refused (itemRegisterCheck_full length (read named) new (freeItemSlot_eq_none full))
    · have named : kind = k.code := by
        rw [named]
        cases k <;> rfl
      have accepted := itemRegisterCheck_accepts length (read named) new (freeItemSlot_eq_some free low)
      have answered := offered.answers_ok (rule := itemRegisterRule) (c := .itemRegister dt) rfl accepted
      dsimp only [itemRegisterRule] at answered
      rw [raiseIf_item] at answered
      exact answered

end Sys2Proof.Machine

/-! SUPPORT. ITEM-LOOKUP and ITEM-LIST (R100, R106). -/

namespace Sys2Proof.Machine

/-! ### ITEM-LOOKUP (R100) -/

theorem Item.layout_eq_bytes (j : ItemSlot) (x : Item) : x.layout j.val = x.bytes j := by
  rcases x with ⟨id, kind, position, usage, limit, flags, f0, slope, volume, age, potLife⟩
  cases kind <;> rcases position with _ | _ | _ | _ | _ <;> rfl

theorem itemEntry_eq_take (j : ItemSlot) (x : Item) : itemEntry j x = (x.layout j.val).take 8 := by
  rw [Item.layout_eq_bytes]
  rfl

theorem liveItem_val (s : State) (j : ItemSlot) : s.liveItem j.val = (s.item j).map fun x => (j, x) := by
  simp [State.liveItem, indexBelow_val]

theorem itemLookupCheck_key {key : Byte} (h : 1 < key.toNat) (rest : List Byte) (s : State) :
    itemLookupCheck (key :: rest) s = .error .badParam := by
  have h0 : key.toNat ≠ 0 := by omega
  have h1 : key.toNat ≠ 1 := by omega
  simp [itemLookupCheck, h0, h1]

theorem itemLookupCheck_slot_length {rest : List Byte} (h : rest.length ≠ 1) (s : State) :
    itemLookupCheck (0#8 :: rest) s = .error .badLength := by
  simp [itemLookupCheck, h]

theorem itemLookupCheck_slot_range {slot : Byte} (h : 15 < slot.toNat) (s : State) :
    itemLookupCheck [0#8, slot] s = .error .badParam := by
  simp [itemLookupCheck, h]

/-- A lookup by slot answers the record there, if one is live. -/
theorem itemLookupCheck_slot (s : State) (j : ItemSlot) :
    itemLookupCheck [0#8, byte j.val] s = (s.item j).elim (.error .notFound) fun x => .ok (j, x) := by
  have range : ¬15 < j.val := by omega
  simp only [itemLookupCheck, field_cons_succ, field_cons_one, toNat_byte, itemSlot_mod, range, liveItem_val]
  cases s.item j <;> rfl

theorem itemLookupCheck_id_length {rest : List Byte} (h : rest.length ≠ 4) (s : State) :
    itemLookupCheck (1#8 :: rest) s = .error .badLength := by
  simp [itemLookupCheck, h]

theorem itemLookupCheck_id_zero {id : Word32} (zero : id = 0#32) (s : State) :
    itemLookupCheck (1#8 :: leBytes 4 id.toNat) s = .error .badParam := by
  have named : wordField (1#8 :: leBytes 4 id.toNat) 1 = 0#32 := by
    rw [wordField_cons, wordField_leBytes_last, zero]
  simp [itemLookupCheck, named]

theorem itemLookupCheck_id_unknown {s : State} {id : Word32} (nonzero : id ≠ 0#32)
    (unknown : ∀ j x, s.item j = some x → x.id ≠ id) :
    itemLookupCheck (1#8 :: leBytes 4 id.toNat) s = .error .notFound := by
  simp [itemLookupCheck, wordField_cons, wordField_leBytes_last, nonzero, itemById_eq_none unknown]

theorem itemLookupCheck_id_live {s : State} (wf : s.itemsWf) {j : ItemSlot} {x : Item} (hx : s.item j = some x) :
    itemLookupCheck (1#8 :: leBytes 4 x.id.toNat) s = .ok (j, x) := by
  have nonzero : x.id ≠ 0#32 := wf.id_ne_zero hx
  simp [itemLookupCheck, wordField_cons, wordField_leBytes_last, nonzero, itemById_eq_some wf hx, hx]

/-- A live record looked up is answered in its layout (R106). -/
theorem Offers.answers_itemLookup {s : State} {dt : Nat} {tag : Byte} {payload : List Byte} {j : ItemSlot} {x : Item}
    (offered : Offers s .itemLookup tag payload) (found : itemLookupCheck payload (s.elapse dt) = .ok (j, x)) :
    Answers (.itemLookup dt) s (s.elapse dt) tag .ok (x.layout j.val) := by
  rw [Item.layout_eq_bytes]
  exact offered.answers_ok (rule := itemLookupRule) (a := (j, x)) rfl found

/-! ### ITEM-LIST (R100) -/

theorem itemListCheck_length {payload : List Byte} (h : 1 < payload.length) (s : State) :
    itemListCheck payload s = .error .badLength := by
  have nonempty : payload.length ≠ 0 := by omega
  rw [itemListCheck, if_neg nonempty, if_pos h]

theorem itemListCheck_range {filter : Byte} (h : 3 < filter.toNat) (s : State) :
    itemListCheck [filter] s = .error .badParam := by
  simp [itemListCheck, ItemKind.ofCode_eq_none h]

/-- An ITEM-LIST payload of no byte wants every item, one of a kind's code the items of that kind. -/
theorem itemListCheck_wanted (wanted : Option ItemKind) (s : State) :
    itemListCheck (wanted.elim [] fun k => [byte k.code]) s = .ok wanted := by
  rcases wanted with _ | _ | _ | _ | _ <;> rfl

/-- The records ITEM-LIST reports: the live ones, or those of one kind, in ascending slot order. -/
def State.listedItems (s : State) (wanted : Option ItemKind) : List (ItemSlot × Item) :=
  itemSlots.filterMap fun j => ((s.item j).filter fun x => decide (wanted = none ∨ wanted = some x.kind)).map (j, ·)

theorem itemEntries_eq_listed (s : State) (wanted : Option ItemKind) :
    s.itemEntries wanted = (s.listedItems wanted).map fun a => (a.2.layout a.1.val).take 8 := by
  unfold State.itemEntries State.listedItems
  rw [List.map_filterMap]
  congr 1
  funext j
  cases s.item j with
  | none => rfl
  | some x => by_cases e : wanted = none ∨ wanted = some x.kind <;> simp [Option.filter, e, itemEntry_eq_take]

theorem mem_listedItems (s : State) (wanted : Option ItemKind) (j : ItemSlot) (x : Item) :
    (j, x) ∈ s.listedItems wanted ↔ s.item j = some x ∧ ∀ k, wanted = some k → x.kind = k := by
  have kept : (wanted = none ∨ wanted = some x.kind) ↔ ∀ k, wanted = some k → x.kind = k := by
    cases wanted <;> simp [eq_comm]
  simp only [State.listedItems, List.mem_filterMap, Option.map_eq_some_iff, Option.filter_eq_some_iff,
    decide_eq_true_iff]
  constructor
  · rintro ⟨_, -, _, ⟨live, wants⟩, ⟨⟩⟩
    exact ⟨live, kept.1 wants⟩
  · rintro ⟨live, wants⟩
    exact ⟨j, mem_itemSlots j, x, ⟨live, kept.2 wants⟩, rfl⟩

theorem listedItems_ascending (s : State) (wanted : Option ItemKind) :
    (s.listedItems wanted).Pairwise fun a b => a.1 < b.1 := by
  have ascending : itemSlots.Pairwise (· < ·) := by decide
  refine ascending.filterMap _ fun i j lt a ha b hb => ?_
  obtain ⟨x, -, rfl⟩ := Option.map_eq_some_iff.1 ha
  obtain ⟨y, -, rfl⟩ := Option.map_eq_some_iff.1 hb
  exact lt

/-- Settles O41: every check of R100 for the lookup and the list, the layout of R106, and what is listed in which order. -/
theorem itemReads : Obligations.ItemReads := by
  intro s dt tag payload now
  refine ⟨fun offered => ?_, fun offered => ?_⟩
  · have refused {status : Status} (k : itemLookupCheck payload now = .error status) :
        Answers (.itemLookup dt) s now tag status [] := offered.answers_error (rule := itemLookupRule) rfl k
    refine ⟨fun empty => refused (by rw [empty]; rfl), ?_⟩
    rintro key rest rfl
    refine ⟨fun high => refused (itemLookupCheck_key high _ _), ?_, ?_⟩
    · rintro rfl
      refine ⟨fun length => refused (itemLookupCheck_slot_length length _), ?_⟩
      rintro slot rfl
      refine ⟨fun range => refused (itemLookupCheck_slot_range range _), ?_⟩
      rintro j rfl
      have check := itemLookupCheck_slot now j
      refine ⟨fun free => ?_, fun x live => ?_⟩
      · rw [item_elapse, free] at check
        exact refused check
      · rw [item_elapse, live] at check
        exact offered.answers_itemLookup check
    · rintro rfl
      refine ⟨fun length => refused (itemLookupCheck_id_length length _), ?_⟩
      rintro id rfl
      refine ⟨fun zero => refused (itemLookupCheck_id_zero zero _),
        fun nonzero unknown => refused (itemLookupCheck_id_unknown nonzero unknown), ?_⟩
      rintro wf j x live rfl
      have wf : now.itemsWf := wf
      exact offered.answers_itemLookup (itemLookupCheck_id_live wf live)
  · refine ⟨fun long => ?_, ?_, fun wanted spelled => ?_⟩
    · exact offered.answers_error (rule := itemListRule) rfl (itemListCheck_length long now)
    · rintro filter rfl high
      exact offered.answers_error (rule := itemListRule) rfl (itemListCheck_range high now)
    · refine ⟨s.listedItems wanted, listedItems_ascending s wanted, mem_listedItems s wanted, ?_⟩
      have payload_eq : payload = wanted.elim [] fun k => [byte k.code] := by
        rw [spelled]
        rcases wanted with _ | _ | _ | _ | _ <;> rfl
      have answered := offered.answers_ok (rule := itemListRule) (c := .itemList dt) rfl
        (payload_eq ▸ itemListCheck_wanted wanted now)
      have entries : now.itemEntries wanted = (s.listedItems wanted).map fun a => (a.2.layout a.1.val).take 8 :=
        itemEntries_eq_listed now wanted
      dsimp only [itemListRule] at answered
      rw [entries, List.length_map] at answered
      exact answered

end Sys2Proof.Machine

/-! SUPPORT. ITEM-MOUNT (R98, R101, R102). -/

namespace Sys2Proof.Machine

theorem Position.ofCode_code (pos : Position) : Position.ofCode pos.code = some pos := by
  rcases pos with (_ | _ | _) | _ | _ | (_ | _ | _ | _) <;> rfl

theorem Position.ofCode_eq_none : ∀ {n : Nat}, 8 < n → Position.ofCode n = none
  | _ + 9, _ => rfl

theorem Position.exists_ofCode_iff (n : Nat) : (∃ pos, Position.ofCode n = some pos) ↔ n ≤ 8 := by
  constructor
  · rintro ⟨pos, h⟩
    by_contra high
    simp [Position.ofCode_eq_none (Nat.lt_of_not_le high)] at h
  · intro low
    interval_cases n <;> exact ⟨_, rfl⟩

theorem Position.takes_iff (pos : Position) (kind : ItemKind) :
    pos.takes kind = true ↔ match pos with
      | .platen _ => kind = .pad ∨ kind = .disk
      | .feedA => kind = .lot
      | .feedB => kind = .lot
      | .head _ => kind = .ring := by
  cases pos <;> exact decide_eq_true_iff

theorem ItemFlags.any_iff (f : ItemFlags) : f.any = true ↔ f.worn = true ∨ f.expired = true ∨ f.empty = true := by
  simp [ItemFlags.any, or_assoc]

theorem field_mountCode (id : Word32) (code : Byte) : field (leBytes 4 id.toNat ++ [code]) 4 1 = code.toNat := by
  rw [field_beyond _ _ _ _ (by simp), length_leBytes, field_cons_one]

/-! ### The checks of R98 and R101 -/

theorem itemMountCheck_length {payload : List Byte} (h : payload.length ≠ 5) (s : State) :
    itemMountCheck payload s = .error .badLength := by
  unfold itemMountCheck
  cases Position.ofCode (field payload 4 1) <;> exact itemChecks_length h

section
variable {s : State} {id : Word32} {code : Byte}

/-- With a code that names a position, a mount comes to the checks of R98. -/
theorem itemMountCheck_position {pos : Position} (place : Position.ofCode code.toNat = some pos) :
    itemMountCheck (leBytes 4 id.toNat ++ [code]) s =
      itemChecks 5 true (leBytes 4 id.toNat ++ [code]) s (mountChecks s pos) := by
  simp only [itemMountCheck, field_mountCode, place]

theorem itemMountCheck_range (h : id = 0 ∨ 8 < code.toNat) :
    itemMountCheck (leBytes 4 id.toNat ++ [code]) s = .error .badParam := by
  cases place : Position.ofCode code.toNat with
  | none =>
    simp only [itemMountCheck, field_mountCode, place]
    exact itemChecks_range rfl (.inr rfl)
  | some pos =>
    have low : ¬8 < code.toNat := Nat.not_lt.2 ((Position.exists_ofCode_iff _).1 ⟨pos, place⟩)
    rw [itemMountCheck_position place]
    exact itemChecks_range rfl (.inl ((wordField_leBytes id _).trans (h.resolve_right low)))

theorem itemMountCheck_unknown (nonzero : id ≠ 0) (low : code.toNat ≤ 8)
    (unknown : ∀ j x, s.item j = some x → x.id ≠ id) :
    itemMountCheck (leBytes 4 id.toNat ++ [code]) s = .error .notFound := by
  obtain ⟨pos, place⟩ := (Position.exists_ofCode_iff _).2 low
  rw [itemMountCheck_position place]
  exact itemChecks_unknown rfl (wordField_leBytes id _) nonzero unknown

/-- A mount of a live item to a position comes to its own checks (R101). -/
theorem itemMountCheck_live (wf : s.itemsWf) {j : ItemSlot} {x : Item} (hx : s.item j = some x) {pos : Position}
    (place : Position.ofCode code.toNat = some pos) :
    itemMountCheck (leBytes 4 x.id.toNat ++ [code]) s = mountChecks s pos j x := by
  rw [itemMountCheck_position place]
  exact itemChecks_live rfl (wordField_leBytes x.id _) (wf.id_ne_zero hx) wf hx rfl

end

/-! ### What a mount displaces (R102) -/

theorem mountedId_eq_zero {s : State} {kind : ItemKind} {pos : Position} (empty : s.mounted kind pos = none) :
    s.mountedId kind pos = 0 := by
  rw [State.mountedId, (mountedItem_eq_none_iff s kind pos).2 empty]

theorem displace_empty {s : State} {kind : ItemKind} {pos : Position} (empty : s.mounted kind pos = none) :
    s.displace kind pos = s := by
  simp only [State.displace, empty]

section
variable {s : State} {kind : ItemKind} {pos : Position} {k : ItemSlot} {y : Item} (stands : s.mounted kind pos = some k)
  (hy : s.item k = some y)

include stands hy

theorem mountedId_eq_id : s.mountedId kind pos = y.id := by
  rw [State.mountedId, mountedItem_of_mounted stands, hy]

theorem displace_mounted : s.displace kind pos = s.setItem k (some { y with position := none }) := by
  simp only [State.displace, stands, hy]

end

/-- An accepted mount acts, and the displaced id is answered. -/
theorem Offers.answers_itemMount {s : State} {dt : Nat} {tag : Byte} {payload : List Byte} {m : Mount}
    (offered : Offers s .itemMount tag payload) (accepted : itemMountCheck payload (s.elapse dt) = .ok m) :
    Answers (.itemMount dt) s ((s.elapse dt).mount m) tag .ok ((s.elapse dt).displacedId m) := by
  have answered := offered.answers_ok (rule := itemMountRule) (c := .itemMount dt) rfl accepted
  dsimp only [itemMountRule] at answered
  exact answered

/-- Settles O42: the checks of R98 and R101 one after the other, and an accepted mount by what stands at the position. -/
theorem itemMountTakesThePosition : Obligations.ItemMountTakesThePosition := by
  intro s dt tag payload offered wf now
  have wf : now.itemsWf := wf
  have refused {status : Status} (k : itemMountCheck payload now = .error status) :
      Answers (.itemMount dt) s now tag status [] := offered.answers_error (rule := itemMountRule) rfl k
  refine ⟨fun length => refused (itemMountCheck_length length now), ?_⟩
  rintro id code rfl
  refine ⟨fun range => refused (itemMountCheck_range range),
    fun nonzero low unknown => refused (itemMountCheck_unknown nonzero low unknown), ?_⟩
  rintro j x pos hx rfl named takes flagged
  have place : Position.ofCode code.toNat = some pos := by
    rw [named]
    exact pos.ofCode_code
  have own := itemMountCheck_live wf hx place
  have fits : pos.takes x.kind = true ↔ takes := pos.takes_iff x.kind
  have past (taken : takes) := own.trans (if_neg (ne_false_of_eq_true (fits.2 taken)))
  refine ⟨fun foreign => ?_, fun taken away => ?_, fun taken off sound => ?_⟩
  · exact refused (own.trans (if_pos (eq_false_of_ne_true (mt fits.1 foreign))))
  · refine refused ((past taken).trans (if_pos ?_))
    exact away.imp Option.isSome_iff_ne_none.2 (ItemFlags.any_iff _).2
  · have own := (past taken).trans (if_neg (by simpa [off, flagged, ItemFlags.any_iff] using sound))
    have inUse := positionInUse_iff_locked now (fits.2 taken)
    refine ⟨fun locked => refused (own.trans (if_pos (inUse.2 locked))), fun free => ?_⟩
    have acted := offered.answers_itemMount (own.trans (if_neg (mt inUse.1 free)))
    rw [State.mount, State.displacedId] at acted
    refine ⟨fun empty => ?_, fun k y hy kind here => ?_⟩
    · have empty : now.mounted x.kind pos = none := mounted_eq_none empty
      rwa [displace_empty empty, mountedId_eq_zero empty] at acted
    · have stands : now.mounted x.kind pos = some k := kind ▸ mounted_eq_some wf hy here
      rwa [displace_mounted stands hy, mountedId_eq_id stands hy] at acted

end Sys2Proof.Machine

/-! SUPPORT. ITEM-DISMOUNT and ITEM-RETIRE (R98, R103, R105). -/

namespace Sys2Proof.Machine

/-! ### ITEM-DISMOUNT (R103) -/

/-- The checks of ITEM-DISMOUNT on a mounted item come down to the position in use (R101, R103). -/
theorem itemDismountCheck_mounted {s : State} (wf : s.itemsWf) {j : ItemSlot} {x : Item} {pos : Position}
    (hx : s.item j = some x) (here : x.position = some pos) :
    itemDismountCheck (leBytes 4 x.id.toNat) s = if s.positionInUse x.kind pos then .error .busy else .ok (j, x) := by
  refine (itemChecks_live rfl (wordField_leBytes_last x.id) (wf.id_ne_zero hx) wf hx rfl).trans ?_
  simp only [here]

theorem itemDismountCheck_off {s : State} (wf : s.itemsWf) {j : ItemSlot} {x : Item} (hx : s.item j = some x)
    (off : x.position = none) : itemDismountCheck (leBytes 4 x.id.toNat) s = .error .wrongState := by
  refine (itemChecks_live rfl (wordField_leBytes_last x.id) (wf.id_ne_zero hx) wf hx rfl).trans ?_
  simp only [off]

theorem Position.feed_eq_none_of_takes {pos : Position} {kind : ItemKind} (takes : pos.takes kind = true)
    (notLot : kind ≠ .lot) : pos.feed = none := by
  cases pos with
  | platen p => rfl
  | feedA => exact absurd (of_decide_eq_true takes) notLot
  | feedB => exact absurd (of_decide_eq_true takes) notLot
  | head h => rfl

/-- Only a feed loses its supply when an item is dismounted (R103). -/
theorem dismount_eq (s : State) (j : ItemSlot) {x : Item} {pos : Position} (here : x.position = some pos) :
    s.dismount j x = pos.feed.elim (s.setItem j (some { x with position := none }))
      (s.setItem j (some { x with position := none })).supplyLoss := by
  rw [State.dismount, State.supplyLossAt, here]
  cases pos <;> rfl

/-! ### ITEM-RETIRE (R105) -/

theorem itemRetireCheck_live {s : State} (wf : s.itemsWf) {j : ItemSlot} {x : Item} (hx : s.item j = some x) :
    itemRetireCheck (leBytes 4 x.id.toNat) s = if x.position.isSome then .error .wrongState else .ok j :=
  itemChecks_live rfl (wordField_leBytes_last x.id) (wf.id_ne_zero hx) wf hx rfl

/-- Settles O43: the checks of R98 find the record, and its position decides what R103 and R105 do with it. -/
theorem itemDismountAndRetire : Obligations.ItemDismountAndRetire := by
  intro s dt tag payload wf now
  have wf : now.itemsWf := wf
  refine ⟨fun offered => ?_, fun offered => ?_⟩
  · have refused {status : Status} (k : itemDismountCheck payload now = .error status) :
        Answers (.itemDismount dt) s now tag status [] := offered.answers_error (rule := itemDismountRule) rfl k
    refine ⟨fun length => refused (itemChecks_length length), ?_⟩
    rintro id rfl
    have named := wordField_leBytes_last id
    refine ⟨fun zero => refused (itemChecks_range rfl (.inl (named.trans zero))),
      fun nonzero unknown => refused (itemChecks_unknown rfl named nonzero unknown), ?_⟩
    rintro j x hx rfl
    refine ⟨fun off => refused (itemDismountCheck_off wf hx off), fun pos here => ?_⟩
    intro off
    have check := itemDismountCheck_mounted wf hx here
    have inUse := positionInUse_iff_locked now (wf.takes hx here)
    refine ⟨fun locked => refused (check.trans (if_pos (inUse.2 locked))), fun free => ?_⟩
    have acted : Answers (.itemDismount dt) s (now.dismount j x) tag .ok [] :=
      offered.answers_ok (rule := itemDismountRule) rfl (check.trans (if_neg (mt inUse.1 free)))
    rw [dismount_eq now j here] at acted
    refine ⟨fun notLot => ?_, ?_, ?_⟩
    · rwa [Position.feed_eq_none_of_takes (wf.takes hx here) notLot] at acted
    · rintro rfl
      exact acted
    · rintro rfl
      exact acted
  · have refused {status : Status} (k : itemRetireCheck payload now = .error status) :
        Answers (.itemRetire dt) s now tag status [] := offered.answers_error (rule := itemRetireRule) rfl k
    refine ⟨fun length => refused (itemChecks_length length), ?_⟩
    rintro id rfl
    have named := wordField_leBytes_last id
    refine ⟨fun zero => refused (itemChecks_range rfl (.inl (named.trans zero))),
      fun nonzero unknown => refused (itemChecks_unknown rfl named nonzero unknown), ?_⟩
    rintro j x hx rfl
    have check := itemRetireCheck_live wf hx
    refine ⟨fun mounted => ?_, fun off => ?_⟩
    · exact refused (check.trans (if_pos (Option.isSome_iff_ne_none.2 mounted)))
    · exact offered.answers_ok (rule := itemRetireRule) rfl (check.trans (if_neg (by simp [off])))

end Sys2Proof.Machine

/-! SUPPORT. The demand a stroke slot adds and the advance of the phase pointer (R113, R117). -/

namespace Sys2Proof

theorem PerFeed.set_set {α : Type} (t : PerFeed α) (f : Feed) (x y : α) : (t.set f x).set f y = t.set f y := by
  cases f <;> rfl

namespace Machine

/-! ### The demand of a slot (R113) -/

/-- The thresholds beyond four are taken off the accumulator; up to four, all of it stays. -/
theorem sub_beyond_four_eq (d n h : Nat) : d - (n - 4) * h = if n ≤ 4 then d else d - (n - 4) * h := by
  split
  next few => rw [Nat.sub_eq_zero_of_le few, Nat.zero_mul, Nat.sub_zero]
  next => rfl

namespace PlatenSupply

variable (x : PlatenSupply) {f : Feed} (volume : Nat) {row : BlendRow}

/-- A row that asks for nothing of the feed adds no demand on it. -/
theorem addDemand_of_unasked (unasked : row.flow = 0 ∨ row.parts f = 0) : x.addDemand f volume row = x :=
  if_neg (by omega)

theorem addDemand_of_asked (flows : 0 < row.flow) (parts : 0 < row.parts f) :
    let h := threshold volume row
    let d := x.demand.get f + row.flow * row.parts f
    x.addDemand f volume row =
      { x with
        demand := x.demand.set f (if d / h ≤ 4 then d else d - (d / h - 4) * h)
        strokes := x.strokes.set f (if d / h ≤ 4 then d / h else 4)
        demanded := if f = .a then min 65535 (x.demanded + (d / h - x.strokes.get f)) else x.demanded } := by
  intro h d
  rw [← sub_beyond_four_eq d (d / h) h, ← Nat.min_def, Nat.min_comm (d / h) 4]
  exact if_pos ⟨flows, parts⟩

end PlatenSupply

/-- The supply of a platen once a slot of a feed has added its demand. -/
def State.askedSupply (s : State) (f : Feed) (p : Platen) : PlatenSupply :=
  let x := s.supply.get p
  match x.dispensing with
  | some row => x.addDemand f (s.feeds.get f).volume (s.row row)
  | none => x

theorem askedSupply_of_idle {s : State} {p : Platen} (f : Feed) (idle : (s.supply.get p).dispensing = none) :
    s.askedSupply f p = s.supply.get p := by
  simp only [State.askedSupply, idle]

theorem askedSupply_of_dispensing {s : State} {p : Platen} {row : Fin 8} (f : Feed)
    (busy : (s.supply.get p).dispensing = some row) :
    s.askedSupply f p = (s.supply.get p).addDemand f (s.feeds.get f).volume (s.row row) := by
  simp only [State.askedSupply, busy]

theorem addDemandOn_eq (s : State) (f : Feed) (p : Platen) : s.addDemandOn f p = s.setSupply p (s.askedSupply f p) := by
  unfold State.addDemandOn
  dsimp only
  split
  next row busy => rw [askedSupply_of_dispensing f busy]
  next idle => rw [askedSupply_of_idle f idle, State.setSupply, PerPlaten.set_get_self]

/-- The demand on one platen looks at no other platen, so all three are added to what the slot found. -/
theorem slotDemand_eq (s : State) (f : Feed) :
    s.slotDemand f = { s with supply := ⟨s.askedSupply f .p0, s.askedSupply f .p1, s.askedSupply f .p2⟩ } := by
  simp only [State.slotDemand, platens, List.foldl, addDemandOn_eq]
  rfl

theorem slotDemand_supply_get (s : State) (f : Feed) (p : Platen) : (s.slotDemand f).supply.get p = s.askedSupply f p := by
  rw [slotDemand_eq]
  cases p <;> rfl

/-! ### The advance of the phase pointer (R117) -/

theorem allTaken_iff (taken : PerFeed Bool) : allTaken taken = true ↔ ∀ g, taken.get g = true := by
  rw [allTaken, Bool.and_eq_true, Bool.and_eq_true]
  constructor
  · rintro ⟨⟨a, b⟩, c⟩ g
    cases g with
    | a => exact a
    | b => exact b
    | c => exact c
  · exact fun all => ⟨⟨all .a, all .b⟩, all .c⟩

/-- The taking that leaves no other feed to take the table is the third. -/
theorem allTaken_set_iff (taken : PerFeed Bool) (f : Feed) :
    allTaken (taken.set f true) = true ↔ ∀ g, g = f ∨ taken.get g = true := by
  simp only [allTaken_iff, PerFeed.get_set, ite_eq_left_iff, or_iff_not_imp_left]

section
variable {s : State} {f : Feed}

theorem takeTable_of_not_due (notDue : s.load = none ∨ ∃ taken, s.load = some taken ∧ taken.get f = true) :
    s.takeTable f = s := by
  unfold State.takeTable
  obtain disarmed | ⟨taken, armed, took⟩ := notDue
  · rw [disarmed]
  · simp only [armed, took, if_true]

theorem takeTable_of_due {taken : PerFeed Bool} (armed : s.load = some taken) (due : taken.get f = false) :
    s.takeTable f =
      { s with
        feeds := s.feeds.set f { s.feeds.get f with active := s.staged }
        load := if allTaken (taken.set f true) then none else some (taken.set f true) } := by
  simp [State.takeTable, armed, due, State.setFeed]

theorem advancePointer_within (within : (s.feeds.get f).pointer + 1 < (s.feeds.get f).active.length) :
    s.advancePointer f =
      { s with feeds := s.feeds.set f { s.feeds.get f with pointer := (s.feeds.get f).pointer + 1 } } :=
  if_neg (by omega)

theorem advancePointer_at_wrap (wrap : (s.feeds.get f).active.length ≤ (s.feeds.get f).pointer + 1) :
    s.advancePointer f = (s.setFeed f { s.feeds.get f with pointer := 0 }).takeTable f :=
  if_pos wrap

/-- A wrap with an armed load the feed has not yet taken: phase 0 of the staged table, and one feed fewer to wait for. -/
theorem advancePointer_taking (wrap : (s.feeds.get f).active.length ≤ (s.feeds.get f).pointer + 1)
    {taken : PerFeed Bool} (armed : s.load = some taken) (due : taken.get f = false) :
    s.advancePointer f =
      { s with
        feeds := s.feeds.set f { s.feeds.get f with pointer := 0, active := s.staged }
        load := if allTaken (taken.set f true) then none else some (taken.set f true) } := by
  rw [advancePointer_at_wrap wrap, takeTable_of_due (s := s.setFeed f _) armed due, setFeed_feeds, PerFeed.get_set_self,
    PerFeed.set_set]
  rfl

end

/-- Settles O46: each platen's demand is worked out from the state the slot found, and a wrap comes down to whether the armed
load is still due on the feed and, if so, on any other. -/
theorem slotDemandAndPointer : Obligations.SlotDemandAndPointer := by
  intro s f t u
  refine ⟨⟨?_, fun p => ?_⟩, advancePointer_within, fun wrap => ?_⟩
  · simp only [t, slotDemand_eq]
  · intro x
    have asked : t.supply.get p = s.askedSupply f p := slotDemand_supply_get s f p
    refine ⟨fun idle => asked.trans (askedSupply_of_idle f idle), fun row busy => ?_⟩
    have asked := asked.trans (askedSupply_of_dispensing f busy)
    exact ⟨fun unasked => asked.trans (x.addDemand_of_unasked _ unasked),
      fun flows parts => asked.trans (x.addDemand_of_asked _ flows parts)⟩
  · refine ⟨fun notDue => (advancePointer_at_wrap wrap).trans (takeTable_of_not_due notDue), ?_⟩
    intro taken armed due switched
    have taking := advancePointer_taking wrap armed due
    refine ⟨fun third => ?_, fun ⟨g, other, waits⟩ => ?_⟩
    · rwa [if_pos ((allTaken_set_iff taken f).2 third)] at taking
    · have left : ¬allTaken (taken.set f true) = true := fun all => by
        obtain same | took := (allTaken_set_iff taken f).1 all g
        · exact other same
        · exact Bool.noConfusion (waits.symm.trans took)
      rwa [if_neg left] at taking

end Machine

end Sys2Proof

/-! SUPPORT. PROFILE-WRITE and PLATEN-WRITE (R139, R140). -/

namespace Sys2Proof.Machine

/-! ### Reading segments (R139) -/

theorem Segment.inRange_iff (g : Segment) : g.inRange = true ↔ 10 ≤ g.dwell ∧ g.dwell ≤ 5000 ∧ g.force ≤ 500 := by
  simp [Segment.inRange, within_iff, and_assoc]

/-- A segment whose numbers fit their bytes is the one its bytes spell, whatever follows them. -/
theorem Segment.fields_of_bytes {g : Segment} (fits : g.dwell < 65536 ∧ g.force < 65536) (rest : List Byte) :
    (⟨field (g.bytes ++ rest) 0 2, field (g.bytes ++ rest) 2 2⟩ : Segment) = g := by
  obtain ⟨dwell, force⟩ := g.field_bytes
  have size := g.length_bytes
  rw [field_within _ _ _ _ (by omega), field_within _ _ _ _ (by omega), dwell, force, Nat.mod_eq_of_lt fits.1,
    Nat.mod_eq_of_lt fits.2]

/-- The bytes of a profile are read back as the profile when every segment is in range, and not at all otherwise. -/
theorem readSegments_bytes (pr : Profile) (fits : ∀ g ∈ pr, g.dwell < 65536 ∧ g.force < 65536) :
    readSegments pr.length (pr.map Segment.bytes).flatten = if pr.all Segment.inRange then some pr else none := by
  induction pr with
  | nil => rfl
  | cons g rest ih =>
    obtain ⟨first, others⟩ := List.forall_mem_cons.1 fits
    have behind : (g.bytes ++ (rest.map Segment.bytes).flatten).drop 4 = (rest.map Segment.bytes).flatten :=
      List.drop_left' g.length_bytes
    rw [List.length_cons, List.map_cons, List.flatten_cons, readSegments, behind, ih others, List.all_cons,
      Segment.fields_of_bytes first]
    by_cases good : rest.all Segment.inRange = true <;> simp [good]

/-! ### The checks of PROFILE-WRITE (R139) -/

theorem profileInUse_iff (s : State) (q : Fin 4) :
    s.profileInUse q = true ↔ ∃ p, (s.arms.get p).service = .inSitu q ∨ (s.arms.get p).service = .exSitu q := by
  have named (x : Service) : x.profile = some q ↔ x = .inSitu q ∨ x = .exSitu q := by cases x <;> simp [Service.profile]
  simp [State.profileInUse, mem_platens, named]

theorem profileWriteCheck_short {payload : List Byte} (h : payload.length < 2) (s : State) :
    profileWriteCheck payload s = .error .badLength := if_pos h

section
variable {q n : Byte} {rest : List Byte}

theorem profileWriteCheck_range (h : 3 < q.toNat ∨ n.toNat < 1 ∨ 10 < n.toNat) (s : State) :
    profileWriteCheck (q :: n :: rest) s = .error .badParam := by
  rcases Nat.lt_or_ge 3 q.toNat with high | low
  · simp [profileWriteCheck, indexBelow_of_le high]
  · have outside : within 1 10 n.toNat = false := decide_eq_false (by omega)
    simp [profileWriteCheck, indexBelow_of_lt (Nat.lt_succ_of_le low), outside]

variable (count : 1 ≤ n.toNat ∧ n.toNat ≤ 10)

include count

theorem profileWriteCheck_length (low : q.toNat ≤ 3) (h : rest.length ≠ 4 * n.toNat) (s : State) :
    profileWriteCheck (q :: n :: rest) s = .error .badLength := by
  have wrong : rest.length + 2 ≠ 2 + 4 * n.toNat := by omega
  simp [profileWriteCheck, indexBelow_of_lt (Nat.lt_succ_of_le low), (within_iff 1 10 _).2 count, wrong]

/-- Past the length checks what is left is to read the segments and to find the profile in no service (R139). -/
theorem profileWriteCheck_read (length : rest.length = 4 * n.toNat) (i : Fin 4) (s : State) :
    profileWriteCheck (byte i.val :: n :: rest) s = (readSegments n.toNat rest).elim (.error .badParam) fun pr =>
      if s.profileInUse i then .error .busy else .ok (i, pr) := by
  have index : i.val % 256 = i.val := Nat.mod_eq_of_lt (by omega)
  cases read : readSegments n.toNat rest <;>
    simp [profileWriteCheck, index, indexBelow_val, (within_iff 1 10 _).2 count, length, Nat.add_comm 2, read]

/-- A payload that spells a profile: refused when a segment is out of range, else when the profile is in use, else taken. -/
theorem profileWriteCheck_profile {pr : Profile} (size : pr.length = n.toNat)
    (fits : ∀ g ∈ pr, g.dwell < 65536 ∧ g.force < 65536) (i : Fin 4) (s : State) :
    profileWriteCheck (byte i.val :: n :: (pr.map Segment.bytes).flatten) s =
      if ¬∀ g ∈ pr, g.inRange = true then .error .badParam
      else if s.profileInUse i then .error .busy else .ok (i, pr) := by
  have length := length_flatten_blocks Segment.length_bytes pr
  rw [profileWriteCheck_read count (by rw [length, size]), ← size, readSegments_bytes pr fits]
  by_cases good : ∀ g ∈ pr, g.inRange = true
  · rw [if_pos (List.all_eq_true.2 good), if_neg (not_not.2 good)]
    rfl
  · rw [if_neg (mt List.all_eq_true.1 good), if_pos good]
    rfl

end

/-! ### The checks of PLATEN-WRITE (R140) -/

theorem platenWriteCheck_length {payload : List Byte} (h : payload.length ≠ 4) (s : State) :
    platenWriteCheck payload s = .error .badLength := if_pos h

theorem Platen.ofNumber_eq_none : ∀ {n : Nat}, 2 < n → Platen.ofNumber n = none
  | _ + 3, _ => rfl

section
variable (rate lo hi : Byte)

/-- The three bytes behind the platen are its glaze settings when the floor is at most 4,096 (R140). -/
theorem readGlaze_bytes :
    readGlaze [rate, lo, hi] = if le2 lo hi ≤ 4096 then some ⟨rate.toNat, le2 lo hi⟩ else none := by
  have floor : field [rate, lo, hi] 1 2 = le2 lo hi := by rw [field_cons_succ, field_cons_two, le2]
  simp only [readGlaze, floor, field_cons_one]
  exact if_congr (by simp [within_iff]) rfl rfl

variable {rate lo hi}

theorem platenWriteCheck_range {n : Byte} (h : 2 < n.toNat ∨ 4096 < le2 lo hi) (s : State) :
    platenWriteCheck [n, rate, lo, hi] s = .error .badParam := by
  rcases h with high | high
  · simp [platenWriteCheck, Platen.ofNumber_eq_none high]
  · simp [platenWriteCheck, readGlaze_bytes, Nat.not_le.2 high]

theorem platenWriteCheck_accepts (p : Platen) (floor : le2 lo hi ≤ 4096) (s : State) :
    platenWriteCheck [byte p.number, rate, lo, hi] s = .ok (p, ⟨rate.toNat, le2 lo hi⟩) := by
  simp [platenWriteCheck, readGlaze_bytes, floor]

end

/-- Settles O50: each refusal is the first check of R139 or R140 that fails, and with none failing the profile or the glaze
settings read are the ones kept. -/
theorem conditioningSettings : Obligations.ConditioningSettings := by
  intro s dt tag payload now
  constructor
  · intro offered
    have refused {status : Status} (k : profileWriteCheck payload now = .error status) :
        Answers (.profileWrite dt) s now tag status [] := offered.answers_error (rule := profileWriteRule) rfl k
    refine ⟨fun short => refused (profileWriteCheck_short short now), ?_⟩
    rintro q n rest rfl
    refine ⟨fun outside => refused (profileWriteCheck_range outside now), fun low h1 h10 => ?_⟩
    refine ⟨fun length => refused (profileWriteCheck_length ⟨h1, h10⟩ low length now), ?_⟩
    rintro i pr rfl size fits rfl good inUse
    have judged := profileWriteCheck_profile ⟨h1, h10⟩ size fits i now
    simp only [Segment.inRange_iff] at judged
    have used : now.profileInUse i = true ↔ inUse := profileInUse_iff now i
    refine ⟨fun bad => ?_, fun fine busy => ?_, fun fine unused => ?_⟩
    · exact refused (judged.trans (if_pos bad))
    · exact refused (judged.trans ((if_neg (not_not.2 fine)).trans (if_pos (used.2 busy))))
    · exact offered.answers_ok (rule := profileWriteRule) rfl
        (judged.trans ((if_neg (not_not.2 fine)).trans (if_neg (mt used.1 unused))))
  · intro offered
    have refused {status : Status} (k : platenWriteCheck payload now = .error status) :
        Answers (.platenWrite dt) s now tag status [] := offered.answers_error (rule := platenWriteRule) rfl k
    refine ⟨fun length => refused (platenWriteCheck_length length now), ?_⟩
    rintro n rate lo hi rfl
    refine ⟨fun outside => refused (platenWriteCheck_range outside now), ?_⟩
    rintro p rfl floor
    exact offered.answers_ok (rule := platenWriteRule) rfl (platenWriteCheck_accepts p floor now)

end Sys2Proof.Machine

/-! SUPPORT. What a hold cause leaves in each block (R75, R111, R133, R156, R157), and PASS-HOLD (R161, R162). -/

namespace Sys2Proof.Machine

/-! ### The hold-cause set (R156) -/

theorem HoldSet.has_add (x : HoldSet) (c d : HoldCause) : (x.add c).has d = true ↔ x.has d = true ∨ d = c := by
  cases c <;> cases d <;> simp [HoldSet.add, HoldSet.has]

/-! ### The blocks that serve a held step (R157) -/

theorem parkInSitu_arms (s : State) (p : Platen) :
    (s.parkInSitu p).arms = match (s.arms.get p).service with
      | .inSitu _ => if (s.arms.get p).sweeping then s.arms.set p (s.arms.get p).parked else s.arms
      | _ => s.arms := by
  dsimp only [State.parkInSitu]
  cases (s.arms.get p).service with
  | none => rfl
  | inSitu q => cases (s.arms.get p).sweeping <;> rfl
  | exSitu q => rfl

theorem parkInSitu_others (s : State) (p : Platen) :
    (s.parkInSitu p).channels = s.channels ∧ (s.parkInSitu p).supply = s.supply ∧ (s.parkInSitu p).items = s.items := by
  simp only [State.parkInSitu]
  split <;> exact ⟨rfl, rfl, rfl⟩

section
variable {r : Pass} {h : Head} {st : StepProgram} (hst : r.step = some st) (hh : r.head = some h)

include hst hh

theorem suspendService_eq (s : State) :
    s.suspendService r = ((s.ventHead h).stopDispensing st.platen).parkInSitu st.platen := by
  simp only [State.suspendService, hst, hh]

theorem suspendService_vented (s : State) : Vented s (s.suspendService r) h := by
  rw [suspendService_eq hst hh]
  exact (ventHead_vented s h).of_channels (parkInSitu_others _ _).1

theorem suspendService_supply (s : State) :
    (s.suspendService r).supply = s.supply.set st.platen (s.supply.get st.platen).stopped := by
  rw [suspendService_eq hst hh]
  exact (parkInSitu_others _ _).2.1

theorem suspendService_items (s : State) : (s.suspendService r).items = s.items := by
  rw [suspendService_eq hst hh]
  exact (parkInSitu_others _ _).2.2

theorem suspendService_arms (s : State) :
    (s.suspendService r).arms = match (s.arms.get st.platen).service with
      | .inSitu _ =>
        if (s.arms.get st.platen).sweeping then s.arms.set st.platen (s.arms.get st.platen).parked else s.arms
      | _ => s.arms := by
  rw [suspendService_eq hst hh]
  exact parkInSitu_arms _ _

end

/-! ### Adding a cause (R156, R157) -/

section
variable {s : State} {i : PassSlot} {r : Pass} (live : s.pass i = some r) (c : HoldCause)

include live

theorem addCause_unreached (notPolishing : r.state ≠ .polishing) (notHeld : r.state ≠ .held) : s.addCause i c = s := by
  simp only [State.addCause, live]
  cases e : r.state with
  | polishing => exact absurd e notPolishing
  | held => exact absurd e notHeld
  | staged | waiting | ended => rfl

theorem addCause_held (held : r.state = .held) : s.addCause i c = s.setPass i (some { r with holds := r.holds.add c }) := by
  simp only [State.addCause, live, held]

variable {l : LiveProgress} (polishing : r.state = .polishing) (hl : r.live = some l)

include polishing hl

theorem addCause_polishing :
    s.addCause i c = (s.setPass i (some (r.heldAt l s.clock (HoldSet.empty.add c)))).suspendService r := by
  simp only [State.addCause, live, polishing, Pass.freezeTimer, Pass.remainderAt, hl, Option.map_some, if_true,
    Pass.heldAt]

theorem addCause_polishing_pass (j : PassSlot) :
    (s.addCause i c).pass j = if j = i then some (r.heldAt l s.clock (HoldSet.empty.add c)) else s.pass j := by
  rw [addCause_polishing live c polishing hl, pass_eq_of_passes (Served.suspendService _ r).passes, pass_setPass]

end

/-- Settles O19: a cause reaches a HELD record and a POLISHING one, and the entry to HELD is the record frozen and its service
suspended, block by block. -/
theorem holdCauseAdded : Obligations.HoldCauseAdded := by
  intro s i c r live t
  refine ⟨addCause_unreached live c, addCause_held live c, HoldSet.has_add r.holds c,
    fun polishing l st h hl hst hh => ?_⟩
  have passes := addCause_polishing_pass live c polishing hl
  refine ⟨(passes i).trans (if_pos rfl), fun j other => (passes j).trans (if_neg other), ?_⟩
  have kept : KeptStation s t := .addCause s i c
  have raised : t.attnPending = s.attnPending := addCause_attnPending s i c
  have suspended : t = _ := addCause_polishing live c polishing hl
  rw [suspended] at kept raised ⊢
  exact ⟨suspendService_vented hst hh _, suspendService_supply hst hh _, suspendService_arms hst hh _,
    suspendService_items hst hh _, raised, kept⟩

/-! ### PASS-HOLD (R161, R162) -/

theorem passHoldCheck_idle {s : State} {i : PassSlot} {r : Pass} (live : s.pass i = some r) (idle : ¬r.running = true) :
    passHoldCheck [byte i.val] s = .error .wrongState := (slotByte_live live _).trans (if_neg idle)

theorem passHoldCheck_running {s : State} {i : PassSlot} {r : Pass} (live : s.pass i = some r) (running : r.running = true) :
    passHoldCheck [byte i.val] s = .ok i := (slotByte_live live _).trans (if_pos running)

theorem holdReply_eq {s : State} {i : PassSlot} {r : Pass} (live : s.pass i = some r) : s.holdReply i = [byte r.holds.code] := by
  rw [State.holdReply, live]

/-- An accepted hold adds HOST and answers the hold-cause set it leaves (R162). -/
theorem Offers.answers_hold {s : State} {dt : Nat} {tag : Byte} {i : PassSlot} {r q : Pass}
    (offered : Offers s .passHold tag [byte i.val]) (live : s.pass i = some r) (running : r.running = true)
    (left : ((s.elapse dt).addCause i .host).pass i = some q) :
    Answers (.passHold dt) s ((s.elapse dt).addCause i .host) tag .ok [byte q.holds.code] := by
  rw [← holdReply_eq left]
  exact offered.answers_ok (rule := passHoldRule) (a := i) rfl (passHoldCheck_running (s := s.elapse dt) live running)

/-- Settles O24: the checks of R161 one after the other, and the hold-cause set with HOST in it. -/
theorem passHoldAddsHost : Obligations.PassHoldAddsHost := by
  intro s dt tag payload offered now
  refine ⟨fun length => offered.answers_error (rule := passHoldRule) rfl (slotChecks_length length), ?_⟩
  rintro slot rfl
  refine ⟨fun high => offered.answers_error (rule := passHoldRule) rfl (slotByte_range high _ _), ?_⟩
  rintro i rfl
  refine ⟨fun free => offered.answers_error (rule := passHoldRule) rfl (slotByte_free free _), fun r live => ?_⟩
  have there : now.pass i = some r := live
  refine ⟨fun notPolishing notHeld => ?_, fun held => ?_, fun polishing l st h hl _ _ => ?_⟩
  · have idle : ¬r.running = true := by simp [Pass.running_iff, notPolishing, notHeld]
    exact offered.answers_error (rule := passHoldRule) rfl (passHoldCheck_idle there idle)
  · have added := addCause_held there .host held
    have answered := offered.answers_hold (dt := dt) live ((Pass.running_iff r).2 (.inr held))
      ((congrArg (·.pass i) added).trans (pass_setPass_self now i _))
    rwa [added] at answered
  · exact offered.answers_hold live ((Pass.running_iff r).2 (.inl polishing))
      ((addCause_polishing_pass there .host polishing hl i).trans (if_pos rfl))

end Sys2Proof.Machine

/-! SUPPORT. PASS-RESUME (R161, R163): its checks, and what an accepted one sets going again (R74, R111, R132, R137, R164). -/

namespace Sys2Proof

@[simp] theorem putAt_slotAt {α : Type} {n : Nat} (t : Vector α n) (i : Fin n) : putAt t i (slotAt t i) = t :=
  Vector.set_getElem_self i.isLt

namespace Machine

theorem setPass_eq_self {s : State} {i : PassSlot} {r : Option Pass} (live : s.pass i = r) : s.setPass i r = s := by
  rw [← live, State.setPass, State.pass, putAt_slotAt]

/-! ### The checks of PASS-RESUME (R161, R163) -/

theorem resumeBlocked_iff (s : State) (h : Head) (st : StepProgram) :
    s.resumeBlocked h st = true ↔
      s.tripLatch = true ∨ (s.rotation.get st.platen).stall = true ∨ (∃ c, (s.channel h c).fault = true) ∨
        (0 < (s.row st.blendRow).parts .a ∧ s.noLotAt .feedA) ∨ (0 < (s.row st.blendRow).parts .b ∧ s.noLotAt .feedB) := by
  simp only [State.resumeBlocked, Bool.or_eq_true, Bool.not_eq_true', Bool.and_eq_false_iff, headFault_iff,
    goodLot_eq_false_iff (f := .a) rfl, goodLot_eq_false_iff (f := .b) rfl, or_assoc]

section
variable {s : State} {i : PassSlot} {r : Pass} (live : s.pass i = some r)

include live

theorem passResumeCheck_unheld (going : r.state ≠ .held) : passResumeCheck [byte i.val] s = .error .wrongState :=
  (slotByte_live live _).trans (if_pos going)

variable {h : Head} {st : StepProgram} (held : r.state = .held) (hst : r.step = some st) (hh : r.head = some h)

include held hst hh

theorem passResumeCheck_held :
    passResumeCheck [byte i.val] s = if s.resumeBlocked h st = true then .error .busy else .ok ⟨i, r, h, st⟩ :=
  (slotByte_live live _).trans ((if_neg (not_not.2 held)).trans (by simp only [hst, hh]))

end

/-! ### The record a platen's service acts on (R58, R137) -/

/-- A record rewritten with its tag and its head leaves the records apart. -/
theorem passesApart_setPass {s : State} (apart : s.passesApart) {i : PassSlot} {r q : Pass} (live : s.pass i = some r)
    (tag : q.tag = r.tag) (head : q.head = r.head) : (s.setPass i (some q)).passesApart := by
  refine passesApart_of_inherits apart fun j x hx => ?_
  rw [pass_setPass] at hx
  split at hx
  · next same =>
    cases hx
    exact ⟨r, same ▸ live, tag, .inr head⟩
  · exact ⟨x, hx, rfl, .inr rfl⟩

theorem updateLiveOn_eq {s : State} {p : Platen} {i : PassSlot} {r : Pass} {l : LiveProgress} (on : s.runningOn p = some i)
    (live : s.pass i = some r) (hl : r.live = some l) (f : LiveProgress → LiveProgress) :
    s.updateLiveOn p f = s.setPass i (some { r with live := some (f l) }) := by
  simp only [State.updateLiveOn, on, State.updateLive, live, hl, Option.map_some]

theorem wearStop_inSitu {s : State} {p : Platen} (served : (s.arms.get p).service.isInSitu = true) :
    s.wearStop p = (s.setArm p { (s.arms.get p).parked with service := .none }).updateLiveOn p fun l =>
      { l with conditioningIncomplete := true } := by
  unfold State.wearStop
  cases e : (s.arms.get p).service with
  | inSitu q => rfl
  | none | exSitu => simp [e, Service.isInSitu] at served

theorem diskWorn_iff (s : State) (p : Platen) :
    s.diskWorn p = true ↔ ∃ x, s.mountedItem .disk (.platen p) = some x ∧ x.flags.worn = true := by
  unfold State.diskWorn
  cases s.mountedItem .disk (.platen p) <;> simp

/-! ### The CU at a resume (R132) -/

/-- An IN_SITU step whose arm still has an IN_SITU service. -/
def State.inSituGoesOn (s : State) (st : StepProgram) : Prop :=
  (∃ q, st.conditioning = .inSitu q) ∧ (s.arms.get st.platen).service.isInSitu = true

theorem conditionResume_idle {s : State} {st : StepProgram} (idle : ¬s.inSituGoesOn st) : s.conditionResume st = s := by
  unfold State.conditionResume
  cases e : st.conditioning with
  | none | exSitu => rfl
  | inSitu q => exact if_neg fun served => idle ⟨⟨q, e⟩, served⟩

theorem conditionResume_inSitu {s : State} {st : StepProgram} (goesOn : s.inSituGoesOn st) :
    s.conditionResume st = if s.diskWorn st.platen = true then s.wearStop st.platen else s.beginSweep st.platen := by
  obtain ⟨⟨q, inSitu⟩, served⟩ := goesOn
  simp only [State.conditionResume, inSitu, if_pos served]

theorem beginSweep_eq (s : State) (p : Platen) :
    s.beginSweep p = s.setArm p ((s.arms.get p).swept s.clock (s.armProfile p)) := by
  rw [State.beginSweep, beginSweep_eq_swept]

/-- The CU at a resume acts on the arm alone, but for the flag a wear stop sets in the live progress. -/
theorem conditionResume_eq {s : State} {st : StepProgram} {i : PassSlot} {r : Pass} {l : LiveProgress}
    (on : s.runningOn st.platen = some i) (live : s.pass i = some r) (hl : r.live = some l) :
    ∃ arms incomplete,
      s.conditionResume st =
        { s with arms }.setPass i (some { r with live := some { l with conditioningIncomplete := incomplete } }) ∧
      (s.inSituGoesOn st → s.diskWorn st.platen = true → incomplete = true ∧
        arms = s.arms.set st.platen { (s.arms.get st.platen).parked with service := .none }) ∧
      (¬(s.inSituGoesOn st ∧ s.diskWorn st.platen = true) → incomplete = l.conditioningIncomplete) ∧
      (s.inSituGoesOn st → ¬s.diskWorn st.platen = true →
        arms = s.arms.set st.platen ((s.arms.get st.platen).swept s.clock (s.armProfile st.platen))) ∧
      (¬s.inSituGoesOn st → arms = s.arms) := by
  have record : { r with live := some l } = r := by rw [← hl]
  have same (arms : PerPlaten Arm) : { s with arms } =
      { s with arms }.setPass i
        (some { r with live := some { l with conditioningIncomplete := l.conditioningIncomplete } }) :=
    (setPass_eq_self (s := { s with arms }) (live.trans (congrArg some record.symm))).symm
  by_cases goesOn : s.inSituGoesOn st
  · by_cases worn : s.diskWorn st.platen = true
    · refine ⟨_, true, ?_, fun _ _ => ⟨rfl, rfl⟩, fun no => absurd ⟨goesOn, worn⟩ no, fun _ no => absurd worn no,
        fun no => absurd goesOn no⟩
      rw [conditionResume_inSitu goesOn, if_pos worn, wearStop_inSitu goesOn.2]
      exact updateLiveOn_eq (s := s.setArm _ _) on live hl _
    · refine ⟨_, _, ?_, fun _ yes => absurd yes worn, fun _ => rfl, fun _ _ => rfl, fun no => absurd goesOn no⟩
      rw [conditionResume_inSitu goesOn, if_neg worn, beginSweep_eq]
      exact same _
  · refine ⟨_, _, ?_, fun yes => absurd yes goesOn, fun _ => rfl, fun yes => absurd yes goesOn, fun _ => rfl⟩
    rw [conditionResume_idle goesOn]
    exact same _

/-! ### An accepted resume (R164) -/

/-- A pass has been resumed, but for the CU: the record, the head and the dispensing. -/
def State.resumedStation (s : State) (i : PassSlot) (r : Pass) (h : Head) (st : StepProgram) : State :=
  ((s.setPass i (some (r.resumed st s.clock))).driveHead h st r.completeFlags).startDispensing st.platen st.blendRow

section
variable {s : State} {i : PassSlot} {r : Pass} {l : LiveProgress} {st : StepProgram} {h : Head}

theorem resume_eq : s.resume ⟨i, r, h, st⟩ = (s.resumedStation i r h st).conditionResume st := rfl

theorem Pass.resumed_eq (hl : r.live = some l) (now : Nat) :
    r.resumed st now =
      { r with
        state := .polishing, holds := HoldSet.empty, live := some { l with settleLeft := st.settle, timerFrom := now } } := by
  simp only [Pass.resumed, hl]
  rfl

theorem resumedStation_driven (hl : r.live = some l) : Driven s (s.resumedStation i r h st) h st l.complete := by
  have flags : r.completeFlags = l.complete := by rw [Pass.completeFlags, hl]
  rw [← flags]
  exact driveHead_driven s h st _

/-- A resumed pass is the one running on its platen: its head stands over it, and no other pass has that head. -/
theorem resumedStation_runningOn (apart : s.passesApart) (seated : s.seated) (live : s.pass i = some r)
    (held : r.state = .held) (hst : r.step = some st) (hh : r.head = some h) :
    (s.resumedStation i r h st).runningOn st.platen = some i := by
  have under : platenUnder s.carousel.k h = some st.platen := by
    obtain ⟨-, seat⟩ := seated i r live ((Pass.running_iff r).2 (.inr held))
    obtain ⟨h', st', hh', hst', under⟩ := (Pass.seat_isSome_iff _ r).1 seat
    cases hh.symm.trans hh'
    cases hst.symm.trans hst'
    exact under
  have apart' : (s.resumedStation i r h st).passesApart := passesApart_setPass apart live rfl rfl
  exact runningOn_eq_some apart' (pass_setPass_self s i _) ⟨.inl rfl, h, st, hh, hst, rfl, under⟩

end

/-- An accepted resume answers OK with no payload. -/
theorem Offers.answers_resume {s : State} {dt : Nat} {tag : Byte} {payload : List Byte} {a : Resume}
    (offered : Offers s .passResume tag payload) (accepted : passResumeCheck payload (s.elapse dt) = .ok a) :
    Answers (.passResume dt) s ((s.elapse dt).resume a) tag .ok [] :=
  offered.answers_ok (rule := passResumeRule) rfl accepted

/-- Settles O25: the checks of R161 and R163 one after the other; an accepted resume writes the record, drives the head and
dispenses, and the CU then acts on the arm of the platen alone. -/
theorem passResumeGoesOn : Obligations.PassResumeGoesOn := by
  intro s dt tag payload offered seated apart now
  refine ⟨fun length => offered.answers_error (rule := passResumeRule) rfl (slotChecks_length length), ?_⟩
  rintro slot rfl
  refine ⟨fun high => offered.answers_error (rule := passResumeRule) rfl (slotByte_range high _ _), ?_⟩
  rintro i rfl
  refine ⟨fun free => offered.answers_error (rule := passResumeRule) rfl (slotByte_free free _), fun r live => ?_⟩
  have there : now.pass i = some r := live
  refine ⟨fun going => offered.answers_error (rule := passResumeRule) rfl (passResumeCheck_unheld there going), ?_⟩
  intro held l st h hl hst hh p uses noLot blocked worn sweeps
  have checked := passResumeCheck_held there held hst hh
  have busy : now.resumeBlocked h st = true ↔ blocked := resumeBlocked_iff now h st
  refine ⟨fun stands => ?_, fun free => ?_⟩
  · exact offered.answers_error (rule := passResumeRule) rfl (checked.trans (if_pos (busy.2 stands)))
  · have answered := offered.answers_resume (checked.trans (if_neg (mt busy.1 free)))
    have kept := KeptStation.resume now ⟨i, r, h, st⟩
    let u := now.resumedStation i r h st
    have on : u.runningOn p = some i := resumedStation_runningOn (s := now) apart seated there held hst hh
    have written : u.pass i = some _ := (pass_setPass_self now i _).trans (congrArg some (Pass.resumed_eq hl now.clock))
    have driven : Driven now u h st l.complete := resumedStation_driven hl
    obtain ⟨arms, incomplete, resumed, stopped, flagged, swept, still⟩ := conditionResume_eq on written rfl
    have disk : u.diskWorn p = true ↔ worn := diskWorn_iff now p
    rw [disk] at stopped flagged swept
    rw [resume_eq, resumed] at answered kept
    refine ⟨_, incomplete, answered, pass_setPass_self _ i _, stopped, flagged, swept, still, fun j other => ?_, driven, rfl,
      rfl, rfl, kept⟩
    rw [pass_setPass, if_neg other]
    exact (pass_setPass now i j _).trans (if_neg other)

end Machine

end Sys2Proof

/-! SUPPORT. The release of ESTOP (R154) and TRIP-CLEAR (R155). -/

namespace Sys2Proof.Machine

/-! ### Start attempts without an eligible pass (R28) -/

theorem attempt_eq_self {s : State} {i : PassSlot} (away : ∀ r, s.pass i = some r → ¬r.mayStart s.carousel.k) :
    s.attempt i = s := by
  cases live : s.pass i with
  | none => simp only [State.attempt, live]
  | some r => exact attempt_ineligible live (away r live)

theorem attemptEach_eq_self {s : State} (away : ∀ i r, s.pass i = some r → ¬r.mayStart s.carousel.k)
    (reaches : Pass → Bool) : s.attemptEach reaches = s := by
  refine List.foldl_fixed' (fun i => ?_) passSlots
  rw [attempt_eq_self (away i), ite_self]

/-! ### TRIP-CLEAR (R155) -/

theorem tripClear_clear {s : State} (clear : s.tripLatch = false) : tripClearRule.act () s = (s, []) := by
  simp only [tripClearRule, clear, Bool.false_eq_true, if_false]

theorem tripClear_set {s : State} (set : s.tripLatch = true) :
    tripClearRule.act () s = ({ s with tripLatch := false }.attemptAll, []) := by
  simp only [tripClearRule, set, if_true]

/-- An accepted TRIP-CLEAR answers OK from the state its action leaves. -/
theorem Offers.answers_tripClear {s t : State} {dt : Nat} {tag : Byte} (offered : Offers s .tripClear tag [])
    (released : s.estop = false) (acts : tripClearRule.act () (s.elapse dt) = (t, [])) :
    Answers (.tripClear dt) s t tag .ok [] := by
  have accepted : tripClearRule.check [] (s.elapse dt) = .ok () := if_neg (by simp [released])
  have answered := offered.answers_ok (c := .tripClear dt) rfl accepted
  rwa [acts] at answered

/-- Settles O27: the level alone follows a release; TRIP-CLEAR is judged by its payload, the level and the latch. -/
theorem tripClearClearsTheLatch : Obligations.TripClearClearsTheLatch := by
  refine fun s dt tag payload => ⟨rfl, fun offered => ⟨fun nonempty => ?_, ?_⟩⟩
  · exact offered.answers_error (rule := tripClearRule) rfl (emptyPayload_length nonempty _)
  · rintro rfl
    refine ⟨fun active => ?_, fun released clear => ?_, fun released set => ?_⟩
    · exact offered.answers_error (rule := tripClearRule) rfl (if_pos active)
    · exact offered.answers_tripClear released (tripClear_clear clear)
    · intro cleared
      have answered : Answers (.tripClear dt) s cleared.attemptAll tag .ok [] :=
        offered.answers_tripClear released (tripClear_set set)
      refine ⟨answered, fun away => ?_⟩
      have unchanged : cleared.attemptAll = cleared := attemptEach_eq_self (s := cleared) away _
      exact unchanged ▸ answered

end Sys2Proof.Machine

/-! SUPPORT. STATUS and IDENTIFY, field by field (R177, R178). -/

namespace Sys2Proof.Machine

/-! ### The parts of STATUS (R177) -/

@[simp] theorem length_causeBytes (a : CauseSet) : (causeBytes a).length = 2 := length_leBytes 2 _

theorem field_causeBytes (a : CauseSet) (rest : List Byte) : field (causeBytes a ++ rest) 0 2 = a.toNat :=
  (field_leBytes 2 _ rest).trans (Nat.mod_eq_of_lt (Nat.lt_trans a.isLt (by decide)))

@[simp] theorem CarouselState.code_mod (x : CarouselState) : x.code % 256 = x.code := by cases x <;> rfl

@[simp] theorem SaveState.code_mod (x : SaveState) : x.code % 256 = x.code := by cases x <;> rfl

theorem flagBits_two_mod (a b : Bool) : (flagBit a 0 + flagBit b 1) % 256 = flagBit a 0 + flagBit b 1 := by
  have ha := flagBit_le a 0
  have hb := flagBit_le b 1
  omega

section
variable (s : State)

/-- The seven bytes of STATUS before the platens (R177). -/
def State.statusHead : List Byte :=
  causeBytes s.attnPending ++ causeBytes s.attnMask ++
    [byte (flagBit s.tripLatch 0 + flagBit s.estop 1), byte s.carousel.state.code, byte s.carousel.k.val]

/-- The three bytes of STATUS behind the heads (R177). -/
def State.statusTail : List Byte :=
  [byte (flagBit s.corrupt 0 + flagBit s.overrun 1),
    byte (flagBit (decide (s.startUp = .ready)) 0 + flagBit s.defaulted 1), byte s.save.code]

theorem statusBytes_eq :
    s.statusBytes = s.statusHead ++ (platens.map s.platenStatus).flatten ++ (heads.map s.headStatus).flatten ++
      s.statusTail := by
  simp [State.statusBytes, State.statusHead, State.statusTail, platens, heads]

theorem length_statusHead : s.statusHead.length = 7 := by simp [State.statusHead]

theorem length_platenStatus (p : Platen) : (s.platenStatus p).length = 5 := by
  cases hp : (s.rotation.get p).lastPeriod <;> simp [State.platenStatus, hp]

theorem length_headStatus (h : Head) : (s.headStatus h).length = 2 := rfl

/-- The bytes of STATUS before the heads. -/
theorem length_platensStatus : (s.statusHead ++ (platens.map s.platenStatus).flatten).length = 22 := by
  rw [List.length_append, length_statusHead, length_flatten_blocks (length_platenStatus s)]
  rfl

/-- The bytes of STATUS before the link flags. -/
theorem length_headsStatus :
    (s.statusHead ++ (platens.map s.platenStatus).flatten ++ (heads.map s.headStatus).flatten).length = 30 := by
  rw [List.length_append, length_platensStatus, length_flatten_blocks (length_headStatus s)]
  rfl

theorem length_statusBytes : s.statusBytes.length = 33 := by
  rw [statusBytes_eq, List.length_append, length_headsStatus]
  rfl

theorem statusHead_field :
    field s.statusHead 0 2 = s.attnPending.toNat ∧ field s.statusHead 2 2 = s.attnMask.toNat ∧
      field s.statusHead 4 1 = flagBit s.tripLatch 0 + flagBit s.estop 1 ∧
      field s.statusHead 5 1 = s.carousel.state.code ∧ field s.statusHead 6 1 = s.carousel.k.val := by
  have offset := s.carousel.k.isLt
  simp [State.statusHead, field_beyond, field_causeBytes, flagBits_two_mod]
  omega

theorem statusTail_field :
    field s.statusTail 0 1 = flagBit s.corrupt 0 + flagBit s.overrun 1 ∧
      field s.statusTail 1 1 = flagBit (decide (s.startUp = .ready)) 0 + flagBit s.defaulted 1 ∧
      field s.statusTail 2 1 = s.save.code := by
  simp [State.statusTail, flagBits_two_mod]

theorem platenStatus_flags (p : Platen) :
    field (s.platenStatus p) 0 1 =
      flagBit (s.rotation.get p).stall 0 + flagBit (s.arms.get p).sweeping 1 + flagBit (s.supply.get p).short 2 +
        flagBit (s.arms.get p).busy 3 := by
  have stall := flagBit_le (s.rotation.get p).stall 0
  have sweeping := flagBit_le (s.arms.get p).sweeping 1
  have short := flagBit_le (s.supply.get p).short 2
  have busy := flagBit_le (s.arms.get p).busy 3
  rw [State.platenStatus, field_cons_one, toNat_byte]
  omega

theorem platenStatus_period (p : Platen) :
    field (s.platenStatus p) 1 4 = match (s.rotation.get p).lastPeriod with | some t => t.toNat | none => 0 := by
  rw [State.platenStatus, field_cons_succ]
  cases (s.rotation.get p).lastPeriod with
  | none => exact field_leBytes_last 4 0
  | some t => exact (field_leBytes_last 4 _).trans (toNat_word_mod t)

theorem headStatus_slot (h : Head) :
    field (s.headStatus h) 0 1 = match s.holderOf h with | some i => i.val | none => 0xFF := by
  rw [State.headStatus, field_cons_one, toNat_byte]
  cases s.holderOf h with
  | none => rfl
  | some i => exact passSlot_mod i

theorem headStatus_faults (h : Head) :
    field (s.headStatus h) 1 1 =
      flagBit (s.channel h (.zone .z0)).fault 0 + flagBit (s.channel h (.zone .z1)).fault 1 +
        flagBit (s.channel h (.zone .z2)).fault 2 + flagBit (s.channel h (.zone .z3)).fault 3 +
        flagBit (s.channel h .rr).fault 4 := by
  have z0 := flagBit_le (s.channel h (.zone .z0)).fault 0
  have z1 := flagBit_le (s.channel h (.zone .z1)).fault 1
  have z2 := flagBit_le (s.channel h (.zone .z2)).fault 2
  have z3 := flagBit_le (s.channel h (.zone .z3)).fault 3
  have rr := flagBit_le (s.channel h .rr).fault 4
  rw [State.headStatus, field_cons_succ, field_cons_one, toNat_byte]
  exact Nat.mod_eq_of_lt (Nat.lt_of_le_of_lt
    (Nat.add_le_add (Nat.add_le_add (Nat.add_le_add (Nat.add_le_add z0 z1) z2) z3) rr) (by decide))

/-! ### The places of the parts in STATUS -/

theorem statusBytes_head {k n : Nat} (fits : k + n ≤ 7) : field s.statusBytes k n = field s.statusHead k n := by
  rw [statusBytes_eq, List.append_assoc, List.append_assoc, field_within _ _ _ _ (by rwa [length_statusHead])]

theorem statusBytes_platen (p : Platen) {k n place : Nat} (fits : k + n ≤ 5) (at' : place = 7 + 5 * p.number + k) :
    field s.statusBytes place n = field (s.platenStatus p) k n := by
  rw [statusBytes_eq, List.append_assoc]
  exact field_block (length_platenStatus s) _ fits (getElem?_platens p) (length_statusHead s) at'

theorem getElem?_heads (h : Head) : heads[h.number]? = some h := by cases h <;> rfl

theorem statusBytes_headStatus (h : Head) {k n place : Nat} (fits : k + n ≤ 2) (at' : place = 22 + 2 * h.number + k) :
    field s.statusBytes place n = field (s.headStatus h) k n := by
  rw [statusBytes_eq]
  exact field_block (length_headStatus s) _ fits (getElem?_heads h) (length_platensStatus s) at'

theorem statusBytes_tail (k n : Nat) : field s.statusBytes (30 + k) n = field s.statusTail k n := by
  have before := length_headsStatus s
  rw [statusBytes_eq, field_beyond _ _ _ _ (by omega), before, Nat.add_sub_cancel_left]

/-! ### The pass of a head (R3) -/

theorem holderOf_eq_some {s : State} {h : Head} {i : PassSlot} (found : s.holderOf h = some i) :
    ∃ r, s.pass i = some r ∧ r.head = some h ∧ (r.state = .waiting ∨ r.state = .polishing ∨ r.state = .held) := by
  obtain ⟨r, live, holds⟩ := findPass_some found
  obtain ⟨held, on⟩ := Bool.and_eq_true_iff.1 holds
  exact ⟨r, live, of_decide_eq_true on, (Pass.holdsHead_iff r).1 held⟩

theorem holderOf_eq_none {s : State} {h : Head} (found : s.holderOf h = none) (i : PassSlot) (r : Pass)
    (live : s.pass i = some r) (on : r.head = some h) :
    ¬(r.state = .waiting ∨ r.state = .polishing ∨ r.state = .held) := fun held =>
  Option.isSome_iff_ne_none.1 ((holderOf_isSome_iff s h).2 ⟨i, r, live, on, held⟩) found

/-! ### The answers -/

/-- The 20 bytes of IDENTIFY, written out (R178). -/
theorem identityBytes_eq :
    s.identityBytes =
      [0x43#8, 0#8, 3#8, if s.fastLink then 1#8 else 0#8, 4#8, 3#8, 24#8, 4#8, 16#8, 8#8, 32#8, 4#8, 10#8, 2#8, 0xFC#8, 3#8,
        0#8, 8#8, 20#8, 0#8] := by
  rw [State.identityBytes]
  cases s.fastLink <;> rfl

end

section
variable {s : State} {dt : Nat} {tag : Byte}

theorem Offers.answers_status (o : Offers s .status tag []) : Answers (.status dt) s (s.elapse dt) tag .ok s.statusBytes :=
  o.answers_ok (rule := statusRule) (a := ()) rfl rfl

theorem Offers.answers_identify (o : Offers s .identify tag []) :
    Answers (.identify dt) s (s.elapse dt) tag .ok s.identityBytes :=
  o.answers_ok (rule := identifyRule) (a := ()) rfl rfl

end

/-- Settles O11: STATUS is laid out in parts of known lengths, each field is the one of the part it stands in, and IDENTIFY's
bytes are its values written out. -/
theorem statusAndIdentify : Obligations.StatusAndIdentify := by
  intro s dt tag payload
  refine ⟨fun o => ⟨fun filled => ?_, fun empty => ?_⟩, fun o => ⟨fun filled => ?_, fun empty => ?_⟩⟩
  · exact o.answers_error (rule := statusRule) rfl (emptyPayload_length filled _)
  · subst empty
    obtain ⟨pending, mask, trip, carousel, offset⟩ := statusHead_field s
    obtain ⟨link, settings, save⟩ := statusTail_field s
    refine ⟨s.statusBytes, o.answers_status, length_statusBytes s, (statusBytes_head s (by decide)).trans pending,
      (statusBytes_head s (by decide)).trans mask, (statusBytes_head s (by decide)).trans trip,
      (statusBytes_head s (by decide)).trans carousel, (statusBytes_head s (by decide)).trans offset, fun p => ?_,
      fun h => ?_, (statusBytes_tail s 0 1).trans link, (statusBytes_tail s 1 1).trans settings,
      (statusBytes_tail s 2 1).trans save⟩
    · exact ⟨(statusBytes_platen s p (k := 0) (by decide) rfl).trans (platenStatus_flags s p),
        (statusBytes_platen s p (k := 1) (by decide) (by omega)).trans (platenStatus_period s p)⟩
    · exact ⟨(statusBytes_headStatus s h (k := 0) (by decide) rfl).trans (headStatus_slot s h),
        fun i found => holderOf_eq_some found, holderOf_eq_none,
        (statusBytes_headStatus s h (k := 1) (by decide) (by omega)).trans (headStatus_faults s h)⟩
  · exact o.answers_error (rule := identifyRule) rfl (emptyPayload_length filled _)
  · subst empty
    rw [← identityBytes_eq]
    exact o.answers_identify

end Sys2Proof.Machine

/-! SUPPORT. Sets of causes place by place, and the two requests that rewrite them (R174 to R176). -/

namespace Sys2Proof.Machine

/-! ### The places of the causes (R174) -/

/-- The place of a cause in a set (R174). -/
def Cause.place : Cause → Fin 9
  | .stepEnd => 0
  | .passEnd => 1
  | .trip => 2
  | .fault => 3
  | .item => 4
  | .supply => 5
  | .carousel => 6
  | .link => 7
  | .settings => 8

/-- The cause at a place. -/
def Cause.ofPlace : Fin 9 → Cause
  | 0 => .stepEnd
  | 1 => .passEnd
  | 2 => .trip
  | 3 => .fault
  | 4 => .item
  | 5 => .supply
  | 6 => .carousel
  | 7 => .link
  | 8 => .settings

theorem Cause.ofPlace_place (c : Cause) : Cause.ofPlace c.place = c := by cases c <;> rfl

theorem Cause.place_ofPlace (i : Fin 9) : (Cause.ofPlace i).place = i := by
  revert i
  decide

theorem Cause.place_injective : Function.Injective Cause.place := Function.LeftInverse.injective Cause.ofPlace_place

theorem Cause.bit_eq_twoPow (c : Cause) : c.bit = BitVec.twoPow 9 c.place.val := by cases c <;> rfl

theorem Cause.bit_ne_zero (c : Cause) : c.bit ≠ 0#9 := by cases c <;> decide

/-- A cause is in a set exactly when the bit at its place is set. -/
theorem CauseSet.has_eq_getLsbD (a : CauseSet) (c : Cause) : a.has c = a.getLsbD c.place.val := by
  rw [CauseSet.has, Cause.bit_eq_twoPow, BitVec.and_twoPow, ← Cause.bit_eq_twoPow]
  cases a.getLsbD c.place.val with
  | false => rfl
  | true => exact bne_iff_ne.2 c.bit_ne_zero

theorem CauseSet.has_and (a b : CauseSet) (c : Cause) : CauseSet.has (a &&& b) c = (a.has c && b.has c) := by
  simp only [CauseSet.has_eq_getLsbD, BitVec.getLsbD_and]

theorem CauseSet.ne_zero_iff (a : CauseSet) : a ≠ 0#9 ↔ ∃ c, a.has c = true := by
  constructor
  · intro nonzero
    by_contra none
    refine nonzero (BitVec.eq_of_getLsbD_eq fun i low => ?_)
    have absent : a.has (Cause.ofPlace ⟨i, low⟩) = false := Bool.eq_false_iff.2 fun has => none ⟨_, has⟩
    rw [CauseSet.has_eq_getLsbD, Cause.place_ofPlace] at absent
    exact absent.trans BitVec.getLsbD_zero.symm
  · rintro ⟨c, has⟩ rfl
    rw [CauseSet.has_eq_getLsbD, BitVec.getLsbD_zero] at has
    cases has

theorem Cause.bit_apart {c d : Cause} (other : d ≠ c) : c.bit &&& d.bit = 0 := by
  have apart : c.place.val ≠ d.place.val := fun same => other (Cause.place_injective (Fin.ext same)).symm
  rw [Cause.bit_eq_twoPow d, BitVec.and_twoPow, Cause.bit_eq_twoPow c, BitVec.getLsbD_twoPow, decide_eq_false apart,
    Bool.and_false]
  rfl

/-- ATTN is active exactly while a cause is both pending and in the mask (R174). -/
theorem attnLine_iff (s : State) : s.attnLine = true ↔ ∃ d, s.attnPending.has d = true ∧ s.attnMask.has d = true := by
  have active : s.attnLine = true ↔ s.attnPending &&& s.attnMask ≠ 0#9 := bne_iff_ne
  simp only [active, CauseSet.ne_zero_iff, CauseSet.has_and, Bool.and_eq_true_iff]

/-! ### The check of a cause set (R175, R176) -/

theorem causeSetCheck_length {payload : List Byte} (h : payload.length ≠ 2) (s : State) :
    causeSetCheck payload s = .error .badLength := if_pos h

/-- Two bytes are a cause set when they spell a number below 512. -/
theorem causeSetCheck_bytes (lo hi : Byte) (s : State) :
    causeSetCheck [lo, hi] s = if 512 ≤ le2 lo hi then .error .badParam else .ok (BitVec.ofNat 9 (le2 lo hi)) := by
  have value : field [lo, hi] 0 2 = le2 lo hi := field_cons_two lo hi []
  rw [causeSetCheck, if_neg (by simp), value]

theorem causeSetCheck_range {hi : Byte} (high : 2 ≤ hi.toNat) (lo : Byte) (s : State) :
    causeSetCheck [lo, hi] s = .error .badParam :=
  (causeSetCheck_bytes lo hi s).trans (if_pos (by rw [le2]; omega))

theorem causeSetCheck_accepts {lo hi : Byte} {set : CauseSet} (spelt : set.toNat = le2 lo hi) (s : State) :
    causeSetCheck [lo, hi] s = .ok set := by
  have low := set.isLt
  rw [causeSetCheck_bytes, ← spelt, if_neg (by omega), BitVec.ofNat_toNat, BitVec.setWidth_eq]

/-- The two bytes that spell a set are the bytes the set is written in. -/
theorem causeBytes_eq {lo hi : Byte} {set : CauseSet} (spelt : set.toNat = le2 lo hi) : causeBytes set = [lo, hi] := by
  have value : le2 lo hi = leValue [lo, hi] := by simp [le2, leValue]
  rw [causeBytes, spelt, value]
  exact leBytes_leValue [lo, hi]

/-! ### ATTN-ACK and ATTN-MASK -/

/-- An acknowledgment removes the causes it names, and clears the link flags when LINK, bit 7, is one of them (R175). -/
theorem acknowledge_eq (s : State) (set : CauseSet) :
    s.acknowledge set =
      { s with
        attnPending := s.attnPending &&& ~~~set, corrupt := s.corrupt && !set.getLsbD 7,
        overrun := s.overrun && !set.getLsbD 7 } := by
  have link : set.has .link = set.getLsbD 7 := CauseSet.has_eq_getLsbD set .link
  rw [State.acknowledge, link]
  cases set.getLsbD 7 with
  | false => simp [CauseSet.remove]
  | true => simp [CauseSet.remove, State.clearLinkFlags]

section
variable {s : State} {dt : Nat} {tag lo hi : Byte} {set : CauseSet}

theorem Offers.answers_attnAck (o : Offers s .attnAck tag [lo, hi]) (spelt : set.toNat = le2 lo hi) :
    Answers (.attnAck dt) s ((s.elapse dt).acknowledge set) tag .ok (causeBytes (s.attnPending.remove set)) :=
  o.answers_ok (rule := attnAckRule) rfl (causeSetCheck_accepts spelt (s.elapse dt))

theorem Offers.answers_attnMask (o : Offers s .attnMask tag [lo, hi]) (spelt : set.toNat = le2 lo hi) :
    Answers (.attnMask dt) s { s.elapse dt with attnMask := set } tag .ok (causeBytes s.attnPending ++ [lo, hi]) :=
  causeBytes_eq spelt ▸ o.answers_ok (rule := attnMaskRule) rfl (causeSetCheck_accepts spelt (s.elapse dt))

end

/-- Settles O12: a raised cause joins the set at its own place alone, and both requests act on the one set their two bytes
spell. -/
theorem attentionRequests : Obligations.AttentionRequests := by
  refine ⟨fun s c => ?_, fun s dt tag payload => ⟨fun o => ⟨fun length => ?_, ?_⟩, fun o => ⟨fun length => ?_, ?_⟩⟩⟩
  · have others (d : Cause) (other : d ≠ c) : (s.raise c).attnPending.has d = s.attnPending.has d :=
      CauseSet.has_add_of_apart s.attnPending (Cause.bit_apart other)
    exact ⟨CauseSet.has_add_self s.attnPending c, others, rfl, attnLine_iff s⟩
  · exact o.answers_error (rule := attnAckRule) rfl (causeSetCheck_length length (s.elapse dt))
  · rintro lo hi rfl
    refine ⟨fun high => ?_, fun _ set spelt => ?_⟩
    · exact o.answers_error (rule := attnAckRule) rfl (causeSetCheck_range high lo (s.elapse dt))
    · have answered : Answers (.attnAck dt) s _ tag .ok _ := o.answers_attnAck spelt
      rwa [acknowledge_eq] at answered
  · exact o.answers_error (rule := attnMaskRule) rfl (causeSetCheck_length length (s.elapse dt))
  · rintro lo hi rfl
    refine ⟨fun high => ?_, fun _ set spelt => o.answers_attnMask spelt⟩
    exact o.answers_error (rule := attnMaskRule) rfl (causeSetCheck_range high lo (s.elapse dt))

end Sys2Proof.Machine

/-! SUPPORT. The records of the Item Table: every change of a record keeps it well formed, and every change of the table keeps
its ids and places apart (R87 to R92). -/

namespace Sys2Proof.Machine

/-! ### One record -/

/-- A usage rise sets WORN exactly when the usage then reaches the limit (R90). -/
theorem Item.wf.addUsage {x : Item} (w : x.wf) (n : Nat) : (x.addUsage n).wf := by
  obtain ⟨id, place, ⟨⟨usage, ranges⟩, fields⟩, flags⟩ := w
  refine ⟨id, place, ⟨⟨Nat.min_le_left _ _, ranges⟩, fields⟩, ?_⟩
  have worn : x.flags.worn = true → x.kind ≠ .lot ∧ 0 < x.limit ∧ x.limit ≤ min maxWord (x.usage + n) := by
    rw [flags]
    intro h
    obtain ⟨kind, low, high⟩ := of_decide_eq_true h
    exact ⟨kind, low, by unfold maxWord; omega⟩
  have expired : x.flags.expired = x.rightFlags.expired := congrArg _ flags
  have empty : x.flags.empty = x.rightFlags.empty := congrArg _ flags
  simp only [Item.addUsage, Item.rightFlags, Item.isWorn, expired, empty, ItemFlags.mk.injEq, and_true]
  cases h : x.flags.worn
  · rfl
  · simpa using worn h

/-- A debit the lot can bear sets EMPTY exactly when it takes all of the volume (R92, R96). -/
theorem Item.wf.draw {x : Item} (w : x.wf) (kind : x.kind = .lot) {v : Nat} (enough : v ≤ x.volume) :
    let taken : Item := { x.addUsage v with volume := x.volume - v }
    Item.wf { taken with flags := { taken.flags with empty := taken.flags.empty || taken.isEmpty } } := by
  have used := w.addUsage v
  obtain ⟨id, place, ⟨⟨usage, limit, f0, slope, volume, ages⟩, noLimit, noFactor, notLot⟩, flags⟩ := used
  have oldEmpty : (x.addUsage v).flags.empty = true → x.volume = 0 := by
    rw [flags]
    exact fun h => (of_decide_eq_true h).2
  have worn : (x.addUsage v).flags.worn = (x.addUsage v).rightFlags.worn := congrArg _ flags
  have expired : (x.addUsage v).flags.expired = (x.addUsage v).rightFlags.expired := congrArg _ flags
  refine ⟨id, place, ⟨⟨usage, limit, f0, slope, ?_, ages⟩, noLimit, noFactor, fun h => absurd kind h⟩, ?_⟩
  · have : x.volume ≤ 4294967295 := volume
    show x.volume - v ≤ 4294967295
    omega
  · simp only [worn, expired, Item.rightFlags, Item.isEmpty, ItemFlags.mk.injEq, true_and]
    cases h : (x.addUsage v).flags.empty
    · rfl
    · have : x.volume - v = 0 := by rw [oldEmpty h]; exact Nat.zero_sub v
      simp [this, show (x.addUsage v).kind = .lot from kind]

/-- A debit the lot cannot bear empties it (R92, R96). -/
theorem Item.wf.drain {x : Item} (w : x.wf) (kind : x.kind = .lot) :
    Item.wf { x with volume := 0, flags := { x.flags with empty := true } } := by
  obtain ⟨id, place, ⟨⟨usage, limit, f0, slope, _, ages⟩, noLimit, noFactor, _⟩, flags⟩ := w
  refine ⟨id, place, ⟨⟨usage, limit, f0, slope, Nat.zero_le _, ages⟩, noLimit, noFactor, fun h => absurd kind h⟩, ?_⟩
  have worn : x.flags.worn = x.rightFlags.worn := congrArg _ flags
  have expired : x.flags.expired = x.rightFlags.expired := congrArg _ flags
  simp [worn, expired, Item.rightFlags, kind]

/-- A minute sets EXPIRED exactly when the age then reaches the pot life (R91). -/
theorem Item.wf.ageByMinute {x : Item} (w : x.wf) : x.ageByMinute.wf := by
  unfold Item.ageByMinute
  split
  · rename_i kind
    obtain ⟨id, place, ⟨⟨usage, limit, f0, slope, volume, age, pot⟩, noLimit, noFactor, _⟩, flags⟩ := w
    refine ⟨id, place, ⟨⟨usage, limit, f0, slope, volume, Nat.min_le_left _ _, pot⟩, noLimit, noFactor,
      fun h => absurd kind h⟩, ?_⟩
    have expired : x.flags.expired = true → 0 < x.potLife ∧ x.potLife ≤ min 65535 (x.age + 1) := by
      rw [flags]
      intro h
      obtain ⟨_, low, high⟩ := of_decide_eq_true h
      omega
    have worn : x.flags.worn = x.rightFlags.worn := congrArg _ flags
    have empty : x.flags.empty = x.rightFlags.empty := congrArg _ flags
    simp only [worn, empty, Item.rightFlags, Item.isExpired, ItemFlags.mk.injEq, true_and, and_true]
    cases h : x.flags.expired
    · rfl
    · simpa [kind] using expired h
  · exact w

/-- The fields an adjust carries fit the widths they are read with, and F0 its range (R104). -/
theorem adjustField_lt {payload : List Byte} {mask bit n v : Nat} (h : adjustField payload mask bit n = some v) :
    v < 256 ^ n := by
  unfold adjustField at h
  split at h
  · cases h
    exact field_lt _ _ _
  · cases h

/-- A record's old value, or the new one an adjust names, keeps a bound that both keep. -/
theorem getD_bound {P : Nat → Prop} {o : Option Nat} {old : Nat} (new : ∀ v, o = some v → P v) (keep : P old) :
    P (o.getD old) := by
  cases o with
  | none => exact keep
  | some v => exact new v rfl

/-- An adjust that its kind fits leaves a record well formed (R104). -/
theorem Item.wf.adjust {x : Item} (w : x.wf) {payload : List Byte} {mask : Nat} (range : (readAdjust payload mask).inRange = true)
    (fits : (readAdjust payload mask).fits x.kind = true) : ((readAdjust payload mask).apply x).wf := by
  obtain ⟨id, place, ⟨⟨usage, limit, f0, slope, volume, age, pot⟩, noLimit, noFactor, notLot⟩, _⟩ := w
  have four {bit v} (h : adjustField payload mask bit 4 = some v) : v ≤ 4294967295 := by
    have := adjustField_lt h
    omega
  have two {bit v} (h : adjustField payload mask bit 2 = some v) : v ≤ 65535 := by
    have := adjustField_lt h
    omega
  have factor : ∀ v, (readAdjust payload mask).f0 = some v → v ≤ 8191 := by
    intro v h
    rw [Adjust.inRange, h] at range
    exact of_decide_eq_true range
  simp only [Adjust.fits, Bool.and_eq_true, Bool.or_eq_true, Option.isNone_iff_eq_none] at fits
  obtain ⟨⟨fitLimit, fitFactor⟩, fitLot⟩ := fits
  refine ⟨id, place, ⟨⟨usage, getD_bound (P := (· ≤ 4294967295)) (fun _ => four) limit,
    getD_bound (P := (· ≤ 8191)) factor f0, getD_bound (P := (· ≤ 65535)) (fun _ => two) slope,
    getD_bound (P := (· ≤ 4294967295)) (fun _ => four) volume, getD_bound (P := (· ≤ 65535)) (fun _ => two) age,
    getD_bound (P := (· ≤ 65535)) (fun _ => two) pot⟩, fun kind => ?_, fun notPad isNotLot => ?_, fun isNotLot => ?_⟩, rfl⟩
  · have kind : x.kind = .lot := kind
    have : (readAdjust payload mask).limit = none := by simpa [ItemKind.hasLimit, kind] using fitLimit
    show (readAdjust payload mask).limit.getD x.limit = 0
    rw [this, Option.getD_none, noLimit kind]
  · have notPad : x.kind ≠ .pad := notPad
    have isNotLot : x.kind ≠ .lot := isNotLot
    obtain ⟨noF0, noSlope⟩ : (readAdjust payload mask).f0 = none ∧ (readAdjust payload mask).slope = none := by
      simpa [ItemKind.hasFactor, notPad, isNotLot] using fitFactor
    show (readAdjust payload mask).f0.getD x.f0 = 0 ∧ (readAdjust payload mask).slope.getD x.slope = 0
    rw [noF0, noSlope]
    exact noFactor notPad isNotLot
  · have isNotLot : x.kind ≠ .lot := isNotLot
    obtain ⟨⟨noPot, noVolume⟩, noAge⟩ : ((readAdjust payload mask).potLife = none ∧ (readAdjust payload mask).volume = none) ∧
        (readAdjust payload mask).age = none := by
      simpa [ItemKind.isLot, isNotLot] using fitLot
    show (readAdjust payload mask).volume.getD x.volume = 0 ∧ (readAdjust payload mask).age.getD x.age = 0 ∧
      (readAdjust payload mask).potLife.getD x.potLife = 0
    rw [noPot, noVolume, noAge]
    exact notLot isNotLot

/-- A record ITEM-REGISTER makes is well formed and stands nowhere (R88, R99). -/
theorem readItem_wf {payload : List Byte} {x : Item} (h : readItem payload = some x) : x.wf ∧ x.position = none := by
  unfold readItem at h
  split at h
  · cases h
  · rename_i kind _
    dsimp only at h
    split at h
    · rename_i c
      obtain ⟨id, f0, fields⟩ := c
      cases h
      have four (o : Nat) : field payload o 4 ≤ 4294967295 := by
        have := field_lt payload o 4
        omega
      have two (o : Nat) : field payload o 2 ≤ 65535 := by
        have := field_lt payload o 2
        omega
      refine ⟨⟨id, (fun _ h => nomatch h), ⟨⟨four 5, four 9, f0, two 15, four 17, two 21, two 23⟩, ?_⟩, rfl⟩, rfl⟩
      cases kind <;> simp_all [ItemKind.hasLimit, ItemKind.hasFactor, ItemKind.isLot]
    · cases h

/-! ### The table -/

/-- A record written into a slot keeps the table when it is well formed and apart from the records of the other slots (R87,
R89). -/
theorem State.itemsWf.setItem {s : State} (w : s.itemsWf) (j : ItemSlot) {x : Item} (wf : x.wf)
    (apart : ∀ k y, s.item k = some y → k ≠ j →
      x.id ≠ y.id ∧ (x.kind = y.kind → x.position = none ∨ x.position ≠ y.position)) :
    (s.setItem j (some x)).itemsWf := by
  refine ⟨fun k y hy => ?_, fun k l y z hy hz ne => ?_⟩
  · rw [item_setItem] at hy
    split at hy
    · cases hy
      exact wf
    · exact w.1 k y hy
  · rw [item_setItem] at hy hz
    split at hy <;> split at hz
    · exact absurd (‹k = j›.trans ‹l = j›.symm) ne
    · cases hy
      exact apart l z hz ‹_›
    · cases hz
      obtain ⟨id, place⟩ := apart k y hy ‹_›
      refine ⟨Ne.symm id, fun kind => ?_⟩
      rcases place kind.symm with none | other
      · cases hp : y.position with
        | none => exact .inl rfl
        | some p => exact .inr (by rw [none]; simp)
      · exact .inr (Ne.symm other)
    · exact w.2 k l y z hy hz ne

/-- A record replaced by one of the same id, kind and place. -/
theorem State.itemsWf.rewrite {s : State} (w : s.itemsWf) {j : ItemSlot} {x y : Item} (hx : s.item j = some x) (wf : y.wf)
    (id : y.id = x.id) (kind : y.kind = x.kind) (place : y.position = x.position) : (s.setItem j (some y)).itemsWf :=
  w.setItem j wf fun k z hz ne => by
    rw [id, kind, place]
    exact w.2 j k x z hx hz (Ne.symm ne)

/-- A record taken off its place (R102, R103). -/
theorem State.itemsWf.unseat {s : State} (w : s.itemsWf) {j : ItemSlot} {x : Item} (hx : s.item j = some x) :
    (s.setItem j (some { x with position := none })).itemsWf := by
  obtain ⟨id, _, fields, flags⟩ := w.1 j x hx
  exact w.setItem j ⟨id, (fun _ h => nomatch h), fields, flags⟩ fun k z hz ne =>
    ⟨(w.2 j k x z hx hz (Ne.symm ne)).1, fun _ => .inl rfl⟩

theorem State.itemsWf.free {s : State} (w : s.itemsWf) (j : ItemSlot) : (s.setItem j none).itemsWf := by
  have live : ∀ k y, (s.setItem j none).item k = some y → s.item k = some y := by
    intro k y hy
    rw [item_setItem] at hy
    split at hy
    · cases hy
    · exact hy
  exact ⟨fun k y hy => w.1 k y (live k y hy), fun k l y z hy hz => w.2 k l y z (live k y hy) (live l z hz)⟩

theorem State.itemsWf.rewriteItem {s : State} (w : s.itemsWf) {j : ItemSlot} {x y : Item} (hx : s.item j = some x)
    (wf : y.wf) (id : y.id = x.id) (kind : y.kind = x.kind) (place : y.position = x.position) :
    (s.rewriteItem j x y).itemsWf := by
  refine itemsWf_of_items ?_ (w.rewrite hx wf id kind place)
  unfold State.rewriteItem State.raiseIf
  split <;> rfl

theorem State.itemsWf.addUsageOf {s : State} (w : s.itemsWf) (found : Option ItemSlot) (n : Nat) :
    (s.addUsageOf found n).itemsWf := by
  unfold State.addUsageOf State.addUsageAt
  split
  · split
    · rename_i j x hx
      exact w.rewriteItem hx ((w.1 _ _ hx).addUsage n) rfl rfl rfl
    · exact w
  · exact w

/-- The lot a feed carries is a lot. -/
theorem lotOn_kind {s : State} {f : Feed} {j : ItemSlot} {x : Item} (on : s.lotOn f = some j) (hx : s.item j = some x) :
    x.kind = .lot := by
  unfold State.lotOn at on
  split at on
  · obtain ⟨y, hy, is⟩ := findItem_some on
    rw [hx] at hy
    cases hy
    exact (of_decide_eq_true is).1
  · cases on

theorem State.itemsWf.debit {s : State} (w : s.itemsWf) (f : Feed) (v : Nat) : (s.debit f v).state.itemsWf := by
  unfold State.debit
  split
  · exact w
  · rename_i j on
    split
    · exact w
    · rename_i x hx
      have kind := lotOn_kind on hx
      split
      · rename_i enough
        exact w.rewriteItem hx ((w.1 _ _ hx).draw kind enough) rfl rfl rfl
      · exact w.rewriteItem hx ((w.1 _ _ hx).drain kind) rfl rfl rfl

theorem State.itemsWf.ageItem {s : State} (w : s.itemsWf) (j : ItemSlot) : (s.ageItem j).itemsWf := by
  unfold State.ageItem
  split
  · rename_i x hx
    have same : x.ageByMinute.id = x.id ∧ x.ageByMinute.kind = x.kind ∧ x.ageByMinute.position = x.position := by
      unfold Item.ageByMinute
      split <;> exact ⟨rfl, rfl, rfl⟩
    obtain ⟨id, kind, place⟩ := same
    exact w.rewriteItem hx (w.1 _ _ hx).ageByMinute id kind place
  · exact w

theorem displace_item (s : State) (kind : ItemKind) (pos : Position) (j : ItemSlot) :
    (s.displace kind pos).item j = s.item j ∨
      ∃ x, s.item j = some x ∧ x.kind = kind ∧ x.position = some pos ∧
        (s.displace kind pos).item j = some { x with position := none } := by
  unfold State.displace
  split
  · exact .inl rfl
  · rename_i k found
    obtain ⟨x, hx, is⟩ := findItem_some found
    obtain ⟨isKind, isPlace⟩ := of_decide_eq_true is
    simp only [hx, item_setItem]
    split
    · rename_i e
      exact .inr ⟨x, e ▸ hx, isKind, isPlace, rfl⟩
    · exact .inl rfl

theorem State.itemsWf.displace {s : State} (w : s.itemsWf) (kind : ItemKind) (pos : Position) :
    (s.displace kind pos).itemsWf := by
  unfold State.displace
  split
  · exact w
  · split
    · rename_i hx
      exact w.unseat hx
    · exact w

/-- After a displacement nothing of the kind stands at the position (R89, R102). -/
theorem displace_vacates {s : State} (w : s.itemsWf) (kind : ItemKind) (pos : Position) {j : ItemSlot} {y : Item}
    (hy : (s.displace kind pos).item j = some y) (isKind : y.kind = kind) : y.position ≠ some pos := by
  intro here
  cases found : s.mounted kind pos with
  | none =>
    have same : s.displace kind pos = s := by simp only [State.displace, found]
    rw [same] at hy
    simpa [isKind, here] using findItem_none found j y hy
  | some k =>
    obtain ⟨x, hx, is⟩ := findItem_some found
    obtain ⟨_, standing⟩ := of_decide_eq_true is
    have moved : s.displace kind pos = s.setItem k (some { x with position := none }) := by
      simp only [State.displace, found, hx]
    rw [moved, item_setItem] at hy
    split at hy
    · cases hy
      cases here
    · rename_i ne
      obtain ⟨_, apart⟩ := w.2 j k y x hy hx ne
      rcases apart (by simp_all) with none | other
      · rw [none] at here
        cases here
      · exact other (here.trans standing.symm)

end Sys2Proof.Machine

/-! SUPPORT. What every operation of the running station keeps of the Item Table and of the demand on the feeds, said once for
each of them (R87 to R92, R111, R113). -/

namespace Sys2Proof.Machine

/-! ### The demand on one platen -/

/-- What `State.demandWf` asks of one platen. -/
def PlatenSupply.demandWf (x : PlatenSupply) : Prop :=
  (x.dispensing = none → x.demand = ⟨0, 0, 0⟩ ∧ x.strokes = ⟨0, 0, 0⟩) ∧ ∀ f, x.strokes.get f ≤ 4

theorem demandWf_iff (s : State) : s.demandWf ↔ ∀ p, (s.supply.get p).demandWf := Iff.rfl

theorem PlatenSupply.demandWf_clearDemand (x : PlatenSupply) : x.clearDemand.demandWf :=
  ⟨fun _ => ⟨rfl, rfl⟩, fun f => by cases f <;> exact Nat.zero_le _⟩

theorem PlatenSupply.demandWf.addDemand {x : PlatenSupply} (w : x.demandWf) {row : Fin 8} (on : x.dispensing = some row)
    (f : Feed) (volume : Nat) (entry : BlendRow) : (x.addDemand f volume entry).demandWf := by
  unfold PlatenSupply.addDemand
  split
  · refine ⟨fun off => absurd (on.symm.trans off) (by simp), fun g => ?_⟩
    dsimp only
    rw [PerFeed.get_set]
    split
    · exact Nat.min_le_left _ _
    · exact w.2 g
  · exact w

theorem PerFeed.set_zero (f : Feed) : (⟨0, 0, 0⟩ : PerFeed Nat).set f 0 = ⟨0, 0, 0⟩ := by cases f <;> rfl

theorem PerFeed.get_zero (f : Feed) : (⟨0, 0, 0⟩ : PerFeed Nat).get f = 0 := by cases f <;> rfl

theorem PlatenSupply.demandWf.takeStroke {x : PlatenSupply} (w : x.demandWf) (f : Feed) (h : Nat) :
    (x.takeStroke f h).demandWf := by
  refine ⟨fun off => ?_, fun g => ?_⟩
  · obtain ⟨demand, strokes⟩ := w.1 off
    simp [PlatenSupply.takeStroke, demand, strokes, PerFeed.get_zero, PerFeed.set_zero]
  · show ((x.strokes.set f (x.strokes.get f - 1)).get g) ≤ 4
    rw [PerFeed.get_set]
    split
    · exact (Nat.sub_le _ _).trans (w.2 f)
    · exact w.2 g

theorem PlatenSupply.demandWf.dropFeed {x : PlatenSupply} (w : x.demandWf) (f : Feed) : (x.dropFeed f).demandWf := by
  refine ⟨fun off => ?_, fun g => ?_⟩
  · obtain ⟨demand, strokes⟩ := w.1 off
    simp [PlatenSupply.dropFeed, demand, strokes, PerFeed.set_zero]
  · show ((x.strokes.set f 0).get g) ≤ 4
    rw [PerFeed.get_set]
    split
    · exact Nat.zero_le _
    · exact w.2 g

theorem PlatenSupply.demandWf.close {x : PlatenSupply} (w : x.demandWf) : x.close.demandWf := w

/-! ### Operations -/

/-- An operation keeps the records of the Item Table and the demand on the platens as they should be. -/
structure Stocked (s t : State) : Prop where
  items : s.itemsWf → t.itemsWf
  demand : s.demandWf → t.demandWf

theorem Stocked.same (s : State) : Stocked s s := ⟨id, id⟩

theorem Stocked.then {s t u : State} (a : Stocked s t) (b : Stocked t u) : Stocked s u :=
  ⟨b.items ∘ a.items, b.demand ∘ a.demand⟩

theorem Stocked.ite {s t u : State} (c : Prop) [Decidable c] (a : Stocked s t) (b : Stocked s u) :
    Stocked s (if c then t else u) := by
  split
  · exact a
  · exact b

theorem Stocked.foldl {α : Type} (f : State → α → State) (h : ∀ t i, Stocked t (f t i)) (l : List α) :
    ∀ s : State, Stocked s (l.foldl f s) := by
  induction l with
  | nil => exact Stocked.same
  | cons i l ih => exact fun s => (h s i).then (ih (f s i))

/-- An operation that changes no supply state. -/
theorem Stocked.stock {s t : State} (d : t.supply = s.supply) (i : s.itemsWf → t.itemsWf) : Stocked s t := by
  refine ⟨i, fun w => ?_⟩
  rw [demandWf_iff] at w ⊢
  rwa [d]

/-- An operation that changes no item and no supply state. -/
theorem Stocked.of {s t : State} (i : t.items = s.items) (d : t.supply = s.supply) : Stocked s t :=
  .stock d (itemsWf_of_items i)

theorem Stocked.raise (s : State) (c : Cause) : Stocked s (s.raise c) := .of rfl rfl

theorem Stocked.raiseIf (s : State) (b : Bool) (c : Cause) : Stocked s (s.raiseIf b c) := .ite _ (.raise s c) (.same s)

theorem Stocked.setPass (s : State) (i : PassSlot) (r : Option Pass) : Stocked s (s.setPass i r) := .of rfl rfl

theorem Stocked.updateHead (s : State) (h : Head) (f : Chan → Channel → Channel) : Stocked s (s.updateHead h f) :=
  .of rfl rfl

theorem Stocked.setChannel (s : State) (h : Head) (c : Chan) (x : Channel) : Stocked s (s.setChannel h c x) := .of rfl rfl

theorem Stocked.setRotation (s : State) (p : Platen) (x : Rotation) : Stocked s (s.setRotation p x) := .of rfl rfl

theorem Stocked.closeWindows (s : State) (p : Platen) : Stocked s (s.closeWindows p) := .of rfl rfl

theorem Stocked.setFeed (s : State) (f : Feed) (x : FeedUnit) : Stocked s (s.setFeed f x) := .of rfl rfl

theorem Stocked.elapse (s : State) (dt : Nat) : Stocked s (s.elapse dt) := .of rfl rfl

theorem Stocked.runTo (s : State) (moment : Nat) : Stocked s (s.runTo moment) := .of rfl rfl

theorem Stocked.setSupply (s : State) (p : Platen) (x : PlatenSupply) (w : (s.supply.get p).demandWf → x.demandWf) :
    Stocked s (s.setSupply p x) := by
  refine ⟨itemsWf_of_items rfl, fun all q => ?_⟩
  rw [setSupply_supply, PerPlaten.get_set]
  split
  · exact w (all p)
  · exact all q

theorem Stocked.startDispensing (s : State) (p : Platen) (row : Fin 8) : Stocked s (s.startDispensing p row) :=
  .setSupply _ _ _ fun w => ⟨fun off => (nomatch off), w.2⟩

theorem Stocked.stopDispensing (s : State) (p : Platen) : Stocked s (s.stopDispensing p) :=
  .setSupply _ _ _ fun _ => ⟨fun _ => ⟨rfl, rfl⟩, (s.supply.get p).demandWf_clearDemand.2⟩

theorem Stocked.clearAllDemand (s : State) : Stocked s s.clearAllDemand := by
  refine ⟨itemsWf_of_items rfl, fun _ p => ?_⟩
  rw [State.clearAllDemand, PerPlaten.get_map]
  exact (s.supply.get p).demandWf_clearDemand

theorem Stocked.setArm (s : State) (p : Platen) (a : Arm) : Stocked s (s.setArm p a) := .of rfl rfl

theorem Stocked.beginSweep (s : State) (p : Platen) : Stocked s (s.beginSweep p) := .setArm _ _ _

theorem Stocked.parkInSitu (s : State) (p : Platen) : Stocked s (s.parkInSitu p) := .ite _ (.setArm _ _ _) (.same s)

theorem Stocked.endInSitu (s : State) (p : Platen) : Stocked s (s.endInSitu p) := .ite _ (.setArm _ _ _) (.same s)

theorem Stocked.pauseSweeps (s : State) (p : Platen) : Stocked s (s.pauseSweeps p) := .ite _ (.setArm _ _ _) (.same s)

theorem Stocked.resumeSweeps (s : State) (p : Platen) : Stocked s (s.resumeSweeps p) :=
  .ite _ (.beginSweep _ _) (.same s)

theorem Stocked.conditionStart (s : State) (st : StepProgram) : Stocked s (s.conditionStart st) := by
  unfold State.conditionStart
  split
  · exact (Stocked.setArm _ _ _).then (.beginSweep _ _)
  · exact .same s
  · exact .same s

/-! ### Records -/

theorem Stocked.updateLive (s : State) (i : PassSlot) (f : LiveProgress → LiveProgress) : Stocked s (s.updateLive i f) := by
  unfold State.updateLive
  split
  · exact .setPass _ _ _
  · exact .same s

theorem Stocked.updateLiveOn (s : State) (p : Platen) (f : LiveProgress → LiveProgress) : Stocked s (s.updateLiveOn p f) := by
  unfold State.updateLiveOn
  split
  · exact .updateLive _ _ _
  · exact .same s

theorem Stocked.closeSupply (s : State) (p : Platen) : Stocked s (s.closeSupply p) :=
  have h := (Stocked.setSupply s p (s.supply.get p).close fun w => w.close).then
    (.raiseIf _ ((s.supply.get p).close.short && !(s.supply.get p).short) .supply)
  .ite _ (h.then (.updateLiveOn _ _ _)) h

theorem addUsageOf_supply (s : State) (found : Option ItemSlot) (n : Nat) : (s.addUsageOf found n).supply = s.supply := by
  unfold State.addUsageOf State.addUsageAt
  split
  · split
    · exact rewriteItem_supply _ _ _ _
    · rfl
  · rfl

theorem debit_state_supply (s : State) (f : Feed) (v : Nat) : (s.debit f v).state.supply = s.supply := by
  unfold State.debit
  split
  · rfl
  · split
    · rfl
    · split <;> exact rewriteItem_supply _ _ _ _

theorem Stocked.addUsageOf (s : State) (found : Option ItemSlot) (n : Nat) : Stocked s (s.addUsageOf found n) :=
  .stock (addUsageOf_supply _ _ _) fun w => w.addUsageOf _ _

theorem Stocked.debit (s : State) (f : Feed) (v : Nat) : Stocked s (s.debit f v).state :=
  .stock (debit_state_supply _ _ _) fun w => w.debit _ _

theorem Stocked.ageItem (s : State) (j : ItemSlot) : Stocked s (s.ageItem j) := by
  refine .stock ?_ fun w => w.ageItem j
  unfold State.ageItem
  split
  · exact rewriteItem_supply _ _ _ _
  · rfl

/-! ### Start attempts -/

theorem Stocked.startStep (s : State) (i : PassSlot) (r : Pass) (h : Head) (st : StepProgram) :
    Stocked s (s.startStep i r h st) :=
  ((((Stocked.setPass _ _ _).then (.updateHead _ _ _)).then (.startDispensing _ _ _)).then (.conditionStart _ _)).then
    (.addUsageOf _ _ _)

theorem Stocked.attempt (s : State) (i : PassSlot) : Stocked s (s.attempt i) := by
  unfold State.attempt
  split
  · exact .same s
  · split
    · split
      · split
        · exact .setPass _ _ _
        · exact .startStep _ _ _ _ _
      · exact .same s
    · exact .same s

theorem Stocked.attemptEach (s : State) (reaches : Pass → Bool) : Stocked s (s.attemptEach reaches) :=
  Stocked.foldl _ (fun t i => .ite _ (.attempt t i) (.same t)) _ s

theorem Stocked.attemptAll (s : State) : Stocked s s.attemptAll := .attemptEach _ _

theorem Stocked.attemptOver (s : State) (p : Platen) : Stocked s (s.attemptOver p) := .attemptEach _ _

theorem Stocked.attemptOn (s : State) (h : Head) : Stocked s (s.attemptOn h) := .attemptEach _ _

/-! ### Holds -/

theorem Stocked.suspendService (s : State) (r : Pass) : Stocked s (s.suspendService r) := by
  unfold State.suspendService
  split
  · exact ((Stocked.updateHead _ _ _).then (.stopDispensing _ _)).then (.parkInSitu _ _)
  · exact .same s

theorem Stocked.addCause (s : State) (i : PassSlot) (c : HoldCause) : Stocked s (s.addCause i c) := by
  unfold State.addCause
  split
  · exact .same s
  · split
    · exact (Stocked.setPass _ _ _).then (.suspendService _ _)
    · exact .setPass _ _ _
    · exact .same s
    · exact .same s
    · exact .same s

theorem Stocked.addCauseOf (s : State) (found : Option PassSlot) (c : HoldCause) : Stocked s (s.addCauseOf found c) := by
  unfold State.addCauseOf
  split
  · exact .addCause _ _ _
  · exact .same s

theorem Stocked.supplyLoss (s : State) (f : Feed) : Stocked s (s.supplyLoss f) :=
  (Stocked.foldl _ (fun t i => .ite _ (.addCause t i .supply) (.same t)) _ s).then (.raiseIf _ _ _)

theorem Stocked.supplyLossIf (s : State) (b : Bool) (f : Feed) : Stocked s (s.supplyLossIf b f) :=
  .ite _ (.supplyLoss _ _) (.same s)

theorem Stocked.supplyLossAt (s : State) (pos : Option Position) : Stocked s (s.supplyLossAt pos) := by
  unfold State.supplyLossAt
  split
  · exact .supplyLoss _ _
  · exact .same s

/-! ### Arms with a service -/

theorem Stocked.endExSitu (s : State) (p : Platen) : Stocked s (s.endExSitu p) :=
  (Stocked.setArm _ _ _).then (.attemptOver _ _)

theorem Stocked.wearStop (s : State) (p : Platen) : Stocked s (s.wearStop p) := by
  unfold State.wearStop
  split
  · exact .same s
  · exact (Stocked.setArm _ _ _).then (.updateLiveOn _ _ _)
  · exact .endExSitu _ _

theorem Stocked.reportWear (s : State) (p : Platen) : Stocked s (s.reportWear p) := .ite _ (.same s) (.wearStop _ _)

theorem Stocked.handOff (s : State) (p : Platen) (q : Fin 4) (n : Nat) : Stocked s (s.handOff p q n) :=
  .ite _ (.same s) (.ite _ (.same s) (.ite _ (.setArm _ _ _) ((Stocked.setArm _ _ _).then (.beginSweep _ _))))

theorem Stocked.goOnSweeping (s : State) (p : Platen) : Stocked s (s.goOnSweeping p) :=
  .ite _ (.wearStop _ _) (.ite _ (.endExSitu _ _) (.beginSweep _ _))

theorem Stocked.completeSweep (s : State) (p : Platen) : Stocked s (s.completeSweep p) :=
  ((Stocked.addUsageOf s (s.mounted .disk (.platen p)) 1).then (.setArm _ _ _)).then (.goOnSweeping _ _)

theorem Stocked.dwellExpires (s : State) (p : Platen) : Stocked s (s.dwellExpires p) :=
  .ite _ (.setArm _ _ _) (.completeSweep _ _)

/-! ### Step end -/

theorem Stocked.endService (s : State) (h : Head) (st : StepProgram) : Stocked s (s.endService h st) := by
  have base : Stocked s ((s.ventHead h).stopDispensing st.platen) := (Stocked.updateHead _ _ _).then (.stopDispensing _ _)
  unfold State.endService
  dsimp only
  split
  · exact base.then (.endInSitu _ _)
  · exact base
  · exact base

theorem Stocked.handOffAfter (s : State) (st : StepProgram) (cause : StepEnd) : Stocked s (s.handOffAfter st cause) := by
  unfold State.handOffAfter
  split
  · exact .ite _ (.same s) (.handOff _ _ _ _)
  · exact .same s
  · exact .same s

theorem Stocked.endStep (s : State) (i : PassSlot) (cause : StepEnd) : Stocked s (s.endStep i cause) := by
  unfold State.endStep
  split
  · exact .same s
  · split
    · have closed : ∀ r b h st, Stocked s
          (((((s.setPass i r).raise .stepEnd).raiseIf b .passEnd).endService h st).handOffAfter st cause) := fun _ _ _ _ =>
        ((((Stocked.setPass _ _ _).then (.raise _ _)).then (.raiseIf _ _ _)).then (.endService _ _ _)).then
          (.handOffAfter _ _ _)
      exact .ite _ ((closed _ _ _ _).then (.attempt _ _)) (closed _ _ _ _)
    · exact .same s

/-! ### Credited revolutions and accepted edges -/

theorem Stocked.testAndSteer (s : State) (i : PassSlot) (r : Pass) (l : LiveProgress) (st : StepProgram) (h : Head) :
    Stocked s (s.testAndSteer i r l st h) :=
  .ite _ ((Stocked.setPass _ _ _).then (.endStep _ _ _)) ((Stocked.setPass _ _ _).then (.updateHead _ _ _))

theorem Stocked.credit (s : State) (i : PassSlot) (pressures : PerZone Nat) (fsup fgl : Nat) :
    Stocked s (s.credit i pressures fsup fgl) := by
  unfold State.credit
  split
  · exact .same s
  · split
    · exact .ite _ (.setPass _ _ _) (.ite _ (.setPass _ _ _) ((Stocked.addUsageOf _ _ _).then (.testAndSteer _ _ _ _ _ _)))
    · exact .same s

theorem Stocked.acceptEdge (s : State) (p : Platen) : Stocked s (s.acceptEdge p) :=
  (((Stocked.setRotation _ _ _).then (.closeWindows _ _)).then (.setArm _ _ _)).then (.closeSupply _ _)

theorem Stocked.risingIndexEdge (s : State) (p : Platen) : Stocked s (s.risingIndexEdge p) := by
  unfold State.risingIndexEdge
  split
  · exact .same s
  · exact .acceptEdge _ _
  · exact (Stocked.setRotation _ _ _).then (.acceptEdge _ _)
  · exact ((((Stocked.setRotation _ _ _).then (.setRotation _ _ _)).then (.acceptEdge _ _)).then (.attemptOver _ _)).then (.resumeSweeps _ _)
  · have accepted (period : Word32) : Stocked s ((s.writePeriod p period).acceptEdge p) :=
      (Stocked.setRotation _ _ _).then (.acceptEdge _ _)
    dsimp only
    split
    · exact (accepted _).then (.credit _ _ _ _ _)
    · exact accepted _

theorem Stocked.stallSet (s : State) (p : Platen) : Stocked s (s.stallSet p) :=
  (((Stocked.setRotation _ _ _).then (.addCauseOf _ _ _)).then (.raise _ _)).then (.pauseSweeps _ _)

/-! ### Requests -/

theorem Stocked.abort (s : State) (i : PassSlot) (r : Pass) : Stocked s (s.abort i r) :=
  .ite _ (.endStep _ _ _) ((Stocked.setPass _ _ _).then (.raise _ _))

theorem Stocked.amend (s : State) (a : AcceptedAmend) : Stocked s (s.amend a) :=
  .ite _ ((Stocked.setPass _ _ _).then (.endStep _ _ _)) (.setPass _ _ _)

theorem Stocked.conditionResume (s : State) (st : StepProgram) : Stocked s (s.conditionResume st) := by
  unfold State.conditionResume
  split
  · exact .ite _ (.ite _ (.wearStop _ _) (.beginSweep _ _)) (.same s)
  · exact .same s
  · exact .same s

theorem Stocked.resume (s : State) (a : Resume) : Stocked s (s.resume a) :=
  (((Stocked.setPass _ _ _).then (.updateHead _ _ _)).then (.startDispensing _ _ _)).then (.conditionResume _ _)

/-- An item that stands nowhere is mounted where its kind may stand (R101, R102). -/
theorem Stocked.mount {s : State} {m : Mount} (live : s.item m.slot = some m.record)
    (takes : m.position.takes m.record.kind = true) (off : m.record.position = none) : Stocked s (s.mount m) := by
  have placed : Stocked s
      ((s.displace m.record.kind m.position).setItem m.slot (some { m.record with position := some m.position })) := by
    refine .stock ?_ fun w => ?_
    · unfold State.displace
      split
      · rfl
      · split <;> rfl
    · have free := w.displace m.record.kind m.position
      have here : (s.displace m.record.kind m.position).item m.slot = some m.record := by
        rcases displace_item s m.record.kind m.position m.slot with same | ⟨x, hx, _, standing, _⟩
        · exact same.trans live
        · rw [live] at hx
          cases hx
          rw [off] at standing
          cases standing
      obtain ⟨id, _, fields, flags⟩ := w.1 _ _ live
      refine free.setItem _ ⟨id, fun pos h => ?_, fields, flags⟩ fun k y hy ne => ⟨?_, fun kind => .inr fun here => ?_⟩
      · cases h
        exact takes
      · exact (free.2 _ _ _ _ here hy (Ne.symm ne)).1
      · exact displace_vacates w _ _ hy kind.symm here.symm
  exact placed.then (.attemptAll _)

theorem Stocked.dismount {s : State} {j : ItemSlot} {x : Item} (live : s.item j = some x) : Stocked s (s.dismount j x) :=
  have freed : Stocked s (s.setItem j (some { x with position := none })) := .stock rfl fun w => w.unseat live
  freed.then (.supplyLossAt _ _)

theorem Stocked.adjust {s : State} {a : AcceptedAdjust} (rewritten : Stocked s (s.rewriteItem a.slot a.old a.new)) :
    Stocked s (s.adjust a) := by
  have reported : Stocked s (((s.rewriteItem a.slot a.old a.new).reportEmpty a.old a.new).reportDisk a.old a.new) := by
    have emptied (t : State) : Stocked t (t.reportEmpty a.old a.new) := .ite _ (.supplyLossAt _ _) (.same _)
    refine (rewritten.then (emptied _)).then ?_
    unfold State.reportDisk
    split
    · exact .ite _ (.reportWear _ _) (.same _)
    · exact .same _
  exact .ite _ (reported.then (.attemptAll _)) reported

/-! ### The trip, the samples and the slots -/

theorem Stocked.tripArm (s : State) (p : Platen) : Stocked s (s.tripArm p) :=
  .ite _ (.endExSitu _ _) (.ite _ (.setArm _ _ _) (.same s))

theorem Stocked.loseCarousel (s : State) : Stocked s s.loseCarousel := .of rfl rfl

theorem Stocked.trip (s : State) : Stocked s s.trip := by
  have held (t : State) : Stocked t t.holdAll := Stocked.foldl _ (fun u i => .addCause u i .trip) _ t
  have vented (t : State) : Stocked t t.ventAll := .of rfl rfl
  have stopped (t : State) : Stocked t t.tripArms := ((Stocked.tripArm _ _).then (.tripArm _ _)).then (.tripArm _ _)
  have latched : Stocked s ({ s with tripLatch := true }.raise .trip) := .of rfl rfl
  have lost (t : State) : Stocked t t.tripCarousel := .ite _ (.loseCarousel _) (.same _)
  exact ((((latched.then (held _)).then (vented _)).then (.clearAllDemand _)).then (stopped _)).then (lost _)

theorem Stocked.sample (s : State) (h : Head) (c : Chan) (code : BitVec 12) : Stocked s (s.sample h c code) := by
  have handed (t : State) (p : Option Nat) : Stocked t (t.handSample h c p) := by
    unfold State.handSample
    split <;> exact .of rfl rfl
  have reported (t : State) (b a : Bool) : Stocked t (t.reportFault h b a) :=
    .ite _ ((Stocked.addCauseOf _ _ _).then (.raise _ _)) (.ite _ (.attemptOn _ _) (.same t))
  exact ((Stocked.setChannel _ _ _ _).then (handed _ _)).then (reported _ _ _)

theorem Stocked.slotDemand (s : State) (f : Feed) : Stocked s (s.slotDemand f) := by
  refine Stocked.foldl _ (fun t p => ?_) _ s
  unfold State.addDemandOn
  dsimp only
  split
  · rename_i row on
    exact .setSupply _ _ _ fun w => w.addDemand on _ _ _
  · exact .same t

theorem Stocked.grant (s : State) (f : Feed) (p : Platen) : Stocked s (s.grant f p) :=
  (Stocked.setSupply _ _ _ fun w => w.takeStroke _ _).then (.of rfl rfl)

theorem Stocked.slotGrant (s : State) (f : Feed) : Stocked s (s.slotGrant f) := by
  have granted (t : State) (p : Platen) : Stocked t (t.grantTo f p) := by
    unfold State.grantTo
    split
    · exact .grant _ _ _
    · exact (Stocked.ite _ ((Stocked.debit _ _ _).then (.grant _ _ _)) (.debit _ _ _)).then (.supplyLossIf _ _ _)
  unfold State.slotGrant
  split
  · exact .same s
  · dsimp only
    split
    · exact (Stocked.slotDemand _ _).then (granted _ _)
    · exact .slotDemand _ _

theorem Stocked.advancePointer (s : State) (f : Feed) : Stocked s (s.advancePointer f) := by
  have taken (t : State) : Stocked t (t.takeTable f) := by
    unfold State.takeTable
    split
    · exact .same t
    · exact .ite _ (.same t) (.of rfl rfl)
  unfold State.advancePointer
  exact .ite _ ((Stocked.setFeed _ _ _).then (taken _)) (.setFeed _ _ _)

theorem Stocked.runStepTimer (s : State) (h : Head) (units : LiveProgress → StepProgram → Nat) :
    Stocked s (s.runStepTimer h units) := by
  have advanced (t : State) (i r l st n) : Stocked t (t.advanceTimer i r l st n) :=
    .ite _ (((Stocked.runTo _ _).then (.setPass _ _ _)).then (.endStep _ _ _)) ((Stocked.runTo _ _).then (.setPass _ _ _))
  unfold State.runStepTimer
  split
  · exact .same s
  · split
    · exact .same s
    · split
      · exact advanced _ _ _ _ _ _
      · exact .same s

end Sys2Proof.Machine

/-! SUPPORT. The arms' sweeps through the requests and events that Laws/Sweeps leaves out (R126, R127). -/

namespace Sys2Proof.Machine

theorem SweepsKept.supplyLossIf (s : State) (b : Bool) (f : Feed) : SweepsKept s (s.supplyLossIf b f) :=
  .ite _ (.supplyLoss _ _) (.same s)

theorem SweepsKept.supplyLossAt (s : State) (pos : Option Position) : SweepsKept s (s.supplyLossAt pos) := by
  unfold State.supplyLossAt
  split
  · exact .supplyLoss _ _
  · exact .same s

theorem SweepsKept.setRotation (s : State) (p : Platen) (x : Rotation) : SweepsKept s (s.setRotation p x) := .of rfl rfl

theorem SweepsKept.setFeed (s : State) (f : Feed) (x : FeedUnit) : SweepsKept s (s.setFeed f x) := .of rfl rfl

theorem SweepsKept.setChannel (s : State) (h : Head) (c : Chan) (x : Channel) : SweepsKept s (s.setChannel h c x) :=
  .of rfl rfl

theorem SweepsKept.runTo (s : State) (moment : Nat) : SweepsKept s (s.runTo moment) := .of rfl rfl

theorem SweepsKept.raise (s : State) (c : Cause) : SweepsKept s (s.raise c) := .of rfl rfl

theorem SweepsKept.testAndSteer (s : State) (i : PassSlot) (r : Pass) (l : LiveProgress) (st : StepProgram) (h : Head) :
    SweepsKept s (s.testAndSteer i r l st h) :=
  .ite _ ((SweepsKept.setPass _ _ _).then (.endStep _ _ _)) ((SweepsKept.setPass _ _ _).then (.updateHead _ _ _))

theorem SweepsKept.credit (s : State) (i : PassSlot) (pressures : PerZone Nat) (fsup fgl : Nat) :
    SweepsKept s (s.credit i pressures fsup fgl) := by
  unfold State.credit
  split
  · exact .same s
  · split
    · exact .ite _ (.setPass _ _ _)
        (.ite _ (.setPass _ _ _) ((SweepsKept.plain (.addUsageOf _ _ _)).then (.testAndSteer _ _ _ _ _ _)))
    · exact .same s

theorem SweepsKept.risingIndexEdge (s : State) (p : Platen) : SweepsKept s (s.risingIndexEdge p) := by
  unfold State.risingIndexEdge
  split
  · exact .same s
  · exact .acceptEdge _ _
  · exact (SweepsKept.setRotation _ _ _).then (.acceptEdge _ _)
  · exact ((((SweepsKept.setRotation _ _ _).then (.setRotation _ _ _)).then (.acceptEdge _ _)).then (.attemptOver _ _)).then
      (.resumeSweeps _ _)
  · have accepted (period : Word32) : SweepsKept s ((s.writePeriod p period).acceptEdge p) :=
      (SweepsKept.setRotation _ _ _).then (.acceptEdge _ _)
    dsimp only
    split
    · exact (accepted _).then (.credit _ _ _ _ _)
    · exact accepted _

theorem SweepsKept.stallSet (s : State) (p : Platen) : SweepsKept s (s.stallSet p) :=
  (((SweepsKept.setRotation _ _ _).then (.addCauseOf _ _ _)).then (.raise _ _)).then (.pauseSweeps _ _)

theorem SweepsKept.abort (s : State) (i : PassSlot) (r : Pass) : SweepsKept s (s.abort i r) :=
  .ite _ (.endStep _ _ _) ((SweepsKept.setPass _ _ _).then (.raise _ _))

theorem SweepsKept.amend (s : State) (a : AcceptedAmend) : SweepsKept s (s.amend a) :=
  .ite _ ((SweepsKept.setPass _ _ _).then (.endStep _ _ _)) (.setPass _ _ _)

theorem SweepsKept.resume (s : State) (a : Resume) : SweepsKept s (s.resume a) :=
  (((SweepsKept.setPass _ _ _).then (.updateHead _ _ _)).then (.plain (.setSupply _ _ _))).then (.conditionResume _ _)

theorem SweepsKept.mount (s : State) (m : Mount) : SweepsKept s (s.mount m) :=
  ((SweepsKept.plain (.displace _ _ _)).then (.plain (.setItem _ _ _))).then (.attemptAll _)

theorem SweepsKept.dismount (s : State) (j : ItemSlot) (i : Item) : SweepsKept s (s.dismount j i) :=
  (SweepsKept.plain (.setItem _ _ _)).then (.supplyLossAt _ _)

theorem SweepsKept.adjust (s : State) (a : AcceptedAdjust) : SweepsKept s (s.adjust a) := by
  have reported : SweepsKept s (((s.rewriteItem a.slot a.old a.new).reportEmpty a.old a.new).reportDisk a.old a.new) := by
    have emptied (t : State) : SweepsKept t (t.reportEmpty a.old a.new) := .ite _ (.supplyLossAt _ _) (.same _)
    refine ((SweepsKept.plain (.rewriteItem s a.slot a.old a.new)).then (emptied _)).then ?_
    unfold State.reportDisk
    split
    · exact .ite _ (.reportWear _ _) (.same _)
    · exact .same _
  exact .ite _ (reported.then (.attemptAll _)) reported

theorem SweepsKept.tripArm (s : State) (p : Platen) : SweepsKept s (s.tripArm p) :=
  .ite _ (.endExSitu _ _) (.ite _ (.park _ _ _ rfl rfl) (.same s))

theorem SweepsKept.loseCarousel (s : State) : SweepsKept s s.loseCarousel := .of rfl rfl

theorem SweepsKept.trip (s : State) : SweepsKept s s.trip := by
  have latched : SweepsKept s ({ s with tripLatch := true }.raise .trip) := .of rfl rfl
  have held (t : State) : SweepsKept t t.holdAll := SweepsKept.foldl _ (fun u i => .addCause u i .trip) _ t
  have vented (t : State) : SweepsKept t t.ventAll := .of rfl rfl
  have stopped (t : State) : SweepsKept t t.tripArms := ((SweepsKept.tripArm _ _).then (.tripArm _ _)).then (.tripArm _ _)
  have lost (t : State) : SweepsKept t t.tripCarousel := .ite _ (.loseCarousel _) (.same _)
  exact ((((latched.then (held _)).then (vented _)).then (.plain (.clearAllDemand _))).then (stopped _)).then (lost _)

theorem SweepsKept.sample (s : State) (h : Head) (c : Chan) (code : BitVec 12) : SweepsKept s (s.sample h c code) := by
  have handed (t : State) (p : Option Nat) : SweepsKept t (t.handSample h c p) := by
    unfold State.handSample
    split <;> exact .of rfl rfl
  have reported (t : State) (b a : Bool) : SweepsKept t (t.reportFault h b a) :=
    .ite _ ((SweepsKept.addCauseOf _ _ _).then (.raise _ _)) (.ite _ (.attemptOn _ _) (.same t))
  exact ((SweepsKept.setChannel _ _ _ _).then (handed _ _)).then (reported _ _ _)

theorem SweepsKept.slotGrant (s : State) (f : Feed) : SweepsKept s (s.slotGrant f) := by
  have granted (t : State) (p : Platen) : SweepsKept t (t.grantTo f p) := by
    have grant (u : State) : SweepsKept u (u.grant f p) := .of rfl rfl
    unfold State.grantTo
    split
    · exact grant _
    · exact (SweepsKept.ite _ ((SweepsKept.plain (.debit _ _ _)).then (grant _)) (.plain (.debit _ _ _))).then
        (.supplyLossIf _ _ _)
  unfold State.slotGrant
  split
  · exact .same s
  · dsimp only
    split
    · exact (SweepsKept.plain (.slotDemand _ _)).then (granted _ _)
    · exact .plain (.slotDemand _ _)

theorem SweepsKept.advancePointer (s : State) (f : Feed) : SweepsKept s (s.advancePointer f) := by
  have taken (t : State) : SweepsKept t (t.takeTable f) := by
    unfold State.takeTable
    split
    · exact .same t
    · exact .ite _ (.same t) (.of rfl rfl)
  unfold State.advancePointer
  exact .ite _ ((SweepsKept.setFeed _ _ _).then (taken _)) (.setFeed _ _ _)

theorem SweepsKept.runStepTimer (s : State) (h : Head) (units : LiveProgress → StepProgram → Nat) :
    SweepsKept s (s.runStepTimer h units) := by
  have advanced (t : State) (i r l st n) : SweepsKept t (t.advanceTimer i r l st n) :=
    .ite _ (((SweepsKept.runTo _ _).then (.setPass _ _ _)).then (.endStep _ _ _))
      ((SweepsKept.runTo _ _).then (.setPass _ _ _))
  unfold State.runStepTimer
  split
  · exact .same s
  · split
    · exact .same s
    · split
      · exact advanced _ _ _ _ _ _
      · exact .same s

end Sys2Proof.Machine

/-! SUPPORT. Settings read from bytes lie in their ranges, and stay there when they are applied (R69, R84, R109, R110, R118, R127,
R139, R140, R181). -/

namespace Sys2Proof.Machine

/-! ### What a reader reads -/

theorem field_one_le (bs : List Byte) (o : Nat) : field bs o 1 ≤ 255 := Nat.le_of_lt_succ (field_lt bs o 1)

theorem readHeadSettings_inRange {bs : List Byte} {x : HeadSettings} (h : readHeadSettings bs = some x) :
    x.inRange = true := by
  unfold readHeadSettings at h
  dsimp only at h
  split at h
  · rename_i ok
    cases h
    exact ok
  · cases h

/-- A blend row as `State.settingsWf` asks for it (R109). -/
def BlendRow.fits (r : BlendRow) : Prop := r.inRange = true ∧ r.partA ≤ 255 ∧ r.partB ≤ 255 ∧ r.partC ≤ 255

theorem readRow_fits {bs : List Byte} {r : BlendRow} (h : readRow bs = some r) : r.fits := by
  unfold readRow at h
  dsimp only at h
  split at h
  · rename_i ok
    cases h
    exact ⟨ok, field_one_le _ _, field_one_le _ _, field_one_le _ _⟩
  · cases h

/-- The entries that are read are as many as the bytes (R118). -/
theorem length_readPhases : ∀ {bs : List Byte} {t : PhaseTable}, readPhases bs = some t → t.length = bs.length
  | [], _, h => by cases h; rfl
  | b :: bs, _, h => by
    unfold readPhases at h
    split at h
    · rename_i rest _ more
      cases h
      exact congrArg (· + 1) (length_readPhases more)
    · cases h

/-- A sweep profile as `State.settingsWf` asks for it (R127, R139). -/
def profileFits (pr : Profile) : Prop := 1 ≤ pr.length ∧ pr.length ≤ 10 ∧ ∀ g ∈ pr, g.inRange = true

theorem readSegments_inRange : ∀ {n : Nat} {bs : List Byte} {pr : Profile}, readSegments n bs = some pr →
    pr.length = n ∧ ∀ g ∈ pr, g.inRange = true
  | 0, _, _, h => by cases h; exact ⟨rfl, fun _ m => nomatch m⟩
  | n + 1, _, _, h => by
    unfold readSegments at h
    dsimp only at h
    split at h
    · rename_i rest more
      split at h
      · rename_i ok
        cases h
        obtain ⟨length, all⟩ := readSegments_inRange more
        exact ⟨congrArg (· + 1) length, List.forall_mem_cons.2 ⟨ok, all⟩⟩
      · cases h
    · cases h

theorem readSegments_fits {n : Nat} {bs : List Byte} {pr : Profile} (count : within 1 10 n = true)
    (h : readSegments n bs = some pr) : profileFits pr := by
  obtain ⟨low, high⟩ := (within_iff _ _ _).1 count
  obtain ⟨length, all⟩ := readSegments_inRange h
  exact ⟨length ▸ low, length ▸ high, all⟩

/-- Glaze settings as `State.settingsWf` asks for them (R140). -/
def GlazeSettings.fits (g : GlazeSettings) : Prop := g.rate ≤ 255 ∧ g.floor ≤ 4096

theorem readGlaze_fits {bs : List Byte} {g : GlazeSettings} (h : readGlaze bs = some g) : g.fits := by
  unfold readGlaze at h
  dsimp only at h
  split at h
  · rename_i ok
    cases h
    exact ⟨field_one_le _ _, ((within_iff _ _ _).1 ok).2⟩
  · cases h

theorem volumeInRange_iff (v : Nat) : volumeInRange v = true ↔ 10 ≤ v ∧ v ≤ 2000 := within_iff 10 2000 v

/-! ### What an image stores -/

/-- Stored settings each field of which lies in its range (R181). -/
structure StoredSettings.Fits (x : StoredSettings) : Prop where
  heads : ∀ h, (x.heads.get h).inRange = true
  rows : ∀ r ∈ x.rows, r.fits
  phases : phasesFit x.phases
  volumes : ∀ f, 10 ≤ x.volumes.get f ∧ x.volumes.get f ≤ 2000
  profiles : ∀ pr ∈ x.profiles, profileFits pr
  glaze : ∀ p, (x.glaze.get p).fits

theorem BlendRow.default_fits : BlendRow.default.fits := by
  unfold BlendRow.fits
  decide

theorem defaultProfile_fits : profileFits defaultProfile := by
  unfold profileFits
  decide

theorem GlazeSettings.default_fits : GlazeSettings.default.fits := by
  unfold GlazeSettings.fits
  decide

theorem HeadSettings.default_inRange : HeadSettings.default.inRange = true := by decide

theorem defaultPhases_fit : phasesFit defaultPhases := by
  unfold phasesFit
  decide

theorem StoredSettings.default_fits : StoredSettings.default.Fits where
  heads h := (congrArg HeadSettings.inRange (PerHead.get_all _ h)).trans HeadSettings.default_inRange
  rows r m := by
    rw [List.eq_of_mem_replicate m]
    exact BlendRow.default_fits
  phases := defaultPhases_fit
  volumes f := by
    rw [show StoredSettings.default.volumes.get f = 100 from PerFeed.get_all _ _]
    decide
  profiles pr m := by
    rw [List.eq_of_mem_replicate m]
    exact defaultProfile_fits
  glaze p := by
    rw [show StoredSettings.default.glaze.get p = GlazeSettings.default from PerPlaten.get_all _ _]
    exact GlazeSettings.default_fits

theorem readHeads_inRange {body : List Byte} {x : PerHead HeadSettings} (h : readHeads body = some x) (k : Head) :
    (x.get k).inRange = true := by
  unfold readHeads at h
  split at h
  · rename_i a b c d ha hb hc hd
    cases h
    cases k
    · exact readHeadSettings_inRange ha
    · exact readHeadSettings_inRange hb
    · exact readHeadSettings_inRange hc
    · exact readHeadSettings_inRange hd
  · cases h

theorem readRows_fits : ∀ {n : Nat} {bs : List Byte} {l : List BlendRow}, readRows n bs = some l → ∀ r ∈ l, r.fits
  | 0, _, _, h => by cases h; exact fun _ m => nomatch m
  | n + 1, _, _, h => by
    unfold readRows at h
    split at h
    · rename_i r rest first more
      cases h
      exact List.forall_mem_cons.2 ⟨readRow_fits first, readRows_fits more⟩
    · cases h

theorem readPhaseTable_fits {bs : List Byte} {t : PhaseTable} (length : 33 ≤ bs.length) (h : readPhaseTable bs = some t) :
    phasesFit t := by
  unfold readPhaseTable at h
  dsimp only at h
  split at h
  · rename_i count
    obtain ⟨low, high⟩ := (within_iff _ _ _).1 count
    have entries := length_readPhases h
    rw [List.length_take, List.length_drop] at entries
    exact ⟨by omega, by omega⟩
  · cases h

theorem readVolumes_fits {bs : List Byte} {v : PerFeed Nat} (h : readVolumes bs = some v) (f : Feed) :
    10 ≤ v.get f ∧ v.get f ≤ 2000 := by
  unfold readVolumes at h
  dsimp only at h
  split at h
  · rename_i ok
    cases h
    simp only [Bool.and_eq_true, volumeInRange_iff] at ok
    obtain ⟨⟨a, b⟩, c⟩ := ok
    cases f
    · exact a
    · exact b
    · exact c
  · cases h

theorem readProfiles_fits : ∀ {n : Nat} {bs : List Byte} {l : List Profile}, readProfiles n bs = some l →
    ∀ pr ∈ l, profileFits pr
  | 0, _, _, h => by cases h; exact fun _ m => nomatch m
  | n + 1, _, _, h => by
    unfold readProfiles at h
    split at h
    · rename_i count
      split at h
      · rename_i pr rest first more
        cases h
        exact List.forall_mem_cons.2 ⟨readSegments_fits count first, readProfiles_fits more⟩
      · cases h
    · cases h

theorem readGlazes_fits {bs : List Byte} {g : PerPlaten GlazeSettings} (h : readGlazes bs = some g) (p : Platen) :
    (g.get p).fits := by
  unfold readGlazes at h
  split at h
  · rename_i a b c ha hb hc
    cases h
    cases p
    · exact readGlaze_fits ha
    · exact readGlaze_fits hb
    · exact readGlaze_fits hc
  · cases h

theorem readBody_fits {body : List Byte} {x : StoredSettings} (length : body.length = 422) (h : readBody body = some x) :
    x.Fits := by
  unfold readBody at h
  split at h
  · rename_i heads rows phases volumes profiles glaze _
    cases h
    refine ⟨readHeads_inRange heads, readRows_fits rows, readPhaseTable_fits ?_ phases, readVolumes_fits volumes,
      readProfiles_fits profiles, readGlazes_fits glaze⟩
    rw [List.length_drop, length]
    decide
  · cases h

theorem judgeImage_fits {nack : Option Nat} {bytes : List Byte} {x : StoredSettings} (length : bytes.length = imageBytes)
    (h : judgeImage nack bytes = some x) : x.Fits := by
  unfold judgeImage at h
  dsimp only at h
  split at h
  · exact readBody_fits (by rw [List.length_drop, length]; rfl) h
  · cases h

/-! ### Applying them -/

theorem getD_of_forall {α : Type} {P : α → Prop} {l : List α} (all : ∀ x ∈ l, P x) {d : α} (default : P d) (n : Nat) :
    P (l.getD n d) := by
  rw [List.getD_eq_getElem?_getD]
  cases h : l[n]? with
  | none => exact default
  | some x => exact all x (List.mem_of_getElem? h)

theorem slotAt_ofFn {α : Type} {n : Nat} (f : Fin n → α) (i : Fin n) : slotAt (Vector.ofFn f) i = f i := by
  simp [slotAt]

theorem applySettings_feed (s : State) (x : StoredSettings) (f : Feed) :
    (s.applySettings x).feeds.get f = (s.feeds.get f).apply (x.volumes.get f) x.phases := by
  cases f <;> rfl

theorem applySettings_settingsWf (s : State) {x : StoredSettings} (w : x.Fits) : (s.applySettings x).settingsWf := by
  refine ⟨w.heads, fun r => ?_, fun f => ?_, fun q => ?_, w.glaze⟩
  · rw [State.row, State.applySettings, slotAt_ofFn]
    exact getD_of_forall w.rows BlendRow.default_fits _
  · rw [applySettings_feed]
    exact w.volumes f
  · rw [State.profile, State.applySettings, slotAt_ofFn]
    exact getD_of_forall w.profiles defaultProfile_fits _

theorem applySettings_phasesWf (s : State) {x : StoredSettings} (w : x.Fits) : (s.applySettings x).phasesWf := by
  refine ⟨w.phases, fun f => ?_⟩
  rw [applySettings_feed]
  exact ⟨w.phases, w.phases.1⟩

/-- The load applies settings in their ranges, whatever the EEPROM holds (R181). -/
theorem endLoad_eq (s : State) (nack : Option Nat) : ∃ x : StoredSettings, x.Fits ∧
    (s.endLoad nack = { s.applySettings x with startUp := .ready } ∨
      s.endLoad nack = { s.applySettings x with startUp := .ready, defaulted := true }.raise .settings) := by
  unfold State.endLoad
  split
  · rename_i x judged
    exact ⟨x, judgeImage_fits (length_readCells _ _ _) judged, .inl rfl⟩
  · exact ⟨.default, StoredSettings.default_fits, .inr rfl⟩

end Sys2Proof.Machine

/-! SUPPORT. What every command keeps of the settings, the store, the link, the Item Table, the demand, the sweeps and the drive
request, command by command (R69, R87 to R92, R107 to R118, R126, R127, R139, R140, R142, R170, R171, R182, R183). -/

namespace Sys2Proof.Machine

/-! ### Relations between a state and the next -/

/-- The settings and the store are kept as they should be. -/
structure Settled (s t : State) : Prop where
  settings : s.settingsWf → t.settingsWf
  phases : s.phasesWf → t.phasesWf
  store : s.storeWf → t.storeWf

theorem Settled.same (s : State) : Settled s s := ⟨id, id, id⟩

theorem Settled.then {s t u : State} (a : Settled s t) (b : Settled t u) : Settled s u :=
  ⟨b.settings ∘ a.settings, b.phases ∘ a.phases, b.store ∘ a.store⟩

/-- Feeds whose stroke volumes, tables and pointers stand. -/
def FeedsKept (s t : State) : Prop :=
  ∀ f, (t.feeds.get f).volume = (s.feeds.get f).volume ∧ (t.feeds.get f).active = (s.feeds.get f).active ∧
    (t.feeds.get f).pointer = (s.feeds.get f).pointer

theorem FeedsKept.of_eq {s t : State} (e : t.feeds = s.feeds) : FeedsKept s t := fun f => by rw [e]; exact ⟨rfl, rfl, rfl⟩

theorem FeedsKept.setFeed {s t : State} (f : Feed) (x : FeedUnit) (e : t.feeds = s.feeds.set f x)
    (v : x.volume = (s.feeds.get f).volume) (a : x.active = (s.feeds.get f).active)
    (p : x.pointer = (s.feeds.get f).pointer) : FeedsKept s t := by
  intro g
  rw [e, PerFeed.get_set]
  split
  · rename_i same
    subst same
    exact ⟨v, a, p⟩
  · exact ⟨rfl, rfl, rfl⟩

theorem Settled.kept {s t : State} (a : Kept s t) (feeds : FeedsKept s t) : Settled s t := by
  refine ⟨fun ⟨heads, rows, volumes, profiles, glaze⟩ => ⟨?_, ?_, ?_, ?_, ?_⟩, fun ⟨staged, active⟩ => ⟨?_, ?_⟩, fun w => ?_⟩
  · rw [a.headSettings]; exact heads
  · unfold State.row at rows ⊢; rw [a.rows]; exact rows
  · intro f; rw [(feeds f).1]; exact volumes f
  · unfold State.profile at profiles ⊢; rw [a.profiles]; exact profiles
  · rw [a.glazeSettings]; exact glaze
  · rw [a.staged]; exact staged
  · intro f; rw [(feeds f).2.1, (feeds f).2.2]; exact active f
  · unfold State.storeWf at w ⊢; rw [a.eeprom, a.save]; exact w

theorem Settled.station {s t : State} (a : KeptStation s t) : Settled s t := .kept a.outside (.of_eq a.feeds)

theorem driveWf_of_carousel {s t : State} (e : t.carousel = s.carousel) (w : s.driveWf) : t.driveWf := by
  unfold State.driveWf at w ⊢
  rwa [e]

/-- A request's action, or an event away from the link: what it keeps. -/
structure Acted (s t : State) : Prop where
  settled : Settled s t
  buffers : t.buffers = s.buffers
  stocked : Stocked s t
  sweeps : SweepsKept s t
  drive : s.driveWf → t.driveWf

/-- A command: what it keeps. -/
structure Regular (s t : State) : Prop where
  settled : Settled s t
  link : BuffersWf s.buffers → BuffersWf t.buffers
  stocked : Stocked s t
  sweeps : SweepsKept s t
  drive : s.driveWf → t.driveWf

theorem Acted.same (s : State) : Acted s s := ⟨.same s, rfl, .same s, .same s, id⟩

theorem Acted.then {s t u : State} (a : Acted s t) (b : Acted t u) : Acted s u :=
  ⟨a.settled.then b.settled, b.buffers.trans a.buffers, a.stocked.then b.stocked, a.sweeps.then b.sweeps,
    b.drive ∘ a.drive⟩

theorem Acted.ite {s t u : State} (c : Prop) [Decidable c] (a : Acted s t) (b : Acted s u) :
    Acted s (if c then t else u) := by
  split
  · exact a
  · exact b

theorem Acted.regular {s t : State} (a : Acted s t) : Regular s t :=
  ⟨a.settled, fun w => a.buffers ▸ w, a.stocked, a.sweeps, a.drive⟩

theorem Regular.same (s : State) : Regular s s := (Acted.same s).regular

theorem Regular.ite {s t u : State} (c : Prop) [Decidable c] (a : Regular s t) (b : Regular s u) :
    Regular s (if c then t else u) := by
  split
  · exact a
  · exact b

theorem Acted.kept {s t : State} (k : Kept s t) (f : FeedsKept s t) (i : Stocked s t) (a : SweepsKept s t)
    (d : s.driveWf → t.driveWf) : Acted s t := ⟨.kept k f, k.buffers, i, a, d⟩

theorem Acted.station {s t : State} (k : KeptStation s t) (i : Stocked s t) (a : SweepsKept s t) : Acted s t :=
  .kept k.outside (.of_eq k.feeds) i a (driveWf_of_carousel k.carousel)

theorem Acted.elapse (s : State) (dt : Nat) : Acted s (s.elapse dt) :=
  ⟨⟨id, id, id⟩, rfl, .elapse s dt, .of rfl rfl, id⟩

theorem Acted.runTo (s : State) (moment : Nat) : Acted s (s.runTo moment) :=
  ⟨⟨id, id, id⟩, rfl, .runTo s moment, .of rfl rfl, id⟩

theorem Acted.setChannel (s : State) (h : Head) (c : Chan) (x : Channel) : Acted s (s.setChannel h c x) :=
  .station (.setChannel _ _ _ _) (.setChannel _ _ _ _) (.of rfl rfl)

/-- A change of nothing that the relation speaks of. -/
theorem Acted.outside {s t : State} (k : Settled s t) (b : t.buffers = s.buffers) (i : t.items = s.items)
    (d : t.supply = s.supply) (a : t.arms = s.arms) (p : t.profiles = s.profiles) (c : t.carousel = s.carousel) : Acted s t :=
  ⟨k, b, .of i d, .of a p, driveWf_of_carousel c⟩

/-! ### Taking a request -/

theorem takeable_none_taken {bs : List Buffer} {q : Request} (h : takeable bs = some q) : bs.any isTaken = false := by
  unfold takeable at h
  split at h
  · cases h
  · exact Bool.eq_false_of_not_eq_true ‹_›

theorem Regular.respond {s t : State} {q : Request} (found : takeable s.buffers = some q) (a : Acted s t) (r : Response) :
    Regular s (t.respond r) := by
  refine ⟨a.settled.then ⟨id, id, id⟩, fun w => ?_, a.stocked.then (.of rfl rfl), a.sweeps.then (.of rfl rfl), a.drive⟩
  show BuffersWf (answer r (t.buffers.any isSending) t.buffers)
  rw [a.buffers]
  exact w.answer r (takeable_none_taken found)

/-- The taking of a request is regular when its action keeps what it should. -/
theorem Regular.serve {α : Type} (s : State) (dt : Nat) (name : RequestName) (rule : Handler α)
    (act : ∀ payload a, rule.check payload (s.elapse dt) = .ok a → Acted (s.elapse dt) (rule.act a (s.elapse dt)).1) :
    Regular s ((s.elapse dt).serve name rule) := by
  have passed := Acted.elapse s dt
  unfold State.serve
  split
  · exact passed.regular
  · rename_i q found
    have found : takeable s.buffers = some q := found
    split
    · split
      · exact .respond found passed _
      · split
        · exact .respond found passed _
        · rename_i a accepted
          exact .respond found (passed.then (act _ a accepted)) _
    · exact passed.regular

theorem Regular.serveUnknown (s : State) (dt : Nat) : Regular s (s.elapse dt).serveUnknown := by
  unfold State.serveUnknown
  split
  · exact (Acted.elapse s dt).regular
  · rename_i q found
    exact .ite _ (.respond (s := s) found (.elapse s dt) _) (Acted.elapse s dt).regular

/-- RESTART drops the HELD request beside its own, which is answered (R179). -/
theorem Regular.restart (s : State) (dt : Nat) : Regular s ((s.elapse dt).serve .restart restartRule) := by
  have settled : Settled s ((s.elapse dt).serve .restart restartRule) :=
    serve_keeps (P := Settled s) _ _ _ ⟨id, id, id⟩ (fun _ _ h => ⟨h.settings, h.phases, h.store⟩) fun _ _ _ => ⟨id, id, id⟩
  have stocked : Stocked s ((s.elapse dt).serve .restart restartRule) :=
    serve_keeps (P := Stocked s) _ _ _ (.elapse s dt) (fun _ _ h => ⟨h.items, h.demand⟩) fun _ _ _ => ⟨id, id⟩
  have sweeps : SweepsKept s ((s.elapse dt).serve .restart restartRule) :=
    serve_keeps (P := SweepsKept s) _ _ _ (.of rfl rfl) (fun _ _ h => ⟨h.keep⟩) fun _ _ _ => .of rfl rfl
  have drive : s.driveWf → ((s.elapse dt).serve .restart restartRule).driveWf := fun w =>
    serve_keeps (P := State.driveWf) _ _ _ w (fun _ _ h => h) fun _ _ _ => w
  refine ⟨settled, fun w => ?_, stocked, sweeps, drive⟩
  unfold State.serve
  split
  · exact w
  · rename_i q found
    have none : s.buffers.any isTaken = false := takeable_none_taken found
    split
    · split
      · exact w.answer _ none
      · split
        · exact w.answer _ none
        · obtain ⟨form, same⟩ := w.dropOtherHeld
          exact form.answer _ (same.trans none)
    · exact w

/-! ### The link's events -/

theorem Regular.link_only {s t : State} (k : Settled s t) (i : t.items = s.items) (d : t.supply = s.supply)
    (a : t.arms = s.arms) (p : t.profiles = s.profiles) (c : t.carousel = s.carousel)
    (b : BuffersWf s.buffers → BuffersWf t.buffers) : Regular s t := ⟨k, b, .of i d, .of a p, driveWf_of_carousel c⟩

theorem Regular.receive (s : State) (ch : LinkChar) : Regular s (s.receive ch) := by
  unfold State.receive
  split
  · exact .link_only ⟨id, id, id⟩ rfl rfl rfl rfl rfl id
  · dsimp only
    split
    · exact .link_only ⟨id, id, id⟩ rfl rfl rfl rfl rfl id
    · split
      · exact .link_only ⟨id, id, id⟩ rfl rfl rfl rfl rfl id
      · split
        · unfold State.judgeFrame
          split
          · unfold State.storeRequest
            split
            · rename_i room
              exact .link_only ⟨id, id, id⟩ rfl rfl rfl rfl rfl fun w => w.store _ room
            · exact .link_only ⟨id, id, id⟩ rfl rfl rfl rfl rfl id
          · exact .link_only ⟨id, id, id⟩ rfl rfl rfl rfl rfl id
        · exact .link_only ⟨id, id, id⟩ rfl rfl rfl rfl rfl id

theorem Regular.receiveBreak (s : State) : Regular s s.receiveBreak := by
  unfold State.receiveBreak
  dsimp only
  split
  · exact .link_only ⟨id, id, id⟩ rfl rfl rfl rfl rfl id
  · split <;> exact .link_only ⟨id, id, id⟩ rfl rfl rfl rfl rfl id

theorem Regular.idleEnds (s : State) (bytes : List Byte) : Regular s (s.idleEnds bytes) := by
  unfold State.idleEnds
  split <;> exact .link_only ⟨id, id, id⟩ rfl rfl rfl rfl rfl id

theorem Regular.then_acted {s t u : State} (a : Regular s t) (b : Acted t u) : Regular s u :=
  ⟨a.settled.then b.settled, fun w => b.buffers ▸ a.link w, a.stocked.then b.stocked, a.sweeps.then b.sweeps,
    b.drive ∘ a.drive⟩

theorem Acted.then_regular {s t u : State} (a : Acted s t) (b : Regular t u) : Regular s u :=
  ⟨a.settled.then b.settled, fun w => b.link (a.buffers ▸ w), a.stocked.then b.stocked, a.sweeps.then b.sweeps,
    b.drive ∘ a.drive⟩

/-! ### The write requests -/

theorem Acted.writeHead {payload : List Byte} {s : State} {w : HeadWrite} (h : headWriteCheck payload s = .ok w) :
    Acted s (s.writeHead w) := by
  have range : w.settings.inRange = true := by
    unfold headWriteCheck at h
    split at h
    · cases h
    · split at h
      · rename_i x _ read
        cases h
        exact readHeadSettings_inRange read
      · cases h
  refine .outside ⟨fun ⟨heads, rest⟩ => ⟨fun k => ?_, rest⟩, id, id⟩ rfl rfl rfl rfl rfl rfl
  show ((s.headSettings.set w.head w.settings).get k).inRange = true
  rw [PerHead.get_set]
  split
  · exact range
  · exact heads k

theorem Acted.writeRow {payload : List Byte} {s : State} {a : Fin 8 × BlendRow} (h : blendWriteCheck payload s = .ok a) :
    Acted s { s with rows := putAt s.rows a.1 a.2 } := by
  have fits : a.2.fits := by
    unfold blendWriteCheck at h
    split at h
    · cases h
    · split at h
      · rename_i row _ read
        split at h
        · cases h
        · cases h
          exact readRow_fits read
      · cases h
  refine .outside ⟨fun ⟨heads, rows, rest⟩ => ⟨heads, fun r => ?_, rest⟩, id, id⟩ rfl rfl rfl rfl rfl rfl
  show (slotAt (putAt s.rows a.1 a.2) r).fits
  rw [slotAt_putAt]
  split
  · exact fits
  · exact rows r

theorem Acted.writeFeed {payload : List Byte} {s : State} {a : Feed × Nat} (h : feedWriteCheck payload s = .ok a) :
    Acted s (s.writeFeed a.1 a.2) := by
  have range : 10 ≤ a.2 ∧ a.2 ≤ 2000 := by
    unfold feedWriteCheck at h
    split at h
    · cases h
    · split at h
      · split at h
        · rename_i ok
          cases h
          exact (volumeInRange_iff _).1 ok
        · cases h
      · cases h
  refine .ite _ (.same s) ⟨⟨fun ⟨heads, rows, volumes, rest⟩ => ⟨heads, rows, fun f => ?_, rest⟩, fun w => ⟨w.1, fun f => ?_⟩, id⟩,
    rfl, ⟨itemsWf_of_items rfl, fun w p => ?_⟩, .of rfl rfl, id⟩
  · rw [setFeed_feeds, PerFeed.get_set]
    split
    · exact range
    · exact volumes f
  · rw [setFeed_feeds, PerFeed.get_set]
    split
    · exact w.2 a.1
    · exact w.2 f
  · show ((s.supply.map (PlatenSupply.dropFeed a.1)).get p).demandWf
    rw [PerPlaten.get_map]
    exact PlatenSupply.demandWf.dropFeed (w p) a.1

theorem phaseWriteCheck_fits {payload : List Byte} {s : State} {t : PhaseTable} (h : phaseWriteCheck payload s = .ok t) :
    phasesFit t := by
  unfold phaseWriteCheck at h
  split at h
  · cases h
  · split at h
    · cases h
    · rename_i count
      split at h
      · cases h
      · rename_i length
        split at h
        · cases h
        · rename_i t read
          split at h
          · cases h
          · cases h
            obtain ⟨low, high⟩ := (within_iff _ _ _).1 (by simpa using count)
            have entries := length_readPhases read
            rw [List.length_drop] at entries
            exact ⟨by omega, by omega⟩

theorem Acted.writePhases {payload : List Byte} {s : State} {t : PhaseTable} (h : phaseWriteCheck payload s = .ok t) :
    Acted s { s with staged := t } :=
  .outside ⟨id, fun w => ⟨phaseWriteCheck_fits h, w.2⟩, id⟩ rfl rfl rfl rfl rfl rfl

theorem profileWriteCheck_fits {payload : List Byte} {s : State} {a : Fin 4 × Profile}
    (h : profileWriteCheck payload s = .ok a) : profileFits a.2 := by
  unfold profileWriteCheck at h
  dsimp only at h
  split at h
  · cases h
  · split at h
    · cases h
    · split at h
      · cases h
      · rename_i count
        split at h
        · cases h
        · split at h
          · cases h
          · rename_i read
            split at h
            · cases h
            · cases h
              exact readSegments_fits (by simpa using count) read

theorem Acted.writeProfile {payload : List Byte} {s : State} {a : Fin 4 × Profile}
    (h : profileWriteCheck payload s = .ok a) : Acted s { s with profiles := putAt s.profiles a.1 a.2 } := by
  have fits := profileWriteCheck_fits h
  have written (q : Fin 4) : (State.profile { s with profiles := putAt s.profiles a.1 a.2 } q) =
      if q = a.1 then a.2 else s.profile q := slotAt_putAt _ _ _ _
  refine ⟨⟨fun ⟨heads, rows, volumes, profiles, glaze⟩ => ⟨heads, rows, volumes, fun q => ?_, glaze⟩, id, id⟩, rfl, .of rfl rfl,
    ⟨fun ⟨profiles, arms⟩ => ⟨fun q => ?_, arms⟩⟩, id⟩
  all_goals
    rw [written]
    split
  · exact fits
  · exact profiles q
  · exact List.length_pos_iff.1 fits.1
  · exact profiles q

theorem Acted.writeGlaze {payload : List Byte} {s : State} {a : Platen × GlazeSettings}
    (h : platenWriteCheck payload s = .ok a) : Acted s { s with glazeSettings := s.glazeSettings.set a.1 a.2 } := by
  have fits : a.2.fits := by
    unfold platenWriteCheck at h
    split at h
    · cases h
    · split at h
      · rename_i g _ read
        cases h
        exact readGlaze_fits read
      · cases h
  refine .outside ⟨fun ⟨heads, rows, volumes, profiles, glaze⟩ => ⟨heads, rows, volumes, profiles, fun p => ?_⟩, id, id⟩ rfl rfl rfl
    rfl rfl rfl
  show ((s.glazeSettings.set a.1 a.2).get p).fits
  rw [PerPlaten.get_set]
  split
  · exact fits
  · exact glaze p

/-! ### The requests of the Item Table -/

theorem itemById_none {s : State} {id : Word32} (h : s.itemById id = none) {j : ItemSlot} {x : Item} (hx : s.item j = some x) :
    x.id ≠ id := of_decide_eq_false (findItem_none h j x hx)

theorem itemRegisterCheck_ok {payload : List Byte} {s : State} {a : ItemSlot × Item}
    (h : itemRegisterCheck payload s = .ok a) :
    readItem payload = some a.2 ∧ ∀ k y, s.item k = some y → y.id ≠ a.2.id := by
  unfold itemRegisterCheck at h
  split at h
  · cases h
  · split at h
    · cases h
    · rename_i x read
      split at h
      · cases h
      · rename_i fresh
        split at h
        · cases h
        · cases h
          exact ⟨read, fun k y hy => itemById_none (by simpa using fresh) hy⟩

theorem itemChecks_ok {α : Type} {n : Nat} {b : Bool} {payload : List Byte} {s : State} {own : ItemSlot → Item → Except Status α}
    {a : α} (h : itemChecks n b payload s own = .ok a) : ∃ j x, s.item j = some x ∧ b = true ∧ own j x = .ok a := by
  unfold itemChecks at h
  split at h
  · cases h
  · split at h
    · cases h
    · rename_i range
      split at h
      · cases h
      · split at h
        · rename_i x hx
          exact ⟨_, x, hx, by simpa using fun e => range (.inr e), h⟩
        · cases h

theorem itemMountCheck_ok {payload : List Byte} {s : State} {m : Mount} (h : itemMountCheck payload s = .ok m) :
    s.item m.slot = some m.record ∧ m.position.takes m.record.kind = true ∧ m.record.position = none := by
  unfold itemMountCheck at h
  split at h
  · obtain ⟨j, x, hx, _, own⟩ := itemChecks_ok h
    unfold mountChecks at own
    split at own
    · cases own
    · rename_i takes
      split at own
      · cases own
      · rename_i off
        split at own
        · cases own
        · cases own
          exact ⟨hx, by simpa using takes, by simpa using fun e => off (.inl e)⟩
  · obtain ⟨_, _, _, _, own⟩ := itemChecks_ok h
    cases own

theorem itemDismountCheck_ok {payload : List Byte} {s : State} {a : ItemSlot × Item}
    (h : itemDismountCheck payload s = .ok a) : s.item a.1 = some a.2 := by
  obtain ⟨j, x, hx, _, own⟩ := itemChecks_ok h
  split at own
  · cases own
  · split at own
    · cases own
    · cases own
      exact hx

theorem itemAdjustCheck_ok {payload : List Byte} {s : State} {a : AcceptedAdjust} (h : itemAdjustCheck payload s = .ok a) :
    s.item a.slot = some a.old ∧ (s.itemsWf → a.new.wf) ∧ a.new.id = a.old.id ∧ a.new.kind = a.old.kind ∧
      a.new.position = a.old.position := by
  unfold itemAdjustCheck at h
  dsimp only at h
  split at h
  · cases h
  · obtain ⟨j, x, hx, range, own⟩ := itemChecks_ok h
    split at own
    · rename_i fits
      cases own
      exact ⟨hx, fun w => (w.1 j x hx).adjust (Bool.and_eq_true _ _ ▸ range).2 fits, rfl, rfl, rfl⟩
    · cases own

theorem Acted.register {payload : List Byte} {s : State} {a : ItemSlot × Item} (h : itemRegisterCheck payload s = .ok a) :
    Acted s ((s.setItem a.1 (some a.2)).raiseIf a.2.flags.any .item) := by
  obtain ⟨read, fresh⟩ := itemRegisterCheck_ok h
  obtain ⟨wf, off⟩ := readItem_wf read
  have placed : Stocked s (s.setItem a.1 (some a.2)) := .stock rfl fun w =>
    w.setItem _ wf fun k y hy _ => ⟨Ne.symm (fresh k y hy), fun _ => .inl off⟩
  exact .station ((KeptStation.setItem _ _ _).then (.raiseIf _ _ _)) (placed.then (.raiseIf _ _ _))
    ((SweepsKept.plain (.setItem _ _ _)).then (.plain (.raiseIf _ _ _)))

theorem Acted.mount {payload : List Byte} {s : State} {m : Mount} (h : itemMountCheck payload s = .ok m) :
    Acted s (s.mount m) := by
  obtain ⟨live, takes, off⟩ := itemMountCheck_ok h
  exact .station (.mount _ _) (.mount live takes off) (.mount _ _)

theorem Acted.adjust {payload : List Byte} {s : State} {a : AcceptedAdjust} (h : itemAdjustCheck payload s = .ok a) :
    Acted s (s.adjust a) := by
  obtain ⟨live, wf, id, kind, place⟩ := itemAdjustCheck_ok h
  exact .station (.adjust _ _)
    (.adjust (.stock (rewriteItem_supply _ _ _ _) fun w => w.rewriteItem live (wf w) id kind place)) (.adjust _ _)

theorem Acted.retire (s : State) (j : ItemSlot) : Acted s (s.setItem j none) :=
  .station (.setItem _ _ _) (.stock rfl fun w => w.free j) (.plain (.setItem _ _ _))

/-! ### The store -/

theorem length_imageBody (s : State) : s.imageBody.length = 422 := by
  have glaze : s.glazeBytes.length = 9 := rfl
  simp [State.imageBody, HeadSettings.length_bytes, length_rowsBytes, length_phaseBytes, length_volumeBytes,
    length_profilesBytes, glaze, causeBytes]

/-- Every image a save composes is 427 bytes long (R182, R183). -/
theorem length_image (s : State) : s.image.length = imageBytes := by
  simp [State.image, length_imageBody, imageBytes]

theorem Acted.compose (s : State) : Acted s { s with save := .writing s.image } :=
  .outside ⟨id, id, fun w => ⟨w.1, fun _ e => by cases e; exact length_image s⟩⟩ rfl rfl rfl rfl rfl rfl

theorem Acted.endSave (s : State) (written : List Byte) {outcome : SaveState} (ended : ∀ image, outcome ≠ .writing image) :
    Acted s (s.endSave written outcome) :=
  .outside ⟨id, id, fun w => ⟨wf_writeCells _ _ _ w.1, fun image e => absurd e (ended image)⟩⟩ rfl rfl rfl rfl rfl rfl

/-! ### The state after a full reset -/

section
variable (pins : PinLevels) (eeprom : List Host.Cell) (pending : List Instr)

theorem afterReset_channel (h : Head) (c : Chan) : (State.afterReset pins eeprom pending).channel h c = Channel.reset := by
  simp [State.channel, State.afterReset]

theorem afterReset_arm (p : Platen) : (State.afterReset pins eeprom pending).arms.get p = Arm.reset := by
  simp [State.afterReset]

theorem afterReset_supply (p : Platen) : (State.afterReset pins eeprom pending).supply.get p = PlatenSupply.reset := by
  simp [State.afterReset]

theorem afterReset_feed (f : Feed) : ∃ first, (State.afterReset pins eeprom pending).feeds.get f = FeedUnit.reset first := by
  cases f
  · exact ⟨5000, rfl⟩
  · exact ⟨6250, rfl⟩
  · exact ⟨7500, rfl⟩

theorem afterReset_pass (i : PassSlot) : (State.afterReset pins eeprom pending).pass i = none := by
  simp [State.pass, State.afterReset]

theorem afterReset_item (j : ItemSlot) : (State.afterReset pins eeprom pending).item j = none := by
  simp [State.item, State.afterReset]

theorem afterReset_row (r : Fin 8) : (State.afterReset pins eeprom pending).row r = BlendRow.default := by
  simp [State.row, State.afterReset]

theorem afterReset_profile (q : Fin 4) : (State.afterReset pins eeprom pending).profile q = defaultProfile := by
  simp [State.profile, State.afterReset]

theorem afterReset_settingsWf : (State.afterReset pins eeprom pending).settingsWf := by
  refine ⟨fun h => ?_, fun r => ?_, fun f => ?_, fun q => ?_, fun p => ?_⟩
  · rw [show (State.afterReset pins eeprom pending).headSettings.get h = HeadSettings.default from PerHead.get_all _ _]
    exact HeadSettings.default_inRange
  · rw [afterReset_row]
    exact BlendRow.default_fits
  · obtain ⟨first, e⟩ := afterReset_feed pins eeprom pending f
    rw [e]
    exact (volumeInRange_iff 100).1 rfl
  · rw [afterReset_profile]
    exact defaultProfile_fits
  · rw [show (State.afterReset pins eeprom pending).glazeSettings.get p = GlazeSettings.default from PerPlaten.get_all _ _]
    exact GlazeSettings.default_fits

theorem afterReset_phasesWf : (State.afterReset pins eeprom pending).phasesWf := by
  refine ⟨defaultPhases_fit, fun f => ?_⟩
  obtain ⟨first, e⟩ := afterReset_feed pins eeprom pending f
  rw [e]
  exact ⟨defaultPhases_fit, defaultPhases_fit.1⟩

theorem afterReset_itemsWf : (State.afterReset pins eeprom pending).itemsWf :=
  ⟨fun j x hx => absurd hx (by simp [afterReset_item]), fun j _ x _ hx => absurd hx (by simp [afterReset_item])⟩

theorem afterReset_demandWf : (State.afterReset pins eeprom pending).demandWf := by
  intro p
  rw [afterReset_supply]
  exact ⟨fun _ => ⟨rfl, rfl⟩, fun f => by cases f <;> decide⟩

theorem afterReset_sweepsReady : (State.afterReset pins eeprom pending).sweepsReady := by
  refine ⟨fun q => ?_, fun p => ?_⟩
  · rw [afterReset_profile]
    exact List.cons_ne_nil _ _
  · rw [afterReset_arm]
    exact Arm.timed_parked _ rfl rfl

end

theorem eepromAtReset_wf {s : State} (w : s.storeWf) (written : Nat) : Memory.wf (s.eepromAtReset written) = true := by
  unfold State.eepromAtReset
  split
  · exact wf_writeCells _ _ _ w.1
  · exact w.1

theorem Regular.fullReset (s : State) (pins : PinLevels) (written : Nat) : Regular s (s.fullReset pins written) where
  settled := ⟨fun _ => afterReset_settingsWf _ _ _, fun _ => afterReset_phasesWf _ _ _,
    fun w => ⟨eepromAtReset_wf w written, fun _ e => nomatch e⟩⟩
  link _ := buffersWf_nil
  stocked := ⟨fun _ => afterReset_itemsWf _ _ _, fun _ => afterReset_demandWf _ _ _⟩
  sweeps := ⟨fun _ => afterReset_sweepsReady _ _ _⟩
  drive _ := ⟨rfl, rfl⟩

/-- The load applies settings whose profiles have segments to sweep (R127, R181). -/
theorem Acted.endLoad (s : State) (nack : Option Nat) : Acted s (s.endLoad nack) := by
  obtain ⟨x, fits, loaded⟩ := endLoad_eq s nack
  have settings := applySettings_settingsWf s fits
  have phases := applySettings_phasesWf s fits
  have ready : s.sweepsReady → (s.applySettings x).sweepsReady := fun w =>
    ⟨fun q => List.length_pos_iff.1 (settings.2.2.2.1 q).1, w.2⟩
  rcases loaded with e | e <;> rw [e] <;>
    exact ⟨⟨fun _ => settings, fun _ => phases, id⟩, rfl, .of rfl rfl, ⟨ready⟩, id⟩

/-! ### The stroke slots -/

theorem FeedsKept.then {s t u : State} (a : FeedsKept s t) (b : FeedsKept t u) : FeedsKept s u := fun f =>
  ⟨(b f).1.trans (a f).1, (b f).2.1.trans (a f).2.1, (b f).2.2.trans (a f).2.2⟩

/-- A grant moves the diverter and the pump only (R115). -/
theorem FeedsKept.slotGrant (s : State) (f : Feed) : FeedsKept s (s.slotGrant f) := by
  have grant (t : State) (p : Platen) : FeedsKept t (t.grant f p) := .setFeed f _ rfl rfl rfl rfl
  have granted (t : State) (p : Platen) : FeedsKept t (t.grantTo f p) := by
    unfold State.grantTo
    split
    · exact grant t p
    · have drawn : FeedsKept t (t.debit f (t.feeds.get f).volume).state := .of_eq (KeptStation.debit _ _ _).feeds
      have lost (u : State) (b : Bool) : FeedsKept u (u.supplyLossIf b f) := .of_eq (KeptStation.supplyLossIf _ _ _).feeds
      dsimp only
      split
      · exact (drawn.then (grant _ _)).then (lost _ _)
      · exact drawn.then (lost _ _)
  have asked : FeedsKept s (s.slotDemand f) := .of_eq (KeptStation.slotDemand s f).feeds
  unfold State.slotGrant
  split
  · exact .of_eq rfl
  · dsimp only
    split
    · exact asked.then (granted _ _)
    · exact asked

theorem Acted.slotGrant (s : State) (f : Feed) : Acted s (s.slotGrant f) :=
  .kept (Steady.slotGrant s f).outside (.slotGrant s f) (.slotGrant s f) (.slotGrant s f)
    (driveWf_of_carousel (Steady.slotGrant s f).carousel)

/-- A feed rewritten with its volume kept, and a pointer within a table that fits. -/
theorem Settled.setFeed (s : State) (f : Feed) (x : FeedUnit) (volume : x.volume = (s.feeds.get f).volume)
    (fits : s.phasesWf → phasesFit x.active ∧ x.pointer < x.active.length) : Settled s (s.setFeed f x) := by
  refine ⟨fun ⟨heads, rows, volumes, rest⟩ => ⟨heads, rows, fun g => ?_, rest⟩, fun w => ⟨w.1, fun g => ?_⟩, id⟩
  · rw [setFeed_feeds, PerFeed.get_set]
    split
    · rw [volume]
      exact volumes f
    · exact volumes g
  · rw [setFeed_feeds, PerFeed.get_set]
    split
    · exact fits w
    · exact w.2 g

theorem Settled.advancePointer (s : State) (f : Feed) : Settled s (s.advancePointer f) := by
  have wrapped : Settled s (s.setFeed f { s.feeds.get f with pointer := 0 }) :=
    .setFeed _ _ _ rfl fun w => ⟨(w.2 f).1, (w.2 f).1.1⟩
  unfold State.advancePointer
  dsimp only
  split
  · unfold State.takeTable
    split
    · exact wrapped
    · split
      · exact wrapped
      · have taken : Settled s ((s.setFeed f { s.feeds.get f with pointer := 0 }).setFeed f
            { (s.setFeed f { s.feeds.get f with pointer := 0 }).feeds.get f with active := s.staged }) := by
          refine wrapped.then (.setFeed _ _ _ rfl fun w => ⟨w.1, ?_⟩)
          rw [setFeed_feeds, PerFeed.get_set_self]
          exact w.1.1
        exact ⟨taken.settings, taken.phases, taken.store⟩
  · rename_i within
    exact .setFeed _ _ _ rfl fun w => ⟨(w.2 f).1, Nat.lt_of_not_le within⟩

theorem Acted.advancePointer (s : State) (f : Feed) : Acted s (s.advancePointer f) := by
  refine ⟨.advancePointer s f, ?_, .advancePointer s f, .advancePointer s f,
    driveWf_of_carousel (quiet_advancePointer s f).carousel⟩
  unfold State.advancePointer State.takeTable
  dsimp only
  split
  · split
    · rfl
    · split <;> rfl
  · rfl

theorem Acted.setFeed (s : State) (f : Feed) (x : FeedUnit) (volume : x.volume = (s.feeds.get f).volume)
    (active : x.active = (s.feeds.get f).active) (pointer : x.pointer = (s.feeds.get f).pointer) : Acted s (s.setFeed f x) :=
  .outside (.setFeed _ _ _ volume fun w => by rw [active, pointer]; exact w.2 f) rfl rfl rfl rfl rfl rfl

theorem Acted.strokeSlot (s : State) (f : Feed) :
    Acted s (if (s.beginSlot f).startUp = .loading then s.beginSlot f else ((s.beginSlot f).slotGrant f).advancePointer f) := by
  have begun : Acted s (s.beginSlot f) := (Acted.runTo s _).then (.setFeed _ _ _ rfl rfl rfl)
  exact .ite _ begun ((begun.then (.slotGrant _ _)).then (.advancePointer _ _))

/-! ### Timers and edges -/

theorem Acted.runStepTimer (s : State) (h : Head) (units : LiveProgress → StepProgram → Nat) :
    Acted s (s.runStepTimer h units) := by
  have station (i r l st n) : Acted s (s.advanceTimer i r l st n) := by
    have written : Acted s ((s.runTo (l.timerDue n)).setPass i
        (some { r with live := some (l.advance n (s.runTo (l.timerDue n)).clock) })) :=
      (Acted.runTo _ _).then (.station (.setPass _ _ _) (.setPass _ _ _) (.setPass _ _ _))
    exact .ite _ (written.then (.station (.endStep _ _ _) (.endStep _ _ _) (.endStep _ _ _))) written
  unfold State.runStepTimer
  split
  · exact .same s
  · split
    · exact .same s
    · split
      · exact station _ _ _ _ _
      · exact .same s

theorem Acted.endpointRises (s : State) (p : Platen) : Acted s (s.endpointRises p) := by
  unfold State.endpointRises
  split
  · exact .same s
  · exact .ite _ (.station (.endStep _ _ _) (.endStep _ _ _) (.endStep _ _ _)) (.same s)

/-- An operation on the RI or the samples. -/
theorem Acted.steady {s t : State} (k : Steady s t) (f : t.feeds = s.feeds) (i : Stocked s t) (a : SweepsKept s t) :
    Acted s t := .kept k.outside (.of_eq f) i a (driveWf_of_carousel k.carousel)

theorem acceptEdge_feeds (s : State) (p : Platen) : (s.acceptEdge p).feeds = s.feeds :=
  ((KeptStation.setArm _ _ _).then (.closeSupply _ _)).feeds

theorem risingIndexEdge_feeds (s : State) (p : Platen) : (s.risingIndexEdge p).feeds = s.feeds := by
  unfold State.risingIndexEdge
  split
  · rfl
  · exact acceptEdge_feeds _ _
  · exact acceptEdge_feeds _ _
  · exact ((KeptStation.attemptOver _ _).then (.resumeSweeps _ _)).feeds.trans (acceptEdge_feeds _ _)
  · dsimp only
    split
    · exact (KeptStation.credit _ _ _ _ _).feeds.trans (acceptEdge_feeds _ _)
    · exact acceptEdge_feeds _ _

theorem Acted.risingIndexEdge (s : State) (p : Platen) : Acted s (s.risingIndexEdge p) :=
  .steady (.risingIndexEdge s p) (risingIndexEdge_feeds s p) (.risingIndexEdge s p) (.risingIndexEdge s p)

theorem Acted.setIndexLevel (s : State) (p : Platen) (level : Bool) : Acted s (s.setIndexLevel p level) :=
  .outside ⟨id, id, id⟩ rfl rfl rfl rfl rfl rfl

theorem Acted.stallSet (s : State) (p : Platen) : Acted s (s.stallSet p) :=
  .steady (.stallSet s p) (((KeptStation.addCauseOf _ _ _).then (.raise _ _)).then (.pauseSweeps _ _)).feeds (.stallSet s p)
    (.stallSet s p)

theorem Acted.sample (s : State) (h : Head) (c : Chan) (code : BitVec 12) : Acted s (s.sample h c code) := by
  refine .steady (.sample s h c code) ((KeptStation.reportFault _ _ _ _).feeds.trans ?_) (.sample s h c code)
    (.sample s h c code)
  unfold State.handSample
  split <;> rfl

theorem Acted.dwellExpires (s : State) (p : Platen) (running : (s.arms.get p).dwell ≠ none) : Acted s (s.dwellExpires p) :=
  .station (.dwellExpires s p) (.dwellExpires s p) (.dwellExpires s p running)

/-! ### The carousel and the trip -/

theorem Acted.stopCarousel (s : State) (k : Fin 4) : Acted s (s.stopCarousel k) :=
  .kept (.stopCarousel s k) (.of_eq rfl) (.of rfl rfl) (.of rfl rfl) fun _ => ⟨rfl, rfl⟩

theorem Acted.loseCarousel (s : State) : Acted s s.loseCarousel :=
  .kept (.loseCarousel s) (.of_eq rfl) (.of rfl rfl) (.of rfl rfl) fun _ => ⟨rfl, rfl⟩

theorem Acted.attemptAll (s : State) : Acted s s.attemptAll := .station (.attemptAll s) (.attemptAll s) (.attemptAll s)

theorem Acted.raiseIf (s : State) (b : Bool) (c : Cause) : Acted s (s.raiseIf b c) :=
  .station (.raiseIf _ _ _) (.raiseIf _ _ _) (.plain (.raiseIf _ _ _))

theorem Acted.cdoneRises (s : State) (code : Fin 4) : Acted s (s.cdoneRises code) :=
  .ite _ (((Acted.raiseIf _ _ _).then (.stopCarousel _ _)).then (.attemptAll _)) (.same s)

theorem Acted.setCdone (s : State) (level : Bool) : Acted s (s.setCdone level) :=
  ⟨⟨id, id, id⟩, rfl, .of rfl rfl, .of rfl rfl, id⟩

theorem Acted.beginIndex (s : State) : Acted s s.beginIndex :=
  ⟨⟨id, id, id⟩, rfl, .of rfl rfl, .of rfl rfl, fun _ => ⟨rfl, rfl⟩⟩

theorem trip_feeds (s : State) : s.trip.feeds = s.feeds := by
  have lost (t : State) : t.tripCarousel.feeds = t.feeds := by
    unfold State.tripCarousel
    split <;> rfl
  have served (t : State) : (((t.holdAll).ventAll).clearAllDemand).tripArms.feeds = t.feeds :=
    ((((KeptStation.holdAll t).then (.ventAll _)).then (.clearAllDemand _)).then (.tripArms _)).feeds
  exact (lost _).trans (served _)

/-- A trip leaves the carousel alone or gives up its move (R148). -/
theorem trip_carousel (s : State) : s.trip.carousel =
    if s.carousel.state = .indexing then { s.carousel with state := .lost, drive := false, timer := none } else s.carousel := by
  have served (t : State) : (((t.holdAll).ventAll).clearAllDemand).tripArms.carousel = t.carousel :=
    ((((KeptStation.holdAll t).then (.ventAll _)).then (.clearAllDemand _)).then (.tripArms _)).carousel
  have lost (t : State) : t.tripCarousel.carousel =
      if t.carousel.state = .indexing then { t.carousel with state := .lost, drive := false, timer := none } else t.carousel := by
    unfold State.tripCarousel
    split <;> rfl
  unfold State.trip
  rw [lost, served]
  rfl

theorem Acted.trip (s : State) : Acted s s.trip := by
  refine .kept (.trip s) (.of_eq (trip_feeds s)) (.trip s) (.trip s) fun w => ?_
  unfold State.driveWf at w ⊢
  rw [trip_carousel]
  split
  · exact ⟨rfl, rfl⟩
  · exact w

/-! ### Every command -/

theorem Acted.setPass (s : State) (i : PassSlot) (r : Option Pass) : Acted s (s.setPass i r) :=
  .station (.setPass _ _ _) (.setPass _ _ _) (.setPass _ _ _)

theorem Acted.acknowledge (s : State) (set : CauseSet) : Acted s (s.acknowledge set) := by
  unfold State.acknowledge
  dsimp only
  split <;> exact .outside ⟨id, id, id⟩ rfl rfl rfl rfl rfl rfl

/-- A trip that ends lets the waiting passes try (R155). -/
theorem Acted.clearTrip (s : State) : Acted s { s with tripLatch := false }.attemptAll := by
  have cleared : Acted s { s with tripLatch := false } := .outside ⟨id, id, id⟩ rfl rfl rfl rfl rfl rfl
  exact cleared.then (.attemptAll _)

theorem Acted.dismount {payload : List Byte} {s : State} {a : ItemSlot × Item} (h : itemDismountCheck payload s = .ok a) :
    Acted s (s.dismount a.1 a.2) :=
  .station (.dismount _ _ _) (.dismount (itemDismountCheck_ok h)) (.dismount _ _ _)

/-- A command takes its request by a rule of its own, and what the rule does has a property (R173). -/
def ServedBy (c : Instr) (name : RequestName) (dt : Nat) (P : State → State → Prop) : Prop :=
  ∃ (α : Type) (rule : Handler α), (∀ s, exec c s = .next ((s.elapse dt).serve name rule)) ∧
    ∀ s payload a, rule.check payload s = .ok a → P s (rule.act a s).1

/-- Every request but RESTART acts within the station and the settings. -/
theorem servedBy_acted {c : Instr} {name : RequestName} {dt : Nat} (takes : takenRequest c = some (name, dt))
    (other : name ≠ .restart) : ServedBy c name dt Acted := by
  cases c <;> cases takes
  case restart => exact absurd rfl other
  case status => exact ⟨_, _, fun _ => rfl, fun _ _ _ _ => .same _⟩
  case identify => exact ⟨_, _, fun _ => rfl, fun _ _ _ _ => .same _⟩
  case attnAck => exact ⟨_, _, fun _ => rfl, fun _ _ _ _ => .acknowledge _ _⟩
  case attnMask => exact ⟨_, _, fun _ => rfl, fun _ _ _ _ => .outside ⟨id, id, id⟩ rfl rfl rfl rfl rfl rfl⟩
  case passCreate => exact ⟨_, _, fun _ => rfl, fun _ _ _ _ => .setPass _ _ _⟩
  case passLookup => exact ⟨_, _, fun _ => rfl, fun _ _ _ _ => .same _⟩
  case passList => exact ⟨_, _, fun _ => rfl, fun _ _ _ _ => .same _⟩
  case passBind => exact ⟨_, _, fun _ => rfl, fun _ _ _ _ => .setPass _ _ _⟩
  case passAmend => exact ⟨_, _, fun _ => rfl, fun _ _ _ _ => .station (.amend _ _) (.amend _ _) (.amend _ _)⟩
  case passAbort => exact ⟨_, _, fun _ => rfl, fun _ _ _ _ => .station (.abort _ _ _) (.abort _ _ _) (.abort _ _ _)⟩
  case passRetire => exact ⟨_, _, fun _ => rfl, fun _ _ _ _ => .setPass _ _ _⟩
  case passHold => exact ⟨_, _, fun _ => rfl, fun _ _ _ _ => .station (.addCause _ _ _) (.addCause _ _ _) (.addCause _ _ _)⟩
  case passResume => exact ⟨_, _, fun _ => rfl, fun _ _ _ _ => .station (.resume _ _) (.resume _ _) (.resume _ _)⟩
  case tripClear => exact ⟨_, _, fun _ => rfl, fun _ _ _ _ => .ite _ (.clearTrip _) (.same _)⟩
  case itemRegister => exact ⟨_, _, fun _ => rfl, fun _ _ a accepted => Acted.register (a := a) accepted⟩
  case itemLookup => exact ⟨_, _, fun _ => rfl, fun _ _ _ _ => .same _⟩
  case itemList => exact ⟨_, _, fun _ => rfl, fun _ _ _ _ => .same _⟩
  case itemMount =>
    refine ⟨_, _, fun _ => rfl, fun _ _ m accepted => ?_⟩
    dsimp only [itemMountRule] at accepted ⊢
    exact Acted.mount accepted
  case itemDismount => exact ⟨_, _, fun _ => rfl, fun _ _ a accepted => Acted.dismount (a := a) accepted⟩
  case itemAdjust => exact ⟨_, _, fun _ => rfl, fun _ _ a accepted => Acted.adjust (a := a) accepted⟩
  case itemRetire => exact ⟨_, _, fun _ => rfl, fun _ _ _ _ => .retire _ _⟩
  case headWrite => exact ⟨_, _, fun _ => rfl, fun _ _ a accepted => Acted.writeHead (w := a) accepted⟩
  case headRead => exact ⟨_, _, fun _ => rfl, fun _ _ _ _ => .same _⟩
  case blendWrite => exact ⟨_, _, fun _ => rfl, fun _ _ a accepted => Acted.writeRow (a := a) accepted⟩
  case feedWrite => exact ⟨_, _, fun _ => rfl, fun _ _ a accepted => Acted.writeFeed (a := a) accepted⟩
  case phaseWrite => exact ⟨_, _, fun _ => rfl, fun _ _ a accepted => Acted.writePhases (t := a) accepted⟩
  case phaseLoad => exact ⟨_, _, fun _ => rfl, fun _ _ _ _ => .outside ⟨id, id, id⟩ rfl rfl rfl rfl rfl rfl⟩
  case slurryRead => exact ⟨_, _, fun _ => rfl, fun _ _ _ _ => .same _⟩
  case profileWrite => exact ⟨_, _, fun _ => rfl, fun _ _ a accepted => Acted.writeProfile (a := a) accepted⟩
  case platenWrite => exact ⟨_, _, fun _ => rfl, fun _ _ a accepted => Acted.writeGlaze (a := a) accepted⟩
  case conditioningRead => exact ⟨_, _, fun _ => rfl, fun _ _ _ _ => .same _⟩
  case carouselIndex => exact ⟨_, _, fun _ => rfl, fun _ _ _ _ => .beginIndex _⟩
  case carouselSync =>
    refine ⟨_, _, fun _ => rfl, fun _ _ _ _ => ?_⟩
    dsimp only [carouselSyncRule]
    exact (Acted.stopCarousel _ _).then (.attemptAll _)
  case settingsSave => exact ⟨_, _, fun _ => rfl, fun _ _ _ _ => .compose _⟩

theorem servedBy_restart (dt : Nat) : ServedBy (.restart dt) .restart dt fun s t => t = s.restartLink :=
  ⟨_, restartRule, fun _ => rfl, fun _ _ _ _ => rfl⟩

/-- A request's command is regular (R173). -/
theorem exec_regular_of_request {c : Instr} {s t : State} {q : RequestName × Nat} (takes : takenRequest c = some q)
    (h : exec c s = .next t) : Regular s t := by
  by_cases restarts : q.1 = .restart
  · cases c <;> cases takes <;> cases restarts
    case pos.restart dt =>
      rw [next_inj h]
      exact .restart _ _
  · obtain ⟨_, rule, served, acted⟩ := servedBy_acted takes restarts
    rw [served] at h
    rw [next_inj h]
    exact .serve _ _ _ _ (acted _)

/-- An event of the link is regular (R167 to R173). -/
theorem Regular.responseStart (s : State) (dt : Nat) :
    Regular s (if s.buffers.any isSending then s.elapse dt else { s.elapse dt with buffers := startResponse s.buffers }) := by
  split
  · exact (Acted.elapse s dt).regular
  · rename_i idle
    refine .link_only ⟨id, id, id⟩ rfl rfl rfl rfl rfl fun w => ?_
    show BuffersWf (startResponse s.buffers)
    rwa [w.start (Bool.eq_false_of_not_eq_true idle)]

/-- A command that is no request is regular. -/
theorem exec_regular_of_event {c : Instr} {s t : State} (event : takenRequest c = none) (h : exec c s = .next t) :
    Regular s t := by
  cases c <;> cases event <;> rw [next_inj h]
  case powerOnReset => exact .fullReset _ _ _
  case resetPin => exact .fullReset _ _ _
  case settingsLoad => exact (Acted.ite _ ((Acted.elapse _ _).then (.endLoad _ _)) (.elapse _ _)).regular
  case saveDone =>
    split
    · exact ((Acted.elapse _ _).then (.endSave _ _ (by simp))).regular
    · exact (Acted.elapse _ _).regular
  case saveFailed =>
    split
    · exact ((Acted.elapse _ _).then (.endSave _ _ (by simp))).regular
    · exact (Acted.elapse _ _).regular
  case lineBreak => exact .ite _ ((Acted.elapse _ _).then_regular (.receiveBreak _)) (Acted.elapse _ _).regular
  case strayByte => exact (Acted.elapse _ _).then_regular (.receive _ _)
  case byteArrivesReceiving => exact (Acted.elapse _ _).then_regular (.receive _ _)
  case frameComplete => exact (Acted.elapse _ _).then_regular (.receive _ _)
  case idleLimit =>
    split
    · exact .same _
    · exact (Acted.runTo _ _).then_regular (.idleEnds _ _)
  case responseStart => exact .responseStart _ _
  case responseEnd => exact .link_only ⟨id, id, id⟩ rfl rfl rfl rfl rfl BuffersWf.next
  case unknown => exact .serveUnknown _ _
  case tripEvent dt =>
    have seen : Acted s { s.elapse dt with estop := true } := .outside ⟨id, id, id⟩ rfl rfl rfl rfl rfl rfl
    exact (Acted.ite _ (.elapse _ _) (.ite _ seen (seen.then (.trip _)))).regular
  case estopRelease => exact Acted.regular (.outside ⟨id, id, id⟩ rfl rfl rfl rfl rfl rfl)
  case polishTimeAdvance => exact (Acted.runStepTimer _ _ _).regular
  case stepTimerExpiry => exact (Acted.runStepTimer _ _ _).regular
  case endpointEdge dt p =>
    have seen : Acted s ((s.elapse dt).setEndpointLevel p true) := .outside ⟨id, id, id⟩ rfl rfl rfl rfl rfl rfl
    exact (Acted.ite _ (.elapse _ _) (seen.then (.endpointRises _ _))).regular
  case endpointFallingEdge => exact Acted.regular (.outside ⟨id, id, id⟩ rfl rfl rfl rfl rfl rfl)
  case platenIndexEdge =>
    exact (Acted.ite _ (.elapse _ _)
      (((Acted.elapse _ _).then (.setIndexLevel _ _ _)).then (.risingIndexEdge _ _))).regular
  case indexFallingEdge => exact ((Acted.elapse _ _).then (.setIndexLevel _ _ _)).regular
  case stallTimerExpiry =>
    split
    · exact .same _
    · exact ((Acted.runTo _ _).then (.stallSet _ _)).regular
  case pressureSample => exact ((Acted.runTo _ _).then (.sample _ _ _ _)).regular
  case valvePeriodStart => exact ((Acted.runTo _ _).then (.setChannel _ _ _ _)).regular
  case delayedPulseStart =>
    split
    · exact .same _
    · exact ((Acted.runTo _ _).then (.setChannel _ _ _ _)).regular
  case pulseEnd =>
    split
    · exact .same _
    · exact ((Acted.runTo _ _).then (.setChannel _ _ _ _)).regular
  case ventOpen => exact (Acted.ite _ ((Acted.runTo _ _).then (.setChannel _ _ _ _)) (.same _)).regular
  case strokeSlot => exact (Acted.strokeSlot _ _).regular
  case pumpPulseEnd dt f =>
    exact ((Acted.elapse s dt).then (.setFeed _ f { s.feeds.get f with pulse := false } rfl rfl rfl)).regular
  case minuteTick =>
    have ticked : Acted s { s.runTo s.nextMinute with nextMinute := (s.runTo s.nextMinute).nextMinute + minute } :=
      .outside ⟨id, id, id⟩ rfl rfl rfl rfl rfl rfl
    exact (ticked.then (.station (KeptStation.foldl _ .ageItem _ _) (Stocked.foldl _ .ageItem _ _)
      (.plain (Plain.foldl _ .ageItem _ _)))).regular
  case dwellExpiry p =>
    split
    · exact .same _
    · rename_i moment running
      exact ((Acted.runTo _ _).then (.dwellExpires _ _ (by
        rw [runTo_arms, running]
        simp))).regular
  case carouselIndexCompletion =>
    exact (Acted.ite _ (.elapse _ _) (((Acted.elapse _ _).then (.setCdone _ _)).then (.cdoneRises _ _))).regular
  case indexTimerExpiry =>
    split
    · exact .same _
    · exact ((Acted.runTo _ _).then (.loseCarousel _)).regular
  case cdoneFallingEdge => exact ((Acted.elapse _ _).then (.setCdone _ _)).regular

/-- Every command is regular: it keeps the settings, the store, the link, the Item Table, the demand, the sweeps and the drive
request. -/
theorem exec_regular {c : Instr} {s t : State} (h : exec c s = .next t) : Regular s t := by
  cases name : takenRequest c with
  | some q => exact exec_regular_of_request name h
  | none => exact exec_regular_of_event name h

/-- A step runs no command, or one with the rest of the queue. -/
theorem step_cases {s t : State} (h : step s = .next t) :
    t = s ∨ ∃ c rest, exec c { s with pending := rest } = .next t := by
  unfold step at h
  split at h
  · exact .inl (next_inj h)
  · exact .inr ⟨_, _, h⟩

theorem step_regular {s t : State} (h : step s = .next t) : Regular s t := by
  rcases step_cases h with rfl | ⟨c, rest, ran⟩
  · exact .same _
  · have r := exec_regular ran
    exact ⟨⟨r.settled.settings, r.settled.phases, r.settled.store⟩, r.link, ⟨r.stocked.items, r.stocked.demand⟩,
      ⟨r.sweeps.keep⟩, r.drive⟩

/-- Settles O55: every step is regular. -/
theorem settingsStoreAndLinkKept : Obligations.SettingsStoreAndLinkKept := by
  intro s t h
  obtain ⟨settled, link, _, _, _⟩ := step_regular h
  exact ⟨settled.settings, settled.phases, settled.store, link⟩

end Sys2Proof.Machine

/-! SUPPORT. The pass records: each change the station or a request makes keeps a record well formed, and the table apart (R1 to
R9, R156). -/

namespace Sys2Proof

/-- The commands that make a record or bind it to a head, and the resets, which clear the table. -/
def Instr.fills : Instr → Bool
  | .powerOnReset _ _ => true
  | .resetPin _ _ => true
  | .passCreate _ => true
  | .passBind _ => true
  | _ => false

end Sys2Proof

namespace Sys2Proof.Machine

/-! ### Every command that fills no slot -/

section
variable {k : Fin 4} {L : Wanted} {Q : PassSlot → Pass → Prop}

/-- What the requests that rewrite a record ask of a property of records (R18, R22, R164). -/
structure Rewritten (s : State) (Q : PassSlot → Pass → Prop) : Prop where
  amend : ∀ i r n st m, s.pass i = some r → Q i r → r.steps[n]? = some st → r.state ≠ .ended → r.current ≤ n →
    (Amend.apply m st).valid = true → Q i (r.setStep n (m.apply st))
  abort : ∀ i r, s.pass i = some r → Q i r → r.state ≠ .ended → r.running = false → Q i (r.enterEnded .aborted)
  resume : ∀ i r st now, s.pass i = some r → Q i r → r.state = .held → r.step = some st → s.tripLatch = false →
    Q i (r.resumed st now)

/-- A sync sets the offset, and the passes it seats may start there (R150). -/
theorem Records.carouselSync (c : ∀ k, Closed k True Q) {s t : State} (dt : Nat) (code : Fin 4) (h : Records k True L Q s)
    (e : exec (.carouselSync dt code) s = .next t) : ∃ k', Records k' True L Q t := by
  rw [next_inj e]
  refine serve_keeps (P := fun u => ∃ k', Records k' True L Q u) _ _ _ ⟨k, h.elapse dt⟩
    (fun u r ⟨k', w⟩ => ⟨k', w.respond r⟩) fun _ _ _ => ⟨code, ?_⟩
  dsimp only [carouselSyncRule]
  exact ((h.elapse dt).stopCarousel code h.all trivial rfl).attemptAll (c code)

/-- A completed index sets the offset, and the passes it seats may start there (R146). -/
theorem Records.carouselIndexCompletion (c : ∀ k, Closed k True Q) {s t : State} (dt : Nat) (code : Fin 4)
    (h : Records k True L Q s) (e : exec (.carouselIndexCompletion dt code) s = .next t) : ∃ k', Records k' True L Q t := by
  rw [next_inj e]
  have seen : Records k True L Q ((s.elapse dt).setCdone true) :=
    ⟨h.all, h.offset, fun _ _ => trivial, h.latched, h.channels, h.dwells, h.parked⟩
  split
  · exact ⟨k, h.elapse dt⟩
  · unfold State.cdoneRises
    split
    · have raised := seen.raiseIf (decide (code ≠ nextOffset ((s.elapse dt).setCdone true).carousel.k)) .carousel
      exact ⟨code, (raised.stopCarousel code raised.all trivial rfl).attemptAll (c code)⟩
    · exact ⟨k, seen⟩

/-- A property of records that depends on no offset is kept by every command that fills no slot. -/
theorem Records.exec (c : ∀ k, Closed k True Q) (n : ¬L.parked) {s t : State} (w : Rewritten s Q) (h : Records k True L Q s)
    {i : Instr} (kept : i.fills = false) (e : exec i s = .next t) : ∃ k', Records k' True L Q t := by
  by_cases remakes : i.remakes = true
  · cases i <;> cases remakes <;> cases kept
    case pos.passAmend => exact ⟨k, h.passAmend (c k) _ e w.amend⟩
    case pos.passAbort => exact ⟨k, h.passAbort (c k) _ e w.abort⟩
    case pos.passResume => exact ⟨k, h.passResume (c k) _ e w.resume⟩
    case pos.tripClear => exact ⟨k, h.tripClear (c k) _ e (fun _ => trivial) n⟩
    case pos.tripEvent => exact ⟨k, h.tripEvent (c k) _ e⟩
    case pos.carouselIndex => exact ⟨k, h.carouselIndex _ e⟩
    case pos.indexTimerExpiry => exact ⟨k, h.indexTimerExpiry e⟩
    case pos.carouselSync => exact h.carouselSync c _ _ e
    case pos.carouselIndexCompletion => exact h.carouselIndexCompletion c _ _ e
  · exact ⟨k, h.ordinary (c k) i (Bool.eq_false_of_not_eq_true remakes) e⟩

end

/-- The records of a station of which nothing more is wanted. -/
theorem records_of {s : State} {Q : PassSlot → Pass → Prop} (all : AllPass Q s) :
    Records s.carousel.k True Wanted.nothing Q s :=
  ⟨all, rfl, fun _ _ => trivial, fun _ => id, False.elim, False.elim, False.elim⟩

/-! ### One record (R2 to R9) -/

theorem HoldSet.add_ne_empty (x : HoldSet) (c : HoldCause) : x.add c ≠ HoldSet.empty := by
  cases c <;> simp [HoldSet.add, HoldSet.empty]

/-- A waiting pass holds a head, has no live progress and one result per step behind it. -/
theorem Pass.stateWf.waiting {r : Pass} (w : r.stateWf) (st : r.state = .waiting) :
    r.head ≠ none ∧ r.endCause = none ∧ r.holds = HoldSet.empty ∧ r.live = none ∧ r.results.length = r.current := by
  simpa only [Pass.stateWf, st] using w

theorem Pass.stateWf.polishing {r : Pass} (w : r.stateWf) (st : r.state = .polishing) :
    r.head ≠ none ∧ r.endCause = none ∧ r.holds = HoldSet.empty ∧ r.startBlock = none ∧ r.live ≠ none ∧
      r.results.length = r.current := by
  simpa only [Pass.stateWf, st] using w

theorem Pass.stateWf.held {r : Pass} (w : r.stateWf) (st : r.state = .held) :
    r.head ≠ none ∧ r.endCause = none ∧ r.holds ≠ HoldSet.empty ∧ r.startBlock = none ∧ r.live ≠ none ∧
      r.results.length = r.current := by
  simpa only [Pass.stateWf, st] using w

theorem Pass.stateWf.staged {r : Pass} (w : r.stateWf) (st : r.state = .staged) :
    r.head = none ∧ r.endCause = none ∧ r.holds = HoldSet.empty ∧ r.startBlock = none ∧ r.live = none ∧ r.current = 0 ∧
      r.results = [] := by
  simpa only [Pass.stateWf, st] using w

theorem Pass.stateWf.ended {r : Pass} (w : r.stateWf) (st : r.state = .ended) :
    r.head = none ∧ r.endCause ≠ none ∧ r.holds = HoldSet.empty ∧ r.startBlock = none ∧ r.live = none ∧
      r.current = r.results.length - 1 := by
  simpa only [Pass.stateWf, st] using w

/-- Only a running pass has live progress (R8). -/
theorem Pass.stateWf.running {r : Pass} (w : r.stateWf) {l : LiveProgress} (live : r.live = some l) :
    r.head ≠ none ∧ r.endCause = none ∧ r.results.length = r.current := by
  cases st : r.state
  · obtain ⟨_, _, _, _, none, _⟩ := w.staged st
    cases live.symm.trans none
  · obtain ⟨_, _, _, none, _⟩ := w.waiting st
    cases live.symm.trans none
  · obtain ⟨head, cause, _, _, _, count⟩ := w.polishing st
    exact ⟨head, cause, count⟩
  · obtain ⟨head, cause, _, _, _, count⟩ := w.held st
    exact ⟨head, cause, count⟩
  · obtain ⟨_, _, _, _, none, _⟩ := w.ended st
    cases live.symm.trans none

theorem Pass.stateWf.relive {r : Pass} (w : r.stateWf) (f : LiveProgress → LiveProgress) :
    Pass.stateWf { r with live := r.live.map f } := by
  unfold Pass.stateWf at w ⊢
  cases st : r.state <;> simpa [st] using w

/-- A record that enters ENDED with no more results than it had steps (R9). -/
theorem Pass.wf.enterEnded {r : Pass} (w : r.wf) (cause : PassEnd) : (r.enterEnded cause).wf := by
  obtain ⟨tag, few, valid, current, results, _⟩ := w
  refine ⟨tag, few, valid, ?_, results, rfl, by simp [Pass.enterEnded], rfl, rfl, rfl, rfl⟩
  show r.results.length - 1 < r.steps.length
  omega

/-- A step end writes one result, and the pass goes on to a next step or ends (R44, R45). -/
theorem Pass.wf.closeStep {r : Pass} (w : r.wf) {l : LiveProgress} (live : r.live = some l) (cause : StepEnd) :
    (r.closeStep l cause).wf := by
  obtain ⟨tag, few, valid, current, results, state⟩ := w
  obtain ⟨head, noCause, count⟩ := state.running live
  have grown : (r.results ++ [l.result r.current cause]).length = r.current + 1 := by simp [count]
  by_cases on : r.movesOn cause = true
  · rw [Pass.closeStep_movesOn on]
    obtain ⟨_, more⟩ := of_decide_eq_true on
    exact ⟨tag, few, valid, more, grown ▸ more.le, head, noCause, rfl, rfl, grown⟩
  · rw [Pass.closeStep_ends on]
    refine ⟨tag, few, valid, ?_, ?_, rfl, by simp, rfl, rfl, rfl, rfl⟩
    · show (r.results ++ [l.result r.current cause]).length - 1 < r.steps.length
      omega
    · show (r.results ++ [l.result r.current cause]).length ≤ r.steps.length
      omega

theorem closed_wf (k : Fin 4) : Closed k True fun _ r => r.wf where
  block _ r b w st := by
    obtain ⟨tag, few, valid, current, results, state⟩ := w
    obtain ⟨head, cause, holds, live, count⟩ := state.waiting st
    refine ⟨tag, few, valid, current, results, ?_⟩
    simp only [Pass.stateWf, st]
    exact ⟨head, cause, holds, live, count⟩
  start _ r _ l _ w st _ := by
    obtain ⟨tag, few, valid, current, results, state⟩ := w
    obtain ⟨head, cause, holds, _, count⟩ := state.waiting st
    exact ⟨tag, few, valid, current, results, head, cause, holds, rfl, by simp, count⟩
  hold _ r _ c w st := by
    obtain ⟨tag, few, valid, current, results, state⟩ := w
    obtain ⟨head, cause, _, block, live, count⟩ := state.polishing st
    exact ⟨tag, few, valid, current, results, head, cause, HoldSet.add_ne_empty _ c, block,
      by simpa [Pass.freezeTimer] using live, count⟩
  addHold _ r c w st := by
    obtain ⟨tag, few, valid, current, results, state⟩ := w
    obtain ⟨head, cause, _, block, live, count⟩ := state.held st
    refine ⟨tag, few, valid, current, results, ?_⟩
    simp only [Pass.stateWf, st]
    exact ⟨head, cause, HoldSet.add_ne_empty _ c, block, live, count⟩
  live _ r f w := by
    obtain ⟨tag, few, valid, current, results, state⟩ := w
    exact ⟨tag, few, valid, current, results, state.relive f⟩
  close _ r l cause w live := w.closeStep live cause

theorem Pass.wf.setStep {r : Pass} (w : r.wf) (n : Nat) {st : StepProgram} (ok : st.valid = true) : (r.setStep n st).wf := by
  obtain ⟨tag, few, valid, current, results, state⟩ := w
  have length : (r.steps.set n st).length = r.steps.length := List.length_set
  refine ⟨tag, length ▸ few, fun x m => ?_, length ▸ current, length ▸ results, state⟩
  rcases List.mem_or_eq_of_mem_set m with old | rfl
  · exact valid x old
  · exact ok

theorem Pass.wf.resumed {r : Pass} (w : r.wf) (held : r.state = .held) (st : StepProgram) (now : Nat) :
    (r.resumed st now).wf := by
  obtain ⟨tag, few, valid, current, results, state⟩ := w
  obtain ⟨head, cause, _, block, live, count⟩ := state.held held
  exact ⟨tag, few, valid, current, results, head, cause, rfl, block, by simpa [Pass.resumed] using live, count⟩

theorem rewritten_wf (s : State) : Rewritten s fun _ r => r.wf where
  amend _ _ n _ _ _ w _ _ _ ok := w.setStep n ok
  abort _ _ _ w _ _ := w.enterEnded _
  resume _ _ st now _ w held _ _ := w.resumed held st now

/-- A new record (R11, R12). -/
theorem freshPass_wf {tag : Word32} {steps : List StepProgram} (nonzero : tag ≠ 0) (low : 1 ≤ steps.length)
    (high : steps.length ≤ 4) (valid : ∀ st ∈ steps, StepProgram.valid st = true) : (freshPass tag steps).wf :=
  ⟨nonzero, high, valid, low, Nat.zero_le _, rfl, rfl, rfl, rfl, rfl, rfl, rfl⟩

/-- A bound record waits on its head (R15, R16). -/
theorem Pass.wf.bind {r : Pass} (w : r.wf) (staged : r.state = .staged) (h : Head) :
    Pass.wf { r with state := .waiting, head := some h, startBlock := none } := by
  obtain ⟨tag, few, valid, current, results, state⟩ := w
  obtain ⟨_, cause, holds, _, live, zero, none⟩ := state.staged staged
  exact ⟨tag, few, valid, current, results, by simp, cause, holds, live, by simp [none, zero]⟩

theorem exec_passesWf {i : Instr} {s t : State} (e : exec i s = .next t) (w : s.passesWf) : t.passesWf := by
  have records : Records s.carousel.k True Wanted.nothing (fun _ r => r.wf) s := records_of w
  cases fills : i.fills
  · obtain ⟨_, r⟩ := records.exec closed_wf id (rewritten_wf s) fills e
    exact r.all
  · cases i <;> cases fills
    case true.powerOnReset pins written =>
      rw [next_inj e]
      exact fun j r hr => nomatch (pass_fullReset s pins written j).symm.trans hr
    case true.resetPin pins written =>
      rw [next_inj e]
      exact fun j r hr => nomatch (pass_fullReset s pins written j).symm.trans hr
    case true.passCreate =>
      exact (records.passCreate _ e fun _ _ _ nonzero low high valid _ _ => freshPass_wf nonzero low high valid).all
    case true.passBind => exact (records.passBind _ e fun _ _ h _ w staged _ _ _ _ => w.bind staged h).all

/-! ### The table (R1, R3) -/

theorem rewritten_inherits (s : State) : Rewritten s (Inherits s) where
  amend _ _ _ _ _ _ w _ _ _ _ := w
  abort _ _ _ w _ _ := by
    obtain ⟨x, hx, tag, _⟩ := w
    exact ⟨x, hx, tag, .inl rfl⟩
  resume _ _ _ _ _ w _ _ _ := w

/-- A record put into a slot of a table that is apart, with a tag and a head that no other record has. -/
theorem passesApart_put {s : State} (apart : s.passesApart) (i : PassSlot) (r : Pass)
    (new : ∀ j q, s.pass j = some q → j ≠ i → r.tag ≠ q.tag ∧ (r.head = none ∨ r.head ≠ q.head)) :
    (s.setPass i (some r)).passesApart := by
  intro j k q x hq hx other
  rw [pass_setPass] at hq hx
  split at hq <;> split at hx
  · exact absurd (‹j = i›.trans ‹k = i›.symm) other
  · cases hq
    exact new k x hx ‹_›
  · cases hx
    obtain ⟨tags, heads⟩ := new j q hq ‹_›
    refine ⟨Ne.symm tags, ?_⟩
    by_cases none : q.head = none
    · exact .inl none
    · exact .inr fun same => heads.elim (fun e => none (same.trans e)) fun ne => ne same.symm
  · exact apart j k q x hq hx other

/-- A head that no pass holds is no record's head, where the records are well formed (R3). -/
theorem head_free {s : State} (w : s.passesWf) {h : Head} (free : s.holderOf h = none) {j : PassSlot} {q : Pass}
    (hq : s.pass j = some q) : q.head ≠ some h := by
  intro here
  have idle := findPass_none free j q hq
  obtain ⟨_, _, _, _, _, state⟩ := w j q hq
  cases st : q.state
  · obtain ⟨none, _⟩ := state.staged st
    simp [none] at here
  · simp [Pass.holdsHead, st, here] at idle
  · simp [Pass.holdsHead, st, here] at idle
  · simp [Pass.holdsHead, st, here] at idle
  · obtain ⟨none, _⟩ := state.ended st
    simp [none] at here

theorem exec_passesApart {i : Instr} {s t : State} (e : exec i s = .next t) (w : s.passesWf) (apart : s.passesApart) :
    t.passesApart := by
  cases fills : i.fills
  · obtain ⟨_, r⟩ := (records_inherits s).exec (fun k => closed_inherits k True s) id (rewritten_inherits s) fills e
    exact passesApart_of_inherits apart r.all
  · cases i <;> cases fills
    case true.powerOnReset pins written =>
      rw [next_inj e]
      exact fun j _ r _ hr => nomatch (pass_fullReset s pins written j).symm.trans hr
    case true.resetPin pins written =>
      rw [next_inj e]
      exact fun j _ r _ hr => nomatch (pass_fullReset s pins written j).symm.trans hr
    case true.passCreate dt =>
      rw [next_inj e]
      refine serve_keeps (P := State.passesApart) _ _ _ apart (fun _ _ h => h) fun _ a accepted => ?_
      obtain ⟨tag, steps, made, _, _, _, _, fresh, _⟩ := passCreateCheck_ok accepted
      refine passesApart_put (s := s.elapse dt) apart a.1 a.2 fun j q hq _ => ?_
      rw [made]
      exact ⟨fun same => of_decide_eq_false (anyPass_false fresh j q hq) same.symm, .inl rfl⟩
    case true.passBind dt =>
      rw [next_inj e]
      refine serve_keeps (P := State.passesApart) _ _ _ apart (fun _ _ h => h) fun _ a accepted => ?_
      obtain ⟨r, h, hr, made, _, _, _, _, free⟩ := passBindCheck_ok accepted
      refine passesApart_put (s := s.elapse dt) apart a.1 a.2 fun j q hq other => ?_
      rw [made]
      exact ⟨(apart _ j r q hr hq (Ne.symm other)).1, .inr (Ne.symm (head_free w free hq))⟩

/-- Settles O56: the records by what each change of one keeps, the items with all else that every step keeps. -/
theorem recordTablesKept : Obligations.RecordTablesKept := by
  intro s t h
  refine ⟨fun w => ?_, fun w apart => ?_, (step_regular h).stocked.items⟩
  all_goals rcases step_cases h with rfl | ⟨c, rest, ran⟩
  · exact w
  · exact exec_passesWf ran w
  · exact apart
  · exact exec_passesApart ran w apart

end Sys2Proof.Machine

/-! SUPPORT. A cause added to every pass that an event reaches: what it leaves of each record, channel, platen and arm (R156, R157).
The slots are taken in order, and no pass's part of it depends on another's. -/

namespace Sys2Proof.Machine

/-! ### A change that is made once however often it is asked for -/

/-- A value after a change that is made when a condition holds. -/
def Once {α : Type} (P : Prop) (g : α → α) (x y : α) : Prop := (P → y = g x) ∧ (¬P → y = x)

theorem Once.never {α : Type} {P : Prop} {g : α → α} {x : α} (h : ¬P) : Once P g x x := ⟨fun p => absurd p h, fun _ => rfl⟩

theorem Once.iff {α : Type} {P Q : Prop} {g : α → α} {x y : α} (a : Once P g x y) (h : Q ↔ P) : Once Q g x y :=
  ⟨fun q => a.1 (h.1 q), fun n => a.2 (mt h.2 n)⟩

/-- Two changes one after the other, where the second time changes nothing more. -/
theorem Once.or {α : Type} {P Q : Prop} {g : α → α} {x y z : α} (idem : ∀ v, g (g v) = g v) (a : Once P g x y)
    (b : Once Q g y z) : Once (P ∨ Q) g x z := by
  by_cases p : P <;> by_cases q : Q
  · exact ⟨fun _ => by rw [b.1 q, a.1 p, idem], fun n => absurd (.inl p) n⟩
  · exact ⟨fun _ => by rw [b.2 q, a.1 p], fun n => absurd (.inl p) n⟩
  · exact ⟨fun _ => by rw [b.1 q, a.2 p], fun n => absurd (.inr q) n⟩
  · exact ⟨fun h => (h.elim p q).elim, fun _ => by rw [b.2 q, a.2 p]⟩

theorem Once.of_if {α : Type} {P : Prop} [Decidable P] {g : α → α} {x y : α} (e : y = if P then g x else x) :
    Once P g x y := ⟨fun p => e.trans (if_pos p), fun n => e.trans (if_neg n)⟩

/-! ### The entry to HELD of one pass (R157) -/

/-- A pass with a running step is served on a head and a platen. -/
def Pass.servedOn (r : Pass) (h : Head) (p : Platen) : Prop := r.head = some h ∧ ∃ st, r.step = some st ∧ st.platen = p

theorem Pass.servedOn_iff {r : Pass} {h : Head} {st : StepProgram} (hh : r.head = some h) (hst : r.step = some st) (k : Head)
    (p : Platen) : r.servedOn k p ↔ h = k ∧ st.platen = p := by
  simp [Pass.servedOn, hh, hst]

/-- An arm that parks if it sweeps IN_SITU (R133). -/
def Arm.parkedInSitu (a : Arm) : Arm := if a.service.isInSitu && a.sweeping then a.park else a

theorem Arm.parkedInSitu_idem (a : Arm) : a.parkedInSitu.parkedInSitu = a.parkedInSitu := by
  by_cases moving : (a.service.isInSitu && a.sweeping) = true
  · have parked : a.parkedInSitu = a.park := if_pos moving
    rw [parked]
    exact if_neg (by simp [Arm.park])
  · have kept : a.parkedInSitu = a := if_neg moving
    rw [kept, kept]

theorem parkInSitu_arm (s : State) (p q : Platen) :
    (s.parkInSitu p).arms.get q = if p = q then (s.arms.get q).parkedInSitu else s.arms.get q := by
  unfold State.parkInSitu Arm.parkedInSitu
  dsimp only
  by_cases same : p = q
  · subst same
    rw [if_pos rfl]
    split
    · rw [setArm_arms, PerPlaten.get_set_self]
    · rfl
  · rw [if_neg same]
    split
    · rw [setArm_arms, PerPlaten.get_set, if_neg (Ne.symm same)]
    · rfl

theorem Channel.enterVent_idem (now deadTime : Nat) (c : Channel) :
    (c.enterVent now deadTime).enterVent now deadTime = c.enterVent now deadTime := by
  have vent : (c.enterVent now deadTime).mode = .vent := by
    unfold Channel.enterVent
    split
    · assumption
    · unfold Channel.openVentIfRested
      split <;> rfl
  conv_lhs => unfold Channel.enterVent
  exact if_pos vent

/-- The blocks that serve a step act on the entry to HELD: the head's channels vent, the platen stops dispensing, its in-situ
sweep parks (R157). -/
structure Suspended (s t : State) (on : Head → Platen → Prop) : Prop where
  channel : ∀ k c, Once (∃ p, on k p) (Channel.enterVent s.clock (s.headSettings.get k).drive.deadTime) (s.channel k c)
    (t.channel k c)
  supply : ∀ p, Once (∃ h, on h p) PlatenSupply.stopped (s.supply.get p) (t.supply.get p)
  arm : ∀ p, Once (∃ h, on h p) Arm.parkedInSitu (s.arms.get p) (t.arms.get p)
  items : t.items = s.items
  attnPending : t.attnPending = s.attnPending

theorem Suspended.none {s t : State} {on : Head → Platen → Prop} (nothing : ∀ h p, ¬on h p) (c : t.channels = s.channels)
    (d : t.supply = s.supply) (a : t.arms = s.arms) (i : t.items = s.items) (n : t.attnPending = s.attnPending) :
    Suspended s t on where
  channel k x := by
    unfold State.channel
    rw [c]
    exact .never fun ⟨p, h⟩ => nothing k p h
  supply p := by
    rw [d]
    exact .never fun ⟨h, on⟩ => nothing h p on
  arm p := by
    rw [a]
    exact .never fun ⟨h, on⟩ => nothing h p on
  items := i
  attnPending := n

theorem suspendService_suspended (s : State) (r : Pass) : Suspended s (s.suspendService r) r.servedOn := by
  cases hh : r.head with
  | none =>
    refine .none (fun h p on => by simp [Pass.servedOn, hh] at on) ?_ ?_ ?_ ?_ ?_ <;> simp only [State.suspendService, hh]
  | some h =>
    cases hst : r.step with
    | none =>
      refine .none (fun h p on => by simp [Pass.servedOn, hst] at on) ?_ ?_ ?_ ?_ ?_ <;>
        simp only [State.suspendService, hh, hst]
    | some st =>
      have served := Pass.servedOn_iff hh hst
      have eq := suspendService_eq hst hh s
      obtain ⟨channels, supply, items⟩ := parkInSitu_others ((s.ventHead h).stopDispensing st.platen) st.platen
      constructor
      · intro k c
        refine (Once.of_if (P := k = h) ?_).iff (by simp [served, eq_comm])
        have vented := channel_updateHead s h k
          (fun _ c => c.enterVent s.clock (s.headSettings.get h).drive.deadTime) c
        rw [eq]
        unfold State.channel at vented ⊢
        rw [channels]
        refine vented.trans ?_
        split
        · rename_i same
          rw [same]
        · rfl
      · intro p
        refine (Once.of_if (P := p = st.platen) ?_).iff (by simp [served, eq_comm])
        rw [eq, supply]
        refine (PerPlaten.get_set _ _ _ _).trans ?_
        split
        · rename_i same
          rw [same]
          rfl
        · rfl
      · intro p
        refine (Once.of_if (P := st.platen = p) ?_).iff (by simp [served])
        rw [eq]
        exact parkInSitu_arm ((s.ventHead h).stopDispensing st.platen) st.platen p
      · rw [eq]
        exact items
      · rw [eq]
        unfold State.parkInSitu
        dsimp only
        split <;> rfl

/-! ### A cause added to one pass (R156) -/

/-- A record that a cause has reached. -/
def Pass.caused (now : Nat) (c : HoldCause) (r : Pass) : Pass :=
  match r.state with
  | .polishing => { r.freezeTimer now with state := .held, holds := HoldSet.empty.add c }
  | .held => { r with holds := r.holds.add c }
  | .staged => r
  | .waiting => r
  | .ended => r

/-- A POLISHING pass that a cause holds leaves what serves it. -/
def Pass.leaves (r : Pass) (h : Head) (p : Platen) : Prop := r.state = .polishing ∧ r.servedOn h p

theorem addCause_pass (s : State) (i j : PassSlot) (c : HoldCause) :
    (s.addCause i c).pass j = if j = i then (s.pass j).map (Pass.caused s.clock c) else s.pass j := by
  have frame (t : State) (r : Pass) : (t.suspendService r).pass j = t.pass j :=
    pass_eq_of_passes (Served.suspendService t r).passes j
  unfold State.addCause
  by_cases same : j = i
  · subst same
    cases live : s.pass j with
    | none => simp [live]
    | some r =>
      cases st : r.state <;> simp [st, Pass.caused, frame, live]
  · rw [if_neg same]
    split
    · rfl
    · split
      · rw [frame, pass_setPass, if_neg same]
      · rw [pass_setPass, if_neg same]
      · rfl
      · rfl
      · rfl

theorem addCause_suspended (s : State) (i : PassSlot) (c : HoldCause) :
    Suspended s (s.addCause i c) fun h p => ∃ r, s.pass i = some r ∧ r.leaves h p := by
  unfold State.addCause
  cases live : s.pass i with
  | none => exact .none (fun _ _ ⟨r, hr, _⟩ => nomatch hr) rfl rfl rfl rfl rfl
  | some r =>
    have only (h : Head) (p : Platen) : (∃ q, some r = some q ∧ q.leaves h p) ↔ r.leaves h p := by simp
    simp only [only]
    have stays (idle : r.state ≠ .polishing) (h : Head) (p : Platen) : ¬r.leaves h p := fun on => idle on.1
    cases st : r.state with
    | polishing =>
      have held := suspendService_suspended
        (s.setPass i (some { r.freezeTimer s.clock with state := .held, holds := HoldSet.empty.add c })) r
      have same (h : Head) (p : Platen) : r.leaves h p ↔ r.servedOn h p := by simp [Pass.leaves, st]
      simp only [same]
      exact ⟨held.channel, held.supply, held.arm, held.items, held.attnPending⟩
    | held => exact .none (stays (by simp [st])) rfl rfl rfl rfl rfl
    | staged => exact .none (stays (by simp [st])) rfl rfl rfl rfl rfl
    | waiting => exact .none (stays (by simp [st])) rfl rfl rfl rfl rfl
    | ended => exact .none (stays (by simp [st])) rfl rfl rfl rfl rfl

/-! ### A cause added to every pass that is reached -/

/-- A cause added, in slot order, to the passes of some slots that a rule reaches. -/
def State.addCauses (s : State) (reaches : Pass → Bool) (c : HoldCause) (slots : List PassSlot) : State :=
  slots.foldl (fun t i => if t.passHas i reaches then t.addCause i c else t) s

/-- A state after a cause was added to the passes of some slots that a rule reaches. -/
structure Caused (s t : State) (reaches : Pass → Bool) (c : HoldCause) (slots : List PassSlot) : Prop where
  pass : ∀ j, t.pass j =
    if j ∈ slots then (s.pass j).map fun r => if reaches r then r.caused s.clock c else r else s.pass j
  suspended : Suspended s t fun h p => ∃ i ∈ slots, ∃ r, s.pass i = some r ∧ reaches r = true ∧ r.leaves h p
  station : KeptStation s t

theorem passHas_iff (s : State) (i : PassSlot) (f : Pass → Bool) :
    s.passHas i f = true ↔ ∃ r, s.pass i = some r ∧ f r = true := by
  unfold State.passHas
  cases s.pass i <;> simp

/-- One more slot. -/
theorem Caused.next {s t : State} {reaches : Pass → Bool} {c : HoldCause} {slots : List PassSlot}
    (h : Caused s t reaches c slots) {i : PassSlot} (new : i ∉ slots) :
    Caused s (if t.passHas i reaches then t.addCause i c else t) reaches c (slots ++ [i]) := by
  have here : t.pass i = s.pass i := (h.pass i).trans (if_neg new)
  have grown (P : PassSlot → Prop) : (∃ j ∈ slots ++ [i], P j) ↔ (∃ j ∈ slots, P j) ∨ P i := by
    simp [or_and_right, exists_or]
  by_cases reached : t.passHas i reaches = true
  · rw [if_pos reached]
    obtain ⟨r, hr, yes⟩ := (passHas_iff _ _ _).1 reached
    have live : s.pass i = some r := here ▸ hr
    have added := addCause_suspended t i c
    have more (k : Head) (p : Platen) :
        (∃ j ∈ slots ++ [i], ∃ r, s.pass j = some r ∧ reaches r = true ∧ r.leaves k p) ↔
          (∃ j ∈ slots, ∃ r, s.pass j = some r ∧ reaches r = true ∧ r.leaves k p) ∨
            ∃ r, t.pass i = some r ∧ r.leaves k p := by
      rw [grown, hr, live]
      simp [yes]
    refine ⟨fun j => ?_, ⟨fun k x => ?_, fun p => ?_, fun p => ?_, added.items.trans h.suspended.items,
      added.attnPending.trans h.suspended.attnPending⟩, h.station.then (.addCause t i c)⟩
    · rw [addCause_pass, h.station.outside.clock]
      by_cases same : j = i
      · subst same
        simp [here, live, yes]
      · simp [same, h.pass j]
    · have step := added.channel k x
      rw [h.station.outside.clock, h.station.outside.headSettings] at step
      exact ((h.suspended.channel k x).or (Channel.enterVent_idem _ _) step).iff ((exists_congr (more k)).trans exists_or)
    · exact ((h.suspended.supply p).or (g := PlatenSupply.stopped) (fun _ => rfl) (added.supply p)).iff
        ((exists_congr fun k => more k p).trans exists_or)
    · exact ((h.suspended.arm p).or Arm.parkedInSitu_idem (added.arm p)).iff
        ((exists_congr fun k => more k p).trans exists_or)
  · rw [if_neg reached]
    have no (r : Pass) (hr : s.pass i = some r) : reaches r = false := by
      by_contra yes
      exact reached ((passHas_iff _ _ _).2 ⟨r, here.trans hr, Bool.eq_true_of_not_eq_false yes⟩)
    have same (k : Head) (p : Platen) :
        (∃ j ∈ slots ++ [i], ∃ r, s.pass j = some r ∧ reaches r = true ∧ r.leaves k p) ↔
          ∃ j ∈ slots, ∃ r, s.pass j = some r ∧ reaches r = true ∧ r.leaves k p := by
      rw [grown]
      refine or_iff_left fun ⟨r, hr, yes, _⟩ => ?_
      rw [no r hr] at yes
      cases yes
    refine ⟨fun j => ?_, ?_, h.station⟩
    · by_cases at' : j = i
      · subst at'
        rw [here]
        cases live : s.pass j with
        | none => simp
        | some r => simp [no r live]
      · simp [at', h.pass j]
    · simp only [same]
      exact h.suspended

theorem caused_addCauses (s : State) (reaches : Pass → Bool) (c : HoldCause) :
    ∀ slots : List PassSlot, slots.Nodup → Caused s (s.addCauses reaches c slots) reaches c slots := by
  intro slots
  induction slots using List.reverseRecOn with
  | nil =>
    intro _
    exact ⟨fun j => by simp [State.addCauses], .none (fun _ _ ⟨i, m, _⟩ => nomatch m) rfl rfl rfl rfl rfl, .same s⟩
  | append_singleton slots i ih =>
    intro distinct
    obtain ⟨before, _, apart⟩ := List.nodup_append.1 distinct
    have new : i ∉ slots := fun m => apart i m i (List.mem_singleton_self i) rfl
    unfold State.addCauses
    rw [List.foldl_append]
    exact (ih before).next new

theorem passSlots_nodup : passSlots.Nodup := by decide

end Sys2Proof.Machine

/-! SUPPORT. The carousel and the trip latch, command by command; seated passes, channels, dwell timers and what the latch stops
(R34, R68, R78, R126, R138, R142, R145, R153). -/

namespace Sys2Proof

/-- The commands that can move the carousel or change the trip latch. -/
def Instr.turns : Instr → Bool
  | .powerOnReset _ _ => true
  | .resetPin _ _ => true
  | .tripEvent _ => true
  | .tripClear _ => true
  | .carouselIndex _ => true
  | .carouselSync _ _ => true
  | .carouselIndexCompletion _ _ => true
  | .indexTimerExpiry => true
  | _ => false

/-- Those, and the commands that change the EEPROM, the save state or the level of CDONE. -/
def Instr.loud : Instr → Bool
  | .settingsSave _ => true
  | .saveDone _ => true
  | .saveFailed _ _ => true
  | .cdoneFallingEdge _ => true
  | i => i.turns

end Sys2Proof

namespace Sys2Proof.Machine

/-- The carousel's state and the trip latch stand. -/
structure Stands (s t : State) : Prop where
  state : t.carousel.state = s.carousel.state
  tripLatch : t.tripLatch = s.tripLatch

theorem Stands.of_quiet {s t : State} (q : Quiet s t) : Stands s t := ⟨congrArg Carousel.state q.carousel, q.tripLatch⟩

theorem exec_quiet {i : Instr} {s t : State} (quiet : i.loud = false) (h : exec i s = .next t) : Quiet s t := by
  cases i <;> cases quiet
  case settingsLoad => exact quiet_settingsLoad _ _ s t h
  case lineBreak => exact quiet_lineBreak _ _ s t h
  case strayByte => exact quiet_strayByte _ _ s t h
  case idleLimit => exact quiet_idleLimit s t h
  case frameComplete => exact quiet_frameComplete _ _ s t h
  case responseStart => exact quiet_responseStart _ s t h
  case responseEnd => exact quiet_responseEnd _ s t h
  case unknown => exact quiet_unknown _ s t h
  case status => exact quiet_status _ s t h
  case identify => exact quiet_identify _ s t h
  case attnAck => exact quiet_attnAck _ s t h
  case attnMask => exact quiet_attnMask _ s t h
  case restart => exact quiet_restart _ s t h
  case passCreate => exact quiet_passCreate _ s t h
  case passLookup => exact quiet_passLookup _ s t h
  case passList => exact quiet_passList _ s t h
  case passBind => exact quiet_passBind _ s t h
  case passAmend => exact quiet_passAmend _ s t h
  case passAbort => exact quiet_passAbort _ s t h
  case passRetire => exact quiet_passRetire _ s t h
  case passHold => exact quiet_passHold _ s t h
  case passResume => exact quiet_passResume _ s t h
  case itemRegister => exact quiet_itemRegister _ s t h
  case itemLookup => exact quiet_itemLookup _ s t h
  case itemList => exact quiet_itemList _ s t h
  case itemMount => exact quiet_itemMount _ s t h
  case itemDismount => exact quiet_itemDismount _ s t h
  case itemAdjust => exact quiet_itemAdjust _ s t h
  case itemRetire => exact quiet_itemRetire _ s t h
  case headWrite => exact quiet_headWrite _ s t h
  case headRead => exact quiet_headRead _ s t h
  case blendWrite => exact quiet_blendWrite _ s t h
  case feedWrite => exact quiet_feedWrite _ s t h
  case phaseWrite => exact quiet_phaseWrite _ s t h
  case phaseLoad => exact quiet_phaseLoad _ s t h
  case slurryRead => exact quiet_slurryRead _ s t h
  case profileWrite => exact quiet_profileWrite _ s t h
  case platenWrite => exact quiet_platenWrite _ s t h
  case conditioningRead => exact quiet_conditioningRead _ s t h
  case estopRelease => exact quiet_estopRelease _ s t h
  case polishTimeAdvance => exact quiet_polishTimeAdvance _ s t h
  case stepTimerExpiry => exact quiet_stepTimerExpiry _ s t h
  case endpointEdge => exact quiet_endpointEdge _ _ s t h
  case platenIndexEdge => exact quiet_platenIndexEdge _ _ s t h
  case stallTimerExpiry => exact quiet_stallTimerExpiry _ s t h
  case pressureSample => exact quiet_pressureSample _ _ _ s t h
  case valvePeriodStart => exact quiet_valvePeriodStart _ _ s t h
  case delayedPulseStart => exact quiet_delayedPulseStart _ _ s t h
  case pulseEnd => exact quiet_pulseEnd _ _ s t h
  case ventOpen => exact quiet_ventOpen _ _ s t h
  case strokeSlot => exact quiet_strokeSlot _ s t h
  case pumpPulseEnd => exact quiet_pumpPulseEnd _ _ s t h
  case minuteTick => exact quiet_minuteTick s t h
  case dwellExpiry => exact quiet_dwellExpiry _ s t h
  case byteArrivesReceiving => exact quiet_byteArrivesReceiving _ _ s t h
  case indexFallingEdge => exact quiet_indexFallingEdge _ _ s t h
  case endpointFallingEdge => exact quiet_endpointFallingEdge _ _ s t h

theorem exec_stands {i : Instr} {s t : State} (still : i.turns = false) (h : exec i s = .next t) : Stands s t := by
  cases loud : i.loud
  · exact .of_quiet (exec_quiet loud h)
  · cases i <;> cases still <;> cases loud <;> rw [next_inj h]
    case true.settingsSave =>
      exact serve_keeps (P := Stands s) _ _ _ ⟨rfl, rfl⟩ (fun _ _ w => ⟨w.state, w.tripLatch⟩) fun _ _ _ => ⟨rfl, rfl⟩
    case true.saveDone => split <;> exact ⟨rfl, rfl⟩
    case true.saveFailed => split <;> exact ⟨rfl, rfl⟩
    case true.cdoneFallingEdge => exact ⟨rfl, rfl⟩

/-! ### Seated passes (R34) -/

/-- A running pass is seated at an offset, under what a start needs. -/
def SeatedAt (k : Fin 4) (free : Prop) (_ : PassSlot) (r : Pass) : Prop := r.running = true → free ∧ (r.seat k).isSome = true

/-- A record that does not run. -/
theorem seatedAt_of_not_running {k : Fin 4} {free : Prop} {i : PassSlot} {r : Pass} (idle : r.running = false) :
    SeatedAt k free i r := fun on => by rw [idle] at on; cases on

theorem Pass.closeStep_not_running (r : Pass) (l : LiveProgress) (cause : StepEnd) : (r.closeStep l cause).running = false := by
  unfold Pass.closeStep
  dsimp only
  split <;> rfl

theorem closed_seated (k : Fin 4) (free : Prop) : Closed k free (SeatedAt k free) where
  block _ _ _ w _ := w
  start _ _ _ _ f _ _ seat := fun _ => ⟨f, Option.isSome_iff_exists.2 ⟨_, seat⟩⟩
  hold _ r _ _ w st := fun _ => w ((Pass.running_iff r).2 (.inl st))
  addHold _ _ _ w _ := w
  live _ _ _ w := w
  close _ r l cause _ _ := seatedAt_of_not_running (r.closeStep_not_running l cause)

/-- An amend changes no platen (R17). -/
theorem Pass.seat_setStep {r : Pass} {n : Nat} {st : StepProgram} (m : Amend) (at' : r.steps[n]? = some st) (k : Fin 4) :
    (r.setStep n (m.apply st)).seat k = r.seat k := by
  have step : (r.setStep n (m.apply st)).step = r.step ∨
      r.step = some st ∧ (r.setStep n (m.apply st)).step = some (m.apply st) := by
    by_cases here : n = r.current
    · subst here
      obtain ⟨inside, _⟩ := List.getElem?_eq_some_iff.1 at'
      exact .inr ⟨at', List.getElem?_set_self inside⟩
    · exact .inl (List.getElem?_set_ne here)
  have head : (r.setStep n (m.apply st)).head = r.head := rfl
  unfold Pass.seat
  rw [head]
  rcases step with same | ⟨old, new⟩
  · rw [same]
  · rw [old, new]
    cases r.head <;> rfl

/-- What the invariant says of a station: its running passes are seated at its offset, and it is STOPPED when one runs. -/
theorem seated_iff (s : State) : s.seated ↔ AllPass (SeatedAt s.carousel.k (s.carousel.state = .stopped)) s := Iff.rfl

theorem records_seated {s : State} (w : s.seated) :
    Records s.carousel.k (s.carousel.state = .stopped) Wanted.nothing
      (SeatedAt s.carousel.k (s.carousel.state = .stopped)) s :=
  ⟨w, rfl, fun _ f => f, fun _ => id, False.elim, False.elim, False.elim⟩

/-- Nothing runs in a state whose carousel is not STOPPED (R34). -/
theorem not_running_of_seated {s : State} (w : s.seated) (moving : s.carousel.state ≠ .stopped) {i : PassSlot} {r : Pass}
    (hr : s.pass i = some r) : r.running = false := by
  by_contra on
  exact moving (w i r hr (Bool.eq_true_of_not_eq_false on)).1

theorem seated_of_not_running {s : State} (idle : ∀ i r, s.pass i = some r → r.running = false) : s.seated :=
  fun i r hr => seatedAt_of_not_running (i := i) (idle i r hr)

/-- The carousel comes to stand where no pass runs, and the passes it seats try to start (R146, R150). -/
theorem seated_stop_attempt {s : State} (idle : ∀ i r, s.pass i = some r → r.running = false) (code : Fin 4) :
    (s.stopCarousel code).attemptAll.seated := by
  have stopped : Records code True Wanted.nothing (SeatedAt code True) (s.stopCarousel code) :=
    ⟨fun i r hr => seatedAt_of_not_running (idle i r hr), rfl, fun _ _ => trivial, fun _ => id, False.elim, False.elim,
      False.elim⟩
  intro i r hr on
  have carousel := (KeptStation.attemptAll (s.stopCarousel code)).carousel
  rw [carousel]
  exact ⟨rfl, ((stopped.attemptAll (closed_seated code True)).all i r hr on).2⟩

/-- A command that moves no carousel keeps the passes seated. -/
theorem seated_of_records {s t : State} (state : t.carousel.state = s.carousel.state)
    (h : Records s.carousel.k (s.carousel.state = .stopped) Wanted.nothing
      (SeatedAt s.carousel.k (s.carousel.state = .stopped)) t) : t.seated := by
  rw [seated_iff, h.offset, state]
  exact h.all

theorem Pass.enterEnded_not_running (r : Pass) (cause : PassEnd) : (r.enterEnded cause).running = false := rfl

theorem exec_seated_of_still {i : Instr} {s t : State} (still : i.turns = false) (e : exec i s = .next t) (w : s.seated) :
    t.seated := by
  refine seated_of_records (exec_stands still e).state ?_
  have h := records_seated w
  have c := closed_seated s.carousel.k (s.carousel.state = .stopped)
  by_cases remakes : i.remakes = true
  · cases i <;> cases still <;> cases remakes
    case pos.passCreate => exact h.passCreate _ e fun _ _ _ _ _ _ _ _ _ => seatedAt_of_not_running rfl
    case pos.passBind => exact h.passBind _ e fun _ _ _ _ _ _ _ _ _ _ => seatedAt_of_not_running rfl
    case pos.passAmend =>
      refine h.passAmend c _ e fun _ r n st m _ w at' _ _ _ on => ?_
      rw [Pass.seat_setStep m at']
      exact w on
    case pos.passAbort => exact h.passAbort c _ e fun _ r _ _ _ _ => seatedAt_of_not_running (r.enterEnded_not_running _)
    case pos.passResume =>
      exact h.passResume c _ e fun _ r _ _ _ w held _ _ _ => w ((Pass.running_iff r).2 (.inr held))
  · exact h.ordinary c i (Bool.eq_false_of_not_eq_true remakes) e

theorem anyRunning_false {s : State} (h : s.anyRunning = false) {i : PassSlot} {r : Pass} (hr : s.pass i = some r) :
    r.running = false := anyPass_false h i r hr

theorem seated_trip {s : State} (w : s.seated) : s.trip.seated := by
  have h := (records_seated w).trip (closed_seated _ _)
  by_cases moving : s.carousel.state = .stopped
  · refine seated_of_records ?_ h
    rw [trip_carousel, if_neg (by simp [moving])]
  · exact seated_of_not_running fun i r hr => by
      by_contra on
      exact moving (h.all i r hr (Bool.eq_true_of_not_eq_false on)).1

/-- An index is taken only while no pass runs (R144). -/
theorem indexCheck_ok {payload : List Byte} {s : State} {a : Unit} (h : carouselIndexRule.check payload s = .ok a) :
    s.anyRunning = false := by
  have h : emptyPayload payload s.indexChecks = .ok a := h
  unfold emptyPayload at h
  split at h
  · cases h
  · unfold State.indexChecks at h
    split at h
    · cases h
    · split at h
      · cases h
      · rename_i idle
        simp only [Bool.or_eq_true, not_or, Bool.not_eq_true] at idle
        exact idle.1

/-- A sync is taken only while the latch is clear and no pass runs (R150). -/
theorem syncCheck_ok {payload : List Byte} {s : State} {code : Fin 4} {a : Unit}
    (h : (carouselSyncRule code).check payload s = .ok a) : s.tripLatch = false ∧ s.anyRunning = false := by
  have h : emptyPayload payload s.syncChecks = .ok a := h
  unfold emptyPayload at h
  split at h
  · cases h
  · unfold State.syncChecks at h
    split at h
    · cases h
    · rename_i clear
      split at h
      · cases h
      · split at h
        · cases h
        · rename_i idle
          exact ⟨Bool.eq_false_of_not_eq_true clear, Bool.eq_false_of_not_eq_true idle⟩

theorem raiseIf_pass (s : State) (b : Bool) (c : Cause) (i : PassSlot) : (s.raiseIf b c).pass i = s.pass i := by
  cases b <;> rfl

theorem exec_seated {i : Instr} {s t : State} (e : exec i s = .next t) (d : s.driveWf) (w : s.seated) : t.seated := by
  by_cases turns : i.turns = true
  · cases i <;> cases turns <;> rw [next_inj e]
    case pos.powerOnReset pins written =>
      exact seated_of_not_running fun j r hr => nomatch (pass_fullReset s pins written j).symm.trans hr
    case pos.resetPin pins written =>
      exact seated_of_not_running fun j r hr => nomatch (pass_fullReset s pins written j).symm.trans hr
    case pos.tripEvent dt =>
      split
      · exact w
      · unfold State.estopActive
        split
        · exact w
        · exact seated_trip (s := { s.elapse dt with estop := true }) w
    case pos.tripClear dt =>
      refine seated_of_records ?_ ((records_seated w).tripClear (closed_seated _ _) dt rfl id id)
      exact congrArg Carousel.state (tripClear_leaves dt s _ rfl).2.2.2
    case pos.carouselIndex dt =>
      refine serve_keeps (P := State.seated) _ _ _ w (fun _ _ h => h) fun _ _ accepted => ?_
      exact seated_of_not_running fun _ _ hr => anyRunning_false (s := s.elapse dt) (indexCheck_ok accepted) hr
    case pos.carouselSync dt code =>
      refine serve_keeps (P := State.seated) _ _ _ w (fun _ _ h => h) fun _ _ accepted => ?_
      dsimp only [carouselSyncRule]
      exact seated_stop_attempt (s := s.elapse dt) (fun _ _ hr => anyRunning_false (syncCheck_ok accepted).2 hr) code
    case pos.carouselIndexCompletion dt code =>
      split
      · exact w
      · unfold State.cdoneRises
        split
        · rename_i indexing
          refine seated_stop_attempt (fun _ _ hr => ?_) code
          rw [raiseIf_pass] at hr
          exact not_running_of_seated w (by rw [show s.carousel.state = .indexing from indexing]; simp) hr
        · exact w
    case pos.indexTimerExpiry =>
      split
      · exact w
      · rename_i moment timer
        refine seated_of_not_running fun _ _ hr => not_running_of_seated w ?_ hr
        rw [of_decide_eq_true (d.2.symm.trans (by simp [timer]))]
        simp
  · exact exec_seated_of_still (Bool.eq_false_of_not_eq_true turns) e w

/-! ### Channels and dwell timers (R68, R78, R126) -/

/-- Well-formed channels and dwell timers are wanted, nothing of the records. -/
def Wanted.channelsAndDwells : Wanted := ⟨True, True, False, False.elim⟩

theorem closed_true (k : Fin 4) (free : Prop) : Closed k free fun _ _ => True :=
  ⟨fun _ _ _ _ _ => trivial, fun _ _ _ _ _ _ _ _ => trivial, fun _ _ _ _ _ _ => trivial, fun _ _ _ _ _ => trivial,
    fun _ _ _ _ => trivial, fun _ _ _ _ _ _ => trivial⟩

theorem rewritten_true (s : State) : Rewritten s fun _ _ => True :=
  ⟨fun _ _ _ _ _ _ _ _ _ _ _ => trivial, fun _ _ _ _ _ _ => trivial, fun _ _ _ _ _ _ _ _ _ => trivial⟩

theorem afterReset_channelsWf (pins : PinLevels) (eeprom : List Host.Cell) (pending : List Instr) :
    (State.afterReset pins eeprom pending).channelsWf := by
  intro h c
  rw [afterReset_channel]
  rfl

theorem afterReset_dwellsWf (pins : PinLevels) (eeprom : List Host.Cell) (pending : List Instr) :
    (State.afterReset pins eeprom pending).dwellsWf := by
  intro p on
  rw [afterReset_arm] at on
  exact absurd rfl on

theorem exec_channels_dwells {i : Instr} {s t : State} (e : exec i s = .next t) (c : s.channelsWf) (d : s.dwellsWf) :
    t.channelsWf ∧ t.dwellsWf := by
  have h : Records s.carousel.k True Wanted.channelsAndDwells (fun _ _ => True) s :=
    ⟨fun _ _ _ => trivial, rfl, fun _ _ => trivial, fun _ => id, fun _ => c, fun _ => d, False.elim⟩
  cases fills : i.fills
  · obtain ⟨_, r⟩ := h.exec (fun k => closed_true k True) id (rewritten_true s) fills e
    exact ⟨r.channels trivial, r.dwells trivial⟩
  · cases i <;> cases fills
    case true.powerOnReset =>
      rw [next_inj e]
      exact ⟨afterReset_channelsWf _ _ _, afterReset_dwellsWf _ _ _⟩
    case true.resetPin =>
      rw [next_inj e]
      exact ⟨afterReset_channelsWf _ _ _, afterReset_dwellsWf _ _ _⟩
    case true.passCreate =>
      have r := h.passCreate _ e fun _ _ _ _ _ _ _ _ _ => trivial
      exact ⟨r.channels trivial, r.dwells trivial⟩
    case true.passBind =>
      have r := h.passBind _ e fun _ _ _ _ _ _ _ _ _ _ => trivial
      exact ⟨r.channels trivial, r.dwells trivial⟩

/-! ### What the latch stops (R138, R153) -/

/-- PARKED arms with no EX_SITU service are wanted. -/
def Wanted.stopped : Wanted := ⟨False, True, True, fun _ => trivial⟩

/-- A record that does not polish. -/
def NotPolishing (_ : PassSlot) (r : Pass) : Prop := r.state ≠ .polishing

theorem closed_notPolishing (k : Fin 4) : Closed k False NotPolishing where
  block _ _ _ w _ := w
  start _ _ _ _ f _ _ _ := f.elim
  hold _ _ _ _ _ _ := by simp [NotPolishing]
  addHold _ _ _ w _ := w
  live _ _ _ w := w
  close _ r l cause _ _ := fun on => by
    have := r.closeStep_not_running l cause
    simp [Pass.running, on] at this

/-- What the latch stops stands still. -/
def State.stopped (s : State) : Prop :=
  AllPass NotPolishing s ∧ ∀ p, (s.arms.get p).sweeping = false ∧ (s.arms.get p).service.isExSitu = false

theorem tripStops_iff (s : State) : s.tripStops ↔ (s.tripLatch = true → s.stopped) := Iff.rfl

theorem records_stopped {s : State} (latch : s.tripLatch = true) (d : s.dwellsWf) (w : s.stopped) :
    Records s.carousel.k False Wanted.stopped NotPolishing s :=
  ⟨w.1, rfl, fun clear => absurd (latch.symm.trans clear) (by simp), fun clear => absurd (latch.symm.trans clear) (by simp),
    False.elim, fun _ => d, fun _ => w.2⟩

theorem Records.stopped {k : Fin 4} {s : State} (h : Records k False Wanted.stopped NotPolishing s) : s.stopped :=
  ⟨h.all, h.parked trivial⟩

/-- Under the latch nothing starts, whatever moves the carousel. -/
theorem Records.stopCarousel_latched {k : Fin 4} {s : State} (latch : s.tripLatch = true)
    (h : Records k False Wanted.stopped NotPolishing s) (code : Fin 4) :
    Records code False Wanted.stopped NotPolishing (s.stopCarousel code).attemptAll :=
  Records.attemptAll (closed_notPolishing code)
    ⟨h.all, rfl, fun clear => absurd (latch.symm.trans clear) (by simp), h.latched, h.channels, h.dwells, h.parked⟩

/-! ### The records and blocks of a reached pass, as the statements have them -/

theorem Pass.caused_polishing {r : Pass} {l : LiveProgress} (polishing : r.state = .polishing) (hl : r.live = some l)
    (now : Nat) (c : HoldCause) : r.caused now c = r.heldAt l now (HoldSet.empty.add c) := by
  simp only [Pass.caused, polishing, Pass.freezeTimer, Pass.remainderAt, hl, Option.map_some, if_true, Pass.heldAt]

theorem Pass.caused_held {r : Pass} (held : r.state = .held) (now : Nat) (c : HoldCause) :
    r.caused now c = { r with holds := r.holds.add c } := by
  simp only [Pass.caused, held]

theorem Pass.caused_idle {r : Pass} (notPolishing : r.state ≠ .polishing) (notHeld : r.state ≠ .held) (now : Nat)
    (c : HoldCause) : r.caused now c = r := by
  unfold Pass.caused
  split <;> simp_all

theorem Arm.park_eq_parked (a : Arm) : a.park = a.parked := rfl

/-- The arm of a platen whose in-situ sweep parks, by its service. -/
theorem Arm.parkedInSitu_eq (a : Arm) :
    a.parkedInSitu = match a.service with | .inSitu _ => if a.sweeping then a.parked else a | _ => a := by
  unfold Arm.parkedInSitu Service.isInSitu
  cases a.service <;> simp [Arm.park_eq_parked]

/-! ### The loss of supply (R157, R160) -/

theorem supplyLoss_eq (s : State) (f : Feed) :
    s.supplyLoss f = (s.addCauses (s.reachedBy f) .supply passSlots).raiseIf
      (s.anyPass fun r => s.reachedBy f r && !r.holds.supply) .fault := rfl

/-- A raised cause leaves what serves the passes alone. -/
theorem raiseIf_blocks (s : State) (b : Bool) (c : Cause) :
    (s.raiseIf b c).items = s.items ∧ (s.raiseIf b c).channels = s.channels ∧ (s.raiseIf b c).supply = s.supply ∧
      (s.raiseIf b c).arms = s.arms := by
  cases b <;> exact ⟨rfl, rfl, rfl, rfl⟩

theorem reachedBy_iff (s : State) (f : Feed) (r : Pass) : s.reachedBy f r = true ↔
    (r.state = .polishing ∨ r.state = .held) ∧ ∃ st, r.step = some st ∧ 0 < (s.row st.blendRow).parts f := by
  unfold State.reachedBy
  rw [Bool.and_eq_true, Pass.running_iff]
  cases r.step <;> simp [stepUses_iff]

/-- A pass that leaves its service, field by field. -/
theorem Pass.leaves_iff (r : Pass) (h : Head) (p : Platen) :
    r.leaves h p ↔ r.state = .polishing ∧ r.head = some h ∧ ∃ st, r.step = some st ∧ st.platen = p := Iff.rfl

/-- Settles O20: SUPPLY added to every pass that uses the feed, slot by slot. -/
theorem supplyLossHolds : Obligations.SupplyLossHolds := by
  intro s f t reached newlyHeld
  have made := caused_addCauses s (s.reachedBy f) .supply passSlots passSlots_nodup
  have reach (r : Pass) : s.reachedBy f r = true ↔ reached r := reachedBy_iff s f r
  have raised := Served.raiseIf (s.addCauses (s.reachedBy f) .supply passSlots)
    (s.anyPass fun r => s.reachedBy f r && !r.holds.supply) .fault
  have pass (i : PassSlot) : t.pass i = (s.pass i).map fun r => if s.reachedBy f r then r.caused s.clock .supply else r := by
    exact (pass_eq_of_passes raised.passes i).trans ((made.pass i).trans (if_pos (mem_passSlots i)))
  have held (h : Head) (p : Platen) :
      (∃ i ∈ passSlots, ∃ r, s.pass i = some r ∧ s.reachedBy f r = true ∧ r.leaves h p) ↔ newlyHeld h p := by
    constructor
    · rintro ⟨i, _, r, live, yes, polishing, head, st, step, platen⟩
      exact ⟨i, r, st, live, polishing, (reach r).1 yes, head, step, platen⟩
    · rintro ⟨i, r, st, live, polishing, yes, head, step, platen⟩
      exact ⟨i, mem_passSlots i, r, live, (reach r).2 yes, polishing, head, st, step, platen⟩
  have left := made.suspended
  simp only [held] at left
  have newly : (s.anyPass fun r => s.reachedBy f r && !r.holds.supply) = true ↔
      ∃ i r, s.pass i = some r ∧ reached r ∧ r.holds.supply = false := by
    simp [anyPass_iff, reach]
  obtain ⟨items, channels, supply, arms⟩ := raiseIf_blocks (s.addCauses (s.reachedBy f) .supply passSlots)
    (s.anyPass fun r => s.reachedBy f r && !r.holds.supply) .fault
  change t.items = _ at items
  change t.channels = _ at channels
  change t.supply = _ at supply
  change t.arms = _ at arms
  refine ⟨fun row => by cases f <;> rfl, fun i free => by rw [pass, free]; rfl, fun i r live => ?_, fun h c => ?_, fun p => ?_,
    fun some => ?_, fun none => ?_, items.trans left.items, made.station.then raised.station⟩
  · rw [pass, live]
    refine ⟨fun no => ?_, fun yes isHeld => ?_, fun yes polishing l hl => ?_⟩
    · simp [mt (reach r).1 no]
    · simp [(reach r).2 yes, Pass.caused_held isHeld, HoldSet.add]
    · simp [(reach r).2 yes, Pass.caused_polishing polishing hl, HoldSet.add, HoldSet.empty]
  · have here : t.channel h c = (s.addCauses (s.reachedBy f) .supply passSlots).channel h c := by
      rw [State.channel, channels]
      rfl
    have change := left.channel h c
    rw [← here] at change
    refine ⟨fun driving newly => ?_, ?_⟩
    · rw [change.1 newly, Channel.enterVent_eq, if_pos driving]
    · rintro (vent | none)
      · by_cases newly : ∃ p, newlyHeld h p
        · rw [change.1 newly, Channel.enterVent_eq, if_neg (by simp [vent])]
        · exact change.2 newly
      · exact change.2 none
  · rw [supply, arms]
    refine ⟨fun newly => ⟨(left.supply p).1 newly, ?_⟩, fun none => ⟨(left.supply p).2 none, (left.arm p).2 none⟩⟩
    exact ((left.arm p).1 newly).trans (Arm.parkedInSitu_eq _)
  · refine Eq.trans ?_ (congrArg (· ||| 8#9) left.attnPending)
    rw [← newly] at some
    simp only [t, supplyLoss_eq, State.raiseIf, some]
    rfl
  · refine Eq.trans ?_ left.attnPending
    rw [← newly] at none
    simp only [t, supplyLoss_eq, State.raiseIf, none]
    rfl

end Sys2Proof.Machine

/-! SUPPORT. The trip: start attempts under the latch, the arms it parks, and the whole of what it leaves (R138, R153, R154). -/

namespace Sys2Proof.Machine

/-! ### Start attempts under the latch (R30) -/

/-- A record whose start attempt failed with TRIP. -/
def Pass.tripBlocked (r : Pass) : Pass := { r with startBlock := some .trip }

/-- Start attempts that failed with TRIP are all that happened. -/
structure Blocked (s t : State) (on : PassSlot → Pass → Prop) : Prop where
  pass : ∀ j, Once (∃ r, s.pass j = some r ∧ on j r) (Option.map Pass.tripBlocked) (s.pass j) (t.pass j)
  rest : t = { s with passes := t.passes }

theorem Blocked.none {s : State} {on : PassSlot → Pass → Prop} (nothing : ∀ j r, s.pass j = some r → ¬on j r) :
    Blocked s s on := ⟨fun j => .never fun ⟨r, hr, yes⟩ => nothing j r hr yes, rfl⟩

theorem Blocked.iff {s t : State} {on on' : PassSlot → Pass → Prop} (a : Blocked s t on)
    (h : ∀ j r, s.pass j = some r → (on' j r ↔ on j r)) : Blocked s t on' :=
  ⟨fun j => (a.pass j).iff (exists_congr fun r => and_congr_right (h j r)), a.rest⟩

theorem Blocked.then {s t u : State} {on on' : PassSlot → Pass → Prop} (a : Blocked s t on) (b : Blocked t u on')
    (blind : ∀ j r, on' j r.tripBlocked ↔ on' j r) : Blocked s u fun j r => on j r ∨ on' j r := by
  refine ⟨fun j => ?_, ?_⟩
  · have idem (v : Option Pass) : Option.map Pass.tripBlocked (Option.map Pass.tripBlocked v) =
        Option.map Pass.tripBlocked v := by cases v <;> rfl
    have still : (∃ r, t.pass j = some r ∧ on' j r) ↔ ∃ r, s.pass j = some r ∧ on' j r := by
      by_cases met : ∃ r, s.pass j = some r ∧ on j r
      · rw [(a.pass j).1 met]
        simp [blind]
      · rw [(a.pass j).2 met]
    refine ((a.pass j).or idem ((b.pass j).iff still.symm)).iff ?_
    simp only [and_or_left, exists_or]
  · rw [b.rest, a.rest]

theorem startFailure_latched {s : State} (latch : s.tripLatch = true) (h : Head) (st : StepProgram) :
    s.startFailure h st = some .trip := if_pos latch

theorem attempt_latched {s : State} (latch : s.tripLatch = true) (i : PassSlot) :
    Blocked s (s.attempt i) fun j r => j = i ∧ r.mayStart s.carousel.k := by
  by_cases away : ∀ r, s.pass i = some r → ¬r.mayStart s.carousel.k
  · rw [attempt_eq_self away]
    exact .none fun j r hr ⟨same, able⟩ => away r (same ▸ hr) able
  · push Not at away
    obtain ⟨r, live, able⟩ := away
    have ⟨_, h, st, hh, hst, _⟩ := able
    rw [attempt_blocked live able hh hst (startFailure_latched latch h st)]
    refine ⟨fun j => ?_, rfl⟩
    by_cases same : j = i
    · subst same
      rw [pass_setPass_self, live]
      exact ⟨fun _ => rfl, fun no => absurd ⟨r, rfl, rfl, able⟩ no⟩
    · rw [pass_setPass, if_neg same]
      exact .never fun ⟨_, _, here, _⟩ => same here

/-- The attempts that an event makes under the latch. -/
theorem attemptEach_latched {s : State} (latch : s.tripLatch = true) (reaches : Pass → Bool)
    (blind : ∀ r, reaches r.tripBlocked = reaches r) :
    Blocked s (s.attemptEach reaches) fun _ r => reaches r = true ∧ r.mayStart s.carousel.k := by
  have each (slots : List PassSlot) :
      Blocked s (slots.foldl (fun t i => if t.passHas i reaches then t.attempt i else t) s)
        fun j r => j ∈ slots ∧ reaches r = true ∧ r.mayStart s.carousel.k := by
    induction slots using List.reverseRecOn with
    | nil => exact .none fun _ _ _ ⟨m, _⟩ => nomatch m
    | append_singleton slots i ih =>
      rw [List.foldl_append]
      generalize slots.foldl _ s = t at ih
      have latch' : t.tripLatch = true := by
        rw [ih.rest]
        exact latch
      have carousel : t.carousel = s.carousel := by rw [ih.rest]
      have one : Blocked t (if t.passHas i reaches then t.attempt i else t)
          fun j r => j = i ∧ reaches r = true ∧ r.mayStart s.carousel.k := by
        rw [← carousel]
        split
        · rename_i has
          obtain ⟨r, live, yes⟩ := (passHas_iff _ _ _).1 has
          refine (attempt_latched latch' i).iff fun j q hq => ?_
          refine and_congr_right fun same => and_iff_right ?_
          rw [same, live] at hq
          cases hq
          exact yes
        · rename_i no
          refine .none fun j q hq ⟨same, yes, _⟩ => no ((passHas_iff _ _ _).2 ⟨q, same ▸ hq, yes⟩)
      refine (ih.then one fun j r => ?_).iff fun j r _ => ?_
      · rw [blind]
        exact Iff.rfl
      · rw [List.mem_append, List.mem_singleton, ← or_and_right]
  refine (each passSlots).iff fun j r _ => ?_
  simp [mem_passSlots]

/-! ### The arms (R138) -/

/-- An arm as the setting of the trip latch leaves it (R138). -/
def Arm.tripped (a : Arm) : Arm :=
  if a.service.isExSitu then { a.parked with service := .none, exSitu := 0 } else if a.sweeping then a.parked else a

/-- A record over a platen whose EX_SITU service ends: it is given a start attempt (R29). -/
def Pass.freedOver (k : Fin 4) (p : Platen) (r : Pass) : Prop := r.mayStart k ∧ r.seat k = some p

/-- The arms of some platens have tripped. -/
structure ArmsTripped (s t : State) (at' : Platen → Prop) : Prop where
  arm : ∀ p, (at' p → t.arms.get p = (s.arms.get p).tripped) ∧ (¬at' p → t.arms.get p = s.arms.get p)
  pass : ∀ j, Once (∃ r, s.pass j = some r ∧
      ∃ p, at' p ∧ (s.arms.get p).service.isExSitu = true ∧ r.freedOver s.carousel.k p)
    (Option.map Pass.tripBlocked) (s.pass j) (t.pass j)
  rest : t = { s with arms := t.arms, passes := t.passes }

theorem ArmsTripped.none (s : State) : ArmsTripped s s fun _ => False :=
  ⟨fun _ => ⟨False.elim, fun _ => rfl⟩, fun _ => .never fun ⟨_, _, _, no, _⟩ => no, rfl⟩

theorem attemptOver_latched {s : State} (latch : s.tripLatch = true) (p : Platen) :
    Blocked s (s.attemptOver p) fun _ r => r.freedOver s.carousel.k p := by
  refine (attemptEach_latched latch (fun r => decide (r.seat s.carousel.k = some p)) fun _ => rfl).iff fun _ r _ => ?_
  rw [decide_eq_true_iff, Pass.freedOver, and_comm]

/-- One arm, given the arm it is left with and the records of the passes it frees. -/
theorem ArmsTripped.one {s t : State} {p : Platen} (a : Arm) (is : (s.arms.get p).tripped = a)
    (blocked : Blocked (s.setArm p a) t fun _ r =>
      (s.arms.get p).service.isExSitu = true ∧ r.freedOver s.carousel.k p) : ArmsTripped s t fun q => q = p := by
  have arms : t.arms = s.arms.set p a := congrArg State.arms blocked.rest
  refine ⟨fun q => ?_, fun j => (blocked.pass j).iff (exists_congr fun r => and_congr_right fun _ => ?_), ?_⟩
  · rw [arms, PerPlaten.get_set]
    refine ⟨fun same => ?_, fun other => if_neg other⟩
    rw [if_pos same, same, is]
  · simp
  · rw [arms]
    exact blocked.rest

theorem tripArm_arms {s : State} (latch : s.tripLatch = true) (p : Platen) :
    ArmsTripped s (s.tripArm p) fun q => q = p := by
  unfold State.tripArm
  dsimp only
  split
  · rename_i exSitu
    refine .one { (s.arms.get p).park with service := .none, exSitu := 0 } (if_pos exSitu) ?_
    have ended := attemptOver_latched (s := s.setArm p { (s.arms.get p).park with service := .none, exSitu := 0 }) latch p
    exact ended.iff fun _ _ _ => and_iff_right exSitu
  · rename_i still
    have tripped : (s.arms.get p).tripped = if (s.arms.get p).sweeping then (s.arms.get p).parked else s.arms.get p :=
      if_neg still
    split
    · rename_i moving
      refine .one (s.arms.get p).parked (tripped.trans (if_pos moving)) ?_
      exact .none fun _ _ _ ⟨exSitu, _⟩ => still exSitu
    · rename_i parked
      refine .one (s.arms.get p) (tripped.trans (if_neg parked)) ?_
      rw [State.setArm, PerPlaten.set_get_self]
      exact .none fun _ _ _ ⟨exSitu, _⟩ => still exSitu

theorem Pass.freedOver_tripBlocked (k : Fin 4) (p : Platen) (r : Pass) : r.tripBlocked.freedOver k p ↔ r.freedOver k p :=
  Iff.rfl

/-- One arm more. -/
theorem ArmsTripped.next {s t u : State} {at' : Platen → Prop} {p : Platen} (a : ArmsTripped s t at') (new : ¬at' p)
    (b : ArmsTripped t u fun q => q = p) : ArmsTripped s u fun q => at' q ∨ q = p := by
  have arm : t.arms.get p = s.arms.get p := (a.arm p).2 new
  have carousel : t.carousel = s.carousel := by rw [a.rest]
  refine ⟨fun q => ⟨?_, fun no => ?_⟩, fun j => ?_, ?_⟩
  · rintro (old | same)
    · exact ((b.arm q).2 fun same => new (same ▸ old)).trans ((a.arm q).1 old)
    · rw [(b.arm q).1 same, same, arm]
  · exact ((b.arm q).2 fun same => no (.inr same)).trans ((a.arm q).2 fun old => no (.inl old))
  · have first : Blocked s { s with passes := t.passes } fun _ r =>
        ∃ q, at' q ∧ (s.arms.get q).service.isExSitu = true ∧ r.freedOver s.carousel.k q := ⟨a.pass, rfl⟩
    have second : Blocked { s with passes := t.passes } { s with passes := u.passes } fun _ r =>
        (s.arms.get p).service.isExSitu = true ∧ r.freedOver s.carousel.k p := by
      refine ⟨fun i => (b.pass i).iff (exists_congr fun r => and_congr_right fun _ => ?_), rfl⟩
      simp [arm, carousel]
    refine ((first.then second fun _ _ => Iff.rfl).pass j).iff (exists_congr fun r => and_congr_right fun _ => ?_)
    simp only [or_and_right, exists_or, exists_eq_left]
  · rw [b.rest, a.rest]

theorem tripArms_arms {s : State} (latch : s.tripLatch = true) : ArmsTripped s s.tripArms fun _ => True := by
  have first := tripArm_arms latch .p0
  have second := first.next (u := (s.tripArm .p0).tripArm .p1) (by simp)
    (tripArm_arms ((KeptStation.tripArm s .p0).tripLatch.trans latch) .p1)
  have third := second.next (u := s.tripArms) (by simp)
    (tripArm_arms (((KeptStation.tripArm s .p0).then (.tripArm _ .p1)).tripLatch.trans latch) .p2)
  have every : (fun q => (q = .p0 ∨ q = .p1) ∨ q = .p2) = fun _ : Platen => True := by
    funext q
    cases q <;> simp
  rwa [every] at third

/-! ### The whole of the trip (R153) -/

theorem holdAll_eq (s : State) : s.holdAll = s.addCauses (fun _ => true) .trip passSlots := by
  unfold State.holdAll State.addCauses
  congr 1
  funext t i
  unfold State.passHas
  cases live : t.pass i with
  | none => simp [State.addCause, live]
  | some r => rfl

theorem channel_ventAll (s : State) (h : Head) (c : Chan) :
    s.ventAll.channel h c = (s.channel h c).enterVent s.clock (s.headSettings.get h).drive.deadTime := by
  unfold State.ventAll State.ventHead
  simp only [channel_updateHead]
  cases h <;> simp

theorem Arm.parkedInSitu_service (a : Arm) : a.parkedInSitu.service = a.service := by
  unfold Arm.parkedInSitu
  split <;> rfl

/-- An arm that the hold of its pass parked trips as if it had not been. -/
theorem Arm.tripped_parkedInSitu (a : Arm) : a.parkedInSitu.tripped = a.tripped := by
  by_cases moving : (a.service.isInSitu && a.sweeping) = true
  · have parked : a.parkedInSitu = a.park := if_pos moving
    rw [Bool.and_eq_true] at moving
    have other : a.service.isExSitu = false := by
      cases e : a.service <;> simp [Service.isInSitu, Service.isExSitu, e] at moving ⊢
    rw [parked]
    simp [Arm.tripped, Arm.park, Arm.parked, other, moving.2]
  · rw [show a.parkedInSitu = a from if_neg moving]

/-- A station after the trip: each record, channel, platen, arm, and the rest. -/
structure Tripped (s t : State) : Prop where
  pass : ∀ i, Once (∃ r, s.pass i = some r ∧ ∃ p, (s.arms.get p).service.isExSitu = true ∧ r.freedOver s.carousel.k p)
    (Option.map Pass.tripBlocked) ((s.pass i).map (Pass.caused s.clock .trip)) (t.pass i)
  channel : ∀ h c, t.channel h c = (s.channel h c).enterVent s.clock (s.headSettings.get h).drive.deadTime
  supply : ∀ p, Once (∃ h i r, s.pass i = some r ∧ r.leaves h p) PlatenSupply.stopped (s.supply.get p).clearDemand
    (t.supply.get p)
  arm : ∀ p, t.arms.get p = (s.arms.get p).tripped
  items : t.items = s.items
  tripLatch : t.tripLatch = true
  carousel : t.carousel = if s.carousel.state = .indexing then { s.carousel with state := .lost, drive := false, timer := none }
    else s.carousel
  attnPending : (s.carousel.state = .indexing → t.attnPending = s.attnPending ||| 68#9) ∧
    (s.carousel.state ≠ .indexing → t.attnPending = s.attnPending ||| 4#9)
  rotation : t.rotation = s.rotation
  windows : t.windows = s.windows
  feeds : t.feeds = s.feeds

/-- A cause makes no pass eligible, and none ineligible. -/
theorem Pass.freedOver_caused (k : Fin 4) (p : Platen) (now : Nat) (c : HoldCause) (r : Pass) :
    (r.caused now c).freedOver k p ↔ r.freedOver k p := by
  unfold Pass.caused
  cases st : r.state <;> simp [Pass.freedOver, Pass.mayStart, st]

theorem PlatenSupply.clearDemand_stopped (x : PlatenSupply) : x.stopped.clearDemand = x.stopped := rfl

/-- Every pass is held, and the blocks that serve it act. -/
theorem holdAll_caused (s : State) : Caused s s.holdAll (fun _ => true) .trip passSlots := by
  rw [holdAll_eq]
  exact caused_addCauses s _ _ passSlots passSlots_nodup

theorem tripCarousel_blocks (s : State) : s.tripCarousel.passes = s.passes ∧ s.tripCarousel.channels = s.channels ∧
    s.tripCarousel.supply = s.supply ∧ s.tripCarousel.arms = s.arms ∧ s.tripCarousel.items = s.items ∧
    s.tripCarousel.rotation = s.rotation ∧ s.tripCarousel.windows = s.windows ∧ s.tripCarousel.feeds = s.feeds ∧
    s.tripCarousel.tripLatch = s.tripLatch := by
  unfold State.tripCarousel
  split <;> exact ⟨rfl, rfl, rfl, rfl, rfl, rfl, rfl, rfl, rfl⟩

theorem ventHead_blocks (s : State) (h : Head) : (s.ventHead h).passes = s.passes ∧ (s.ventHead h).arms = s.arms ∧
    (s.ventHead h).items = s.items ∧ (s.ventHead h).attnPending = s.attnPending ∧ (s.ventHead h).supply = s.supply :=
  ⟨rfl, rfl, rfl, rfl, rfl⟩

/-- The channels vent; nothing else of the station changes (R76). -/
theorem ventAll_blocks (s : State) : s.ventAll.passes = s.passes ∧ s.ventAll.arms = s.arms ∧ s.ventAll.items = s.items ∧
    s.ventAll.attnPending = s.attnPending ∧ s.ventAll.supply = s.supply := by
  simp only [State.ventAll, ventHead_blocks, and_self]

/-- The demands go; nothing else of the station changes (R120). -/
theorem clearAllDemand_blocks (s : State) : s.clearAllDemand.passes = s.passes ∧ s.clearAllDemand.arms = s.arms ∧
    s.clearAllDemand.items = s.items ∧ s.clearAllDemand.attnPending = s.attnPending ∧
    s.clearAllDemand.channels = s.channels ∧ s.clearAllDemand.supply = s.supply.map PlatenSupply.clearDemand :=
  ⟨rfl, rfl, rfl, rfl, rfl, rfl⟩

theorem latched_attnPending (s : State) :
    ({ s with tripLatch := true }.raise .trip).attnPending = s.attnPending ||| 4#9 := rfl

theorem loseCarousel_attnPending (s : State) : s.loseCarousel.attnPending = s.attnPending ||| 64#9 := rfl

theorem loseCarousel_carousel (s : State) :
    s.loseCarousel.carousel = { s.carousel with state := .lost, drive := false, timer := none } := rfl

theorem trip_tripped (s : State) : Tripped s s.trip := by
  -- The stages of the trip: all held, all vented with no demand, the arms tripped.
  have stages : ∃ u v w, u = ({ s with tripLatch := true }.raise .trip).holdAll ∧ v = u.ventAll.clearAllDemand ∧
      w = v.tripArms ∧ s.trip = w.tripCarousel := ⟨_, _, _, rfl, rfl, rfl, rfl⟩
  obtain ⟨u, v, w, toHeld, toClear, toArms, after⟩ := stages
  have held := holdAll_caused ({ s with tripLatch := true }.raise .trip)
  have stationU := KeptStation.holdAll ({ s with tripLatch := true }.raise .trip)
  rw [← toHeld] at held stationU
  have stationV : KeptStation u v := toClear ▸ (KeptStation.ventAll u).then (.clearAllDemand _)
  obtain ⟨passesV, armsV, itemsV, attnV, channelsV, supplyV⟩ := clearAllDemand_blocks u.ventAll
  obtain ⟨passesU, armsU, itemsU, attnU, supplyU⟩ := ventAll_blocks u
  rw [← toClear] at passesV armsV itemsV attnV channelsV supplyV
  rw [passesU] at passesV
  rw [armsU] at armsV
  rw [itemsU] at itemsV
  rw [attnU] at attnV
  rw [supplyU] at supplyV
  have latch : v.tripLatch = true := (stationU.then stationV).tripLatch
  have arms : ArmsTripped v w fun _ => True := toArms ▸ tripArms_arms latch
  have whole : KeptStation ({ s with tripLatch := true }.raise .trip) w :=
    (stationU.then stationV).then (toArms ▸ KeptStation.tripArms v)
  have carousel : w.carousel = s.carousel := whole.carousel
  have carouselV : v.carousel = s.carousel := (stationU.then stationV).carousel
  obtain ⟨passes, channels, supply, arms', items, rotation, windows, feeds, latch'⟩ := tripCarousel_blocks w
  rw [← after] at passes channels supply arms' items rotation windows feeds latch'
  have parkedArm (p : Platen) : (v.arms.get p).service = (s.arms.get p).service ∧
      (v.arms.get p).tripped = (s.arms.get p).tripped := by
    have change := held.suspended.arm p
    rw [← armsV] at change
    by_cases on : ∃ h, ∃ i ∈ passSlots, ∃ r, ({ s with tripLatch := true }.raise .trip).pass i = some r ∧ true = true ∧
        r.leaves h p
    · rw [change.1 on]
      exact ⟨Arm.parkedInSitu_service _, Arm.tripped_parkedInSitu _⟩
    · rw [change.2 on]
      exact ⟨rfl, rfl⟩
  have record (i : PassSlot) : v.pass i = (s.pass i).map (Pass.caused s.clock .trip) :=
    (pass_eq_of_passes passesV i).trans ((held.pass i).trans (if_pos (mem_passSlots i)))
  constructor
  case pass =>
    intro i
    rw [pass_eq_of_passes passes i, ← record]
    refine (arms.pass i).iff ?_
    rw [record]
    cases live : s.pass i with
    | none => simp
    | some r => simp [parkedArm, carouselV, Pass.freedOver_caused]
  case channel =>
    intro h c
    have here : s.trip.channel h c = u.ventAll.channel h c := by
      unfold State.channel
      rw [channels, arms.rest, ← channelsV]
    rw [here, channel_ventAll, stationU.outside.clock, stationU.outside.headSettings]
    have change := held.suspended.channel h c
    by_cases on : ∃ p, ∃ i ∈ passSlots, ∃ r, ({ s with tripLatch := true }.raise .trip).pass i = some r ∧ true = true ∧
        r.leaves h p
    · rw [change.1 on]
      exact Channel.enterVent_idem _ _ _
    · rw [change.2 on]
      rfl
  case supply =>
    intro p
    have here : s.trip.supply.get p = (u.supply.get p).clearDemand := by
      rw [supply, arms.rest]
      exact (congrArg (PerPlaten.get · p) supplyV).trans (PerPlaten.get_map _ _ _)
    rw [here]
    have change := held.suspended.supply p
    have on : (∃ h i r, s.pass i = some r ∧ r.leaves h p) ↔
        ∃ h, ∃ i ∈ passSlots, ∃ r, ({ s with tripLatch := true }.raise .trip).pass i = some r ∧ true = true ∧
          r.leaves h p := by
      simp only [mem_passSlots, true_and]
      exact Iff.rfl
    refine Once.iff ⟨fun yes => ?_, fun no => ?_⟩ on
    · rw [change.1 yes]
      rfl
    · rw [change.2 no]
      rfl
  case arm =>
    intro p
    rw [arms', (arms.arm p).1 trivial]
    exact (parkedArm p).2
  case items =>
    rw [items, arms.rest]
    exact itemsV.trans held.suspended.items
  case tripLatch => exact latch'.trans whole.tripLatch
  case carousel =>
    rw [after, State.tripCarousel, carousel]
    split
    · rw [loseCarousel_carousel, carousel]
    · exact carousel
  case attnPending =>
    have attn : w.attnPending = s.attnPending ||| 4#9 := by
      rw [arms.rest, ← latched_attnPending s]
      exact attnV.trans held.suspended.attnPending
    rw [after, State.tripCarousel, carousel]
    refine ⟨fun moving => ?_, fun still => ?_⟩
    · rw [if_pos moving, loseCarousel_attnPending, attn, BitVec.or_assoc]
      rfl
    · rw [if_neg still]
      exact attn
  case rotation => exact rotation.trans whole.rotation
  case windows => exact windows.trans whole.windows
  case feeds => exact feeds.trans whole.feeds

/-- A waiting pass over a platen whose EX_SITU service ends, field by field. -/
theorem Pass.freed_iff {r : Pass} (waiting : r.state = .waiting) (s : State) :
    (∃ p, (s.arms.get p).service.isExSitu = true ∧ r.freedOver s.carousel.k p) ↔
      ∃ h st, r.head = some h ∧ r.step = some st ∧ platenUnder s.carousel.k h = some st.platen ∧
        (s.arms.get st.platen).service.isExSitu = true := by
  constructor
  · rintro ⟨p, exSitu, -, seat⟩
    obtain ⟨h, st, hh, hst, rfl, under⟩ := (Pass.seat_eq_some_iff _ _ _).1 seat
    exact ⟨h, st, hh, hst, under, exSitu⟩
  · rintro ⟨h, st, hh, hst, under, exSitu⟩
    exact ⟨st.platen, exSitu, ⟨waiting, h, st, hh, hst, under⟩, (Pass.seat_eq_some_iff _ _ _).2 ⟨h, st, hh, hst, rfl, under⟩⟩

/-- No attempt reaches a pass that does not wait. -/
theorem Pass.not_freed {r : Pass} (busy : r.state ≠ .waiting) (k : Fin 4) (p : Platen) : ¬r.freedOver k p :=
  fun freed => busy freed.1.1

section
variable {s t : State} (trip : Tripped s t) {i : PassSlot}

include trip

theorem Tripped.free (free : s.pass i = none) : t.pass i = none := by
  have unmet : ¬∃ r, s.pass i = some r ∧ ∃ p, (s.arms.get p).service.isExSitu = true ∧ r.freedOver s.carousel.k p :=
    fun ⟨_, live, _⟩ => nomatch free.symm.trans live
  rw [(trip.pass i).2 unmet, free, Option.map_none]

variable {r : Pass} (live : s.pass i = some r)

include live

/-- A record that no attempt reaches has TRIP added, where a cause reaches it. -/
theorem Tripped.unfreed (unfreed : ∀ p, (s.arms.get p).service.isExSitu = true → ¬r.freedOver s.carousel.k p) :
    t.pass i = some (r.caused s.clock .trip) := by
  rw [(trip.pass i).2 fun ⟨q, there, p, exSitu, freed⟩ => ?_, live]
  · rfl
  · cases live.symm.trans there
    exact unfreed p exSitu freed

theorem Tripped.freed (waiting : r.state = .waiting)
    (freed : ∃ p, (s.arms.get p).service.isExSitu = true ∧ r.freedOver s.carousel.k p) :
    t.pass i = some r.tripBlocked := by
  rw [(trip.pass i).1 ⟨r, live, freed⟩, live, Option.map_some, Option.map_some,
    Pass.caused_idle (by simp [waiting]) (by simp [waiting])]

end

/-- The event with the latch clear is the trip (R153, R154). -/
theorem tripEvent_clear {s : State} (dt : Nat) (released : s.estop = false) (clear : s.tripLatch = false) :
    exec (.tripEvent dt) s = .next { s.elapse dt with estop := true }.trip := by
  refine congrArg Host.Outcome.next ((if_neg (by simp [released])).trans (if_neg ?_))
  show ¬s.tripLatch = true
  simp [clear]

/-- With the latch set the level alone follows (R154). -/
theorem tripEvent_latched {s : State} (dt : Nat) (released : s.estop = false) (latch : s.tripLatch = true) :
    exec (.tripEvent dt) s = .next { s.elapse dt with estop := true } :=
  congrArg Host.Outcome.next ((if_neg (by simp [released])).trans (if_pos latch))

/-- Settles O26: the trip, record by record and block by block. -/
theorem tripEventHoldsEverything : Obligations.TripEventHoldsEverything := by
  refine fun s dt => ⟨fun active => congrArg Host.Outcome.next (if_pos active), fun released latch =>
    tripEvent_latched dt released latch, fun released clear => ?_⟩
  · have trip := trip_tripped { s.elapse dt with estop := true }
    have kept := Kept.trip { s.elapse dt with estop := true }
    refine ⟨_, tripEvent_clear dt released clear, trip.tripLatch, kept.estop, kept.clock, fun i free => trip.free free,
      fun i r live => ⟨fun idle => ?_, fun waiting => ⟨fun freed => ?_, fun unfreed => ?_⟩, fun held => ?_,
        fun polishing l hl => ?_⟩, fun h c => ?_, fun p => ⟨fun runs => ?_, fun rests => ?_⟩, fun p => trip.arm p,
      fun moving => ?_, fun still => ?_, trip.rotation, trip.windows, trip.feeds, trip.items, kept⟩
    · rw [trip.unfreed live fun p _ => Pass.not_freed (by rcases idle with e | e <;> simp [e]) _ p]
      rw [Pass.caused_idle (by rcases idle with e | e <;> simp [e]) (by rcases idle with e | e <;> simp [e])]
    · exact trip.freed live waiting ((Pass.freed_iff waiting s).2 freed)
    · rw [trip.unfreed live fun p exSitu freed => unfreed ((Pass.freed_iff waiting s).1 ⟨p, exSitu, freed⟩),
        Pass.caused_idle (by simp [waiting]) (by simp [waiting])]
    · rw [trip.unfreed live fun p _ => Pass.not_freed (by simp [held]) _ p, Pass.caused_held held]
      rfl
    · rw [trip.unfreed live fun p _ => Pass.not_freed (by simp [polishing]) _ p, Pass.caused_polishing polishing hl]
      rfl
    · rw [trip.channel, Channel.enterVent_eq]
      rfl
    · obtain ⟨i, r, h, st, live, polishing, head, step, platen⟩ := runs
      exact (trip.supply p).1 ⟨h, i, r, live, polishing, head, st, step, platen⟩
    · refine (trip.supply p).2 fun ⟨h, i, r, live, polishing, head, st, step, platen⟩ => ?_
      exact rests ⟨i, r, h, st, live, polishing, head, step, platen⟩
    · exact ⟨trip.carousel.trans (if_pos moving), trip.attnPending.1 moving⟩
    · exact ⟨trip.carousel.trans (if_neg still), trip.attnPending.2 still⟩

/-! ### What every command keeps of it -/

theorem Tripped.stopped {s t : State} (trip : Tripped s t) : t.stopped := by
  refine ⟨fun i r hr => ?_, fun p => ?_⟩
  · have held (q : Pass) : (q.caused s.clock .trip).state ≠ .polishing := by
      unfold Pass.caused
      cases st : q.state <;> simp [st]
    have record : t.pass i = (s.pass i).map (Pass.caused s.clock .trip) ∨
        t.pass i = ((s.pass i).map (Pass.caused s.clock .trip)).map Pass.tripBlocked :=
      (Classical.em _).symm.imp (trip.pass i).2 (trip.pass i).1
    rw [hr] at record
    cases live : s.pass i with
    | none => simp [live] at record
    | some q =>
      rw [live] at record
      rcases record with e | e <;> cases e
      · exact held q
      · exact held q
  · rw [trip.arm]
    unfold Arm.tripped
    split
    · exact ⟨rfl, rfl⟩
    · rename_i still
      have still := Bool.eq_false_of_not_eq_true still
      split
      · exact ⟨rfl, still⟩
      · rename_i parked
        exact ⟨Bool.eq_false_of_not_eq_true parked, still⟩

/-- Neither a start nor a resume is taken under the latch, and all else keeps a record from polishing. -/
theorem exec_stopped_of_still {i : Instr} {s t : State} (still : i.turns = false) (e : exec i s = .next t)
    (latch : s.tripLatch = true) (d : s.dwellsWf) (w : s.stopped) : t.stopped := by
  have h := records_stopped latch d w
  have c := closed_notPolishing s.carousel.k
  by_cases remakes : i.remakes = true
  · cases i <;> cases still <;> cases remakes
    case pos.passCreate => exact (h.passCreate _ e fun _ _ _ _ _ _ _ _ _ => by simp [NotPolishing, freshPass]).stopped
    case pos.passBind => exact (h.passBind _ e fun _ _ _ _ _ _ clear _ _ _ => nomatch latch.symm.trans clear).stopped
    case pos.passAmend => exact (h.passAmend c _ e fun _ _ _ _ _ _ w _ _ _ _ => w).stopped
    case pos.passAbort => exact (h.passAbort c _ e fun _ _ _ _ _ _ => by simp [NotPolishing, Pass.enterEnded]).stopped
    case pos.passResume => exact (h.passResume c _ e fun _ _ _ _ _ _ _ _ clear => nomatch latch.symm.trans clear).stopped
  · exact (h.ordinary c i (Bool.eq_false_of_not_eq_true remakes) e).stopped

theorem afterReset_stopped (pins : PinLevels) (s : State) (written : Nat) : (s.fullReset pins written).stopped := by
  refine ⟨fun i r hr => (nomatch (pass_fullReset s pins written i).symm.trans hr), fun p => ?_⟩
  rw [State.fullReset, afterReset_arm]
  exact ⟨rfl, rfl⟩

/-- A refused TRIP-CLEAR leaves all as it was, and an accepted one leaves the latch clear (R155). -/
theorem tripClear_tripStops {s : State} (dt : Nat) (w : s.tripStops) :
    ((s.elapse dt).serve .tripClear tripClearRule).tripStops := by
  refine serve_keeps (P := State.tripStops) _ _ _ w (fun _ _ h => h) fun _ _ _ => ?_
  dsimp only [tripClearRule]
  split
  · intro latch
    exact nomatch (KeptStation.attemptAll { s.elapse dt with tripLatch := false }).tripLatch.symm.trans latch
  · exact w

theorem tripEvent_tripStops {s : State} (dt : Nat) (w : s.tripStops) :
    State.tripStops (if s.estop then s.elapse dt else (s.elapse dt).estopActive) := by
  split
  · exact w
  · unfold State.estopActive
    dsimp only
    split
    · exact w
    · exact fun _ => (trip_tripped _).stopped

/-- The passes that a completed index seats do not start under the latch (R146). -/
theorem cdoneRises_tripStops {s : State} (code : Fin 4) (d : s.dwellsWf) (w : s.tripStops) :
    (s.cdoneRises code).tripStops := by
  unfold State.cdoneRises
  split
  · intro latch
    have latches := (KeptStation.attemptAll ((s.raiseIf (decide (code ≠ nextOffset s.carousel.k)) .carousel).stopCarousel
      code)).tripLatch
    have raised := KeptStation.raiseIf s (decide (code ≠ nextOffset s.carousel.k)) .carousel
    have before : s.tripLatch = true := raised.tripLatch.symm.trans (latches.symm.trans latch)
    have h := (records_stopped before d (w before)).raiseIf (decide (code ≠ nextOffset s.carousel.k)) .carousel
    exact (h.stopCarousel_latched (raised.tripLatch.trans before) code).stopped
  · exact w

theorem exec_tripStops {i : Instr} {s t : State} (e : exec i s = .next t) (d : s.dwellsWf) (w : s.tripStops) :
    t.tripStops := by
  by_cases turns : i.turns = true
  · cases i <;> cases turns <;> rw [next_inj e]
    case pos.powerOnReset pins written => exact fun _ => afterReset_stopped pins s written
    case pos.resetPin pins written => exact fun _ => afterReset_stopped pins s written
    case pos.tripEvent dt => exact tripEvent_tripStops dt w
    case pos.tripClear dt => exact tripClear_tripStops dt w
    case pos.carouselIndex dt =>
      refine serve_keeps (P := State.tripStops) _ _ _ w (fun _ _ h => h) fun _ _ _ => ?_
      exact w
    case pos.carouselSync dt code =>
      refine serve_keeps (P := State.tripStops) _ _ _ w (fun _ _ h => h) fun _ _ accepted => ?_
      dsimp only [carouselSyncRule]
      intro latch
      exact nomatch ((KeptStation.attemptAll ((s.elapse dt).stopCarousel code)).tripLatch.trans
        (syncCheck_ok accepted).1).symm.trans latch
    case pos.carouselIndexCompletion dt code =>
      split
      · exact w
      · exact cdoneRises_tripStops (s := (s.elapse dt).setCdone true) code d w
    case pos.indexTimerExpiry =>
      split
      · exact w
      · exact w
  · have still := Bool.eq_false_of_not_eq_true turns
    intro latch
    have before : s.tripLatch = true := (exec_stands still e).tripLatch.symm.trans latch
    exact exec_stopped_of_still still e before d (w before)

/-- Settles O57: the carousel, the channels, the dwell timers and the latch, each by what its own commands do. -/
theorem stationKept : Obligations.StationKept := by
  intro s t h
  have regular := step_regular h
  refine ⟨regular.drive, fun drive seated => ?_, fun channels dwells => ?_, fun settings dwells timed p =>
    ((regular.sweeps.keep (sweepsReady_of settings dwells timed)).2 p).2, fun dwells stops => ?_, regular.stocked.demand⟩
  all_goals rcases step_cases h with rfl | ⟨c, rest, ran⟩
  · exact seated
  · exact exec_seated ran drive seated
  · exact ⟨channels, dwells⟩
  · exact exec_channels_dwells ran channels dwells
  · exact stops
  · exact exec_tripStops ran dwells stops

end Sys2Proof.Machine

/-! SUPPORT. The queue of commands and the two full resets (R180, R184). -/

namespace Sys2Proof.Machine

/-- Settles O1: a step runs the command at the front of the queue. -/
theorem stepRunsTheFrontCommand : Obligations.StepRunsTheFrontCommand := by
  refine ⟨step_cons, fun s empty => ?_⟩
  unfold step
  rw [empty]

/-- No command puts another one into the queue. -/
theorem exec_pending {i : Instr} {s t : State} (h : exec i s = .next t) : t.pending = s.pending := by
  cases loud : i.loud
  · exact (exec_quiet loud h).pending
  · cases i <;> cases loud <;> rw [next_inj h]
    case true.powerOnReset => rfl
    case true.resetPin => rfl
    case true.tripEvent dt =>
      split
      · rfl
      · unfold State.estopActive
        dsimp only
        split
        · rfl
        · exact (Kept.trip { s.elapse dt with estop := true }).pending
    case true.tripClear => exact (tripClear_leaves _ s _ rfl).1
    case true.carouselIndex =>
      exact serve_keeps (P := fun u => u.pending = s.pending) _ _ _ rfl (fun _ _ w => w) fun _ _ _ => rfl
    case true.carouselSync =>
      refine serve_keeps (P := fun u => u.pending = s.pending) _ _ _ rfl (fun _ _ w => w) fun _ _ _ => ?_
      dsimp only [carouselSyncRule]
      exact (KeptStation.attemptAll _).outside.pending
    case true.carouselIndexCompletion dt code =>
      split
      · rfl
      · exact (Kept.cdoneRises ((s.elapse dt).setCdone true) code).pending
    case true.indexTimerExpiry => split <;> rfl
    case true.settingsSave =>
      exact serve_keeps (P := fun u => u.pending = s.pending) _ _ _ rfl (fun _ _ w => w) fun _ _ _ => rfl
    case true.saveDone => split <;> rfl
    case true.saveFailed => split <;> rfl
    case true.cdoneFallingEdge => rfl

/-- Settles O2: every command answers a next state and leaves the queue. -/
theorem everyCommandCompletes : Obligations.EveryCommandCompletes := by
  intro c s
  obtain ⟨t, ran⟩ := exec_next c s
  exact ⟨t, ran, exec_pending ran⟩

/-! ### The full resets -/

theorem exec_fullReset {c : Instr} {s : State} {pins : PinLevels} {written : Nat}
    (reset : c = .powerOnReset pins written ∨ c = .resetPin pins written) :
    exec c s = .next (s.fullReset pins written) := by
  rcases reset with rfl | rfl <;> rfl

/-- Settles O3: the values of a full reset, field by field. -/
theorem fullResetValues : Obligations.FullResetValues := by
  intro s pins written c reset
  refine ⟨_, exec_fullReset reset, afterReset_pass _ _ _, afterReset_item _ _ _, fun _ => rfl, fun p => ?_, fun h z => ?_,
    fun h c => ?_, fun h => ?_, fun h c => ?_, (Nat.zero_add _).symm, afterReset_row _ _ _, fun f => ?_,
    (Nat.zero_add _).symm, (Nat.zero_add _).symm, (Nat.zero_add _).symm, rfl, rfl,
    afterReset_supply _ _ _, fun p => ?_, fun p => ?_, afterReset_profile _ _ _, rfl, rfl, rfl, rfl, rfl, rfl, rfl, rfl, rfl,
    rfl, ?_, rfl, rfl, rfl, rfl, rfl⟩
  · cases p <;> rfl
  · simp [State.fullReset, State.afterReset]
  · have zero : (s.fullReset pins written).clock = 0 := rfl
    rw [zero, Nat.zero_add, Nat.zero_add]
    exact afterReset_channel _ _ _ h c
  · cases h <;> rfl
  · rw [State.fullReset, State.afterReset, PerHead.get_all]
    exact PerChan.get_all _ _
  · cases f <;> exact ⟨rfl, rfl, rfl, rfl, rfl⟩
  · rw [State.fullReset, afterReset_arm]
    exact ⟨rfl, rfl, rfl, rfl, rfl, rfl, rfl, rfl⟩
  · cases p <;> rfl
  · show (0#9 &&& CauseSet.all != 0#9) = false
    decide

/-- The EEPROM byte by byte where a full reset cuts a save (R184). -/
theorem readCell_eepromAtReset {s : State} {image : List Byte} (w : s.storeWf) (writing : s.save = .writing image)
    (written a : Nat) : readCell a (s.eepromAtReset written) =
      if a < written then (match image[a]? with | some b => b | none => readCell a s.eeprom) else readCell a s.eeprom := by
  have under : s.writingImage = some image := by rw [State.writingImage, writing]
  rw [State.eepromAtReset, under]
  dsimp only
  rw [readCell_writeCells _ _ _ w.1, if_pos (Nat.zero_le a), Nat.sub_zero, List.getElem?_take]
  by_cases early : a < written <;> cases e : image[a]? <;> simp [early]

/-- Settles O4: what a reset leaves in the EEPROM. -/
theorem resetCutsTheSave : Obligations.ResetCutsTheSave := by
  refine fun s pins written c w reset => ⟨_, exec_fullReset reset, fun image writing a => ?_, fun idle => ?_⟩
  · exact readCell_eepromAtReset w writing written a
  · show s.eepromAtReset written = s.eeprom
    unfold State.eepromAtReset State.writingImage
    cases save : s.save with
    | writing image => exact absurd save (idle image)
    | none => rfl
    | done => rfl
    | failed => rfl

/-! ### The invariants at a reset -/

theorem afterReset_driveWf (pins : PinLevels) (eeprom : List Host.Cell) (pending : List Instr) :
    (State.afterReset pins eeprom pending).driveWf := ⟨rfl, rfl⟩

/-- Every invariant holds after a reset, over canonical cells. -/
theorem afterReset_invariants (pins : PinLevels) (eeprom : List Host.Cell) (pending : List Instr)
    (cells : Memory.wf eeprom = true) :
    let t := State.afterReset pins eeprom pending
    t.settingsWf ∧ t.phasesWf ∧ t.storeWf ∧ t.linkWf ∧ t.passesWf ∧ t.passesApart ∧ t.itemsWf ∧ t.driveWf ∧ t.seated ∧
      t.channelsWf ∧ t.dwellsWf ∧ t.sweepsTimed ∧ t.tripStops ∧ t.demandWf := by
  have none {i : PassSlot} {r : Pass} : (State.afterReset pins eeprom pending).pass i ≠ some r := by
    simp [afterReset_pass]
  have parked (p : Platen) : (State.afterReset pins eeprom pending).arms.get p = Arm.reset := afterReset_arm _ _ _ p
  refine ⟨afterReset_settingsWf _ _ _, afterReset_phasesWf _ _ _, ⟨cells, fun _ e => nomatch e⟩, buffersWf_nil,
    fun _ _ live => (none live).elim, fun _ _ _ _ live => (none live).elim, afterReset_itemsWf _ _ _,
    afterReset_driveWf _ _ _, fun _ _ live => (none live).elim, afterReset_channelsWf _ _ _, afterReset_dwellsWf _ _ _,
    fun p => ((afterReset_sweepsReady pins eeprom pending).2 p).2, fun _ => ⟨fun _ _ live => (none live).elim, fun p => ?_⟩,
    afterReset_demandWf _ _ _⟩
  rw [parked]
  exact ⟨rfl, rfl⟩

/-- Settles O54: the reset state and every full reset are a state after reset. -/
theorem invariantsHoldAtReset : Obligations.InvariantsHoldAtReset := by
  intro s pins written w t h
  rcases h with rfl | ran | ran
  · exact afterReset_invariants _ _ _ rfl
  · rw [next_inj ran]
    exact afterReset_invariants _ _ _ (eepromAtReset_wf w written)
  · rw [next_inj ran]
    exact afterReset_invariants _ _ _ (eepromAtReset_wf w written)

end Sys2Proof.Machine

/-! SUPPORT. The receiver: breaks, characters and whole frames (R166 to R170). -/

namespace Sys2Proof.Machine

/-! ### A character -/

theorem markCorrupt_eq (s : State) :
    s.markCorrupt = { s with corrupt := true, attnPending := s.attnPending ||| 128#9 } := rfl

theorem discardFrame_eq (s : State) : s.discardFrame =
    { s with receiver := .hunting, corrupt := true, attnPending := s.attnPending ||| 128#9 } := rfl

/-- A stray byte leaves the receiver hunting as a discarded frame does (R167). -/
theorem receive_hunting {s : State} (hunting : s.receiver = .hunting) (ch : LinkChar) : s.receive ch = s.discardFrame := by
  have same : { s with receiver := Receiver.hunting } = s := by rw [← hunting]
  rw [State.receive, hunting, State.discardFrame, same]

section
variable {s : State} {bytes : List Byte} {idleFrom : Nat} (receiving : s.receiver = .receiving bytes idleFrom)
  {ch : LinkChar}

include receiving

theorem receive_damaged (damaged : charGood ch = false) : s.receive ch = s.discardFrame := by
  simp [State.receive, receiving, damaged]

variable (good : charGood ch = true)

include good

theorem receive_badLength (bad : badLength (bytes ++ [ch.data]) = true) : s.receive ch = s.discardFrame := by
  simp [State.receive, receiving, good, bad]

theorem receive_grows (right : badLength (bytes ++ [ch.data]) = false) (more : frameDone (bytes ++ [ch.data]) = false) :
    s.receive ch = { s with receiver := .receiving (bytes ++ [ch.data]) s.clock } := by
  simp [State.receive, receiving, good, right, more]

theorem receive_completes (right : badLength (bytes ++ [ch.data]) = false) (done : frameDone (bytes ++ [ch.data]) = true) :
    s.receive ch = s.judgeFrame (bytes ++ [ch.data]) := by
  simp [State.receive, receiving, good, right, done]

end

theorem charGood_iff (ch : LinkChar) : charGood ch = true ↔ parityError ch = false ∧ ch.stop = true := by
  simp [charGood]

theorem charGood_eq_false_iff (ch : LinkChar) : charGood ch = false ↔ parityError ch = true ∨ ch.stop = false := by
  cases e : parityError ch <;> simp [charGood, e]

theorem charGood_charOf (b : Byte) : charGood (charOf b) = true := by
  simp [charGood, charOf, parityError]

/-- A parity error is an odd count of ones in the eight bits and the parity bit (R166). -/
theorem parityError_iff (ch : LinkChar) : parityError ch = true ↔
    (((List.range 8).map ch.data.getLsbD).count true + (if ch.parity then 1 else 0)) % 2 = 1 := by
  have listed : (List.range 8).map ch.data.getLsbD =
      [ch.data.getLsbD 0, ch.data.getLsbD 1, ch.data.getLsbD 2, ch.data.getLsbD 3, ch.data.getLsbD 4, ch.data.getLsbD 5,
        ch.data.getLsbD 6, ch.data.getLsbD 7] := rfl
  rw [listed, parityError, oddOnes]
  generalize ch.data.getLsbD 0 = b0, ch.data.getLsbD 1 = b1, ch.data.getLsbD 2 = b2, ch.data.getLsbD 3 = b3,
    ch.data.getLsbD 4 = b4, ch.data.getLsbD 5 = b5, ch.data.getLsbD 6 = b6, ch.data.getLsbD 7 = b7, ch.parity = p
  revert b0 b1 b2 b3 b4 b5 b6 b7 p
  decide

/-! ### The length of a frame (R168, R169) -/

theorem frameLength_cons (lo hi : Byte) (rest : List Byte) : frameLength (lo :: hi :: rest) = le2 lo hi :=
  field_cons_two lo hi rest

theorem badLength_short {bytes : List Byte} (short : bytes.length < 2) : badLength bytes = false := by
  simp [badLength, short]

theorem frameDone_short {bytes : List Byte} (short : bytes.length < 2) : frameDone bytes = false := by
  simp [frameDone, short]

theorem badLength_cons_eq_false (lo hi : Byte) (rest : List Byte) :
    badLength (lo :: hi :: rest) = false ↔ 2 ≤ le2 lo hi ∧ le2 lo hi ≤ 1022 := by
  simp [badLength, frameLength_cons, within]

theorem badLength_cons (lo hi : Byte) (rest : List Byte) :
    badLength (lo :: hi :: rest) = true ↔ le2 lo hi < 2 ∨ 1022 < le2 lo hi := by
  rw [← Bool.not_eq_false, badLength_cons_eq_false]
  omega

theorem frameDone_cons (lo hi : Byte) (rest : List Byte) :
    frameDone (lo :: hi :: rest) = true ↔ le2 lo hi + 4 ≤ rest.length + 2 := by
  simp [frameDone, frameLength_cons]

theorem frameDone_cons_eq_false (lo hi : Byte) (rest : List Byte) :
    frameDone (lo :: hi :: rest) = false ↔ rest.length + 2 < le2 lo hi + 4 := by
  simp [frameDone, frameLength_cons]

/-! ### The three rows of an arriving byte -/

theorem exec_byte {c : Instr} {dt : Nat} {ch : LinkChar}
    (row : c = .strayByte dt ch ∨ c = .byteArrivesReceiving dt ch ∨ c = .frameComplete dt ch) (s : State) :
    exec c s = .next ((s.elapse dt).receive ch) := by
  rcases row with rfl | rfl | rfl <;> rfl

/-- Settles O6: a character by the receiver, the character and the length known so far. -/
theorem bytesBeforeTheLast : Obligations.BytesBeforeTheLast := by
  refine ⟨parityError_iff, fun s dt ch c row => ?_⟩
  simp only [exec_byte row]
  refine ⟨fun hunting => ?_, fun bytes idleFrom receiving => ⟨fun damaged => ?_, fun even stop => ?_, fun even stop => ?_⟩⟩
  · exact congrArg Host.Outcome.next (receive_hunting (s := s.elapse dt) hunting ch)
  · exact congrArg Host.Outcome.next (receive_damaged (s := s.elapse dt) receiving ((charGood_eq_false_iff ch).2 damaged))
  · rintro b rfl bad
    exact congrArg Host.Outcome.next (receive_badLength (s := s.elapse dt) receiving ((charGood_iff ch).2 ⟨even, stop⟩)
      ((badLength_cons b ch.data []).2 bad))
  · intro unfinished
    refine congrArg Host.Outcome.next (receive_grows (s := s.elapse dt) receiving ((charGood_iff ch).2 ⟨even, stop⟩) ?_ ?_)
    · rcases unfinished with rfl | ⟨b, rfl, low, high⟩ | ⟨lo, hi, rest, rfl, low, high, _⟩
      · rfl
      · exact (badLength_cons_eq_false _ _ _).2 ⟨low, high⟩
      · exact (badLength_cons_eq_false _ _ _).2 ⟨low, high⟩
    · rcases unfinished with rfl | ⟨b, rfl, low, high⟩ | ⟨lo, hi, rest, rfl, _, _, more⟩
      · rfl
      · exact (frameDone_cons_eq_false _ _ _).2 (by simp only [List.length_nil]; omega)
      · refine (frameDone_cons_eq_false lo hi (rest ++ [ch.data])).2 ?_
        simp only [List.length_cons] at more
        simp only [List.length_append, List.length_cons, List.length_nil]
        omega

/-! ### Breaks and the idle limit (R167, R169) -/

/-- Settles O5: a break and the idle limit, by the bytes the frame has. -/
theorem breakAndIdleLimit : Obligations.BreakAndIdleLimit := by
  intro s dt lowBits idleFrom
  refine ⟨fun long => ⟨_, congrArg Host.Outcome.next (if_pos long), ?_, ?_, ?_⟩, fun short =>
    congrArg Host.Outcome.next (if_neg (by
    show ¬11 ≤ lowBits
    omega)), fun hunting => ?_, fun empty => ?_, fun b bytes receiving => ?_⟩
  · rfl
  · rintro ⟨b, bytes, idle, receiving⟩
    have here : (s.elapse dt).receiver = .receiving (b :: bytes) idle := receiving
    simp only [State.receiveBreak, here]
    rfl
  · intro none
    unfold State.receiveBreak
    cases here : s.receiver with
    | hunting =>
      have here : (s.elapse dt).receiver = .hunting := here
      simp only [here]
      rfl
    | receiving bytes idle =>
      cases bytes with
      | nil =>
        have here : (s.elapse dt).receiver = .receiving [] idle := here
        simp only [here]
        rfl
      | cons b bytes => exact absurd ⟨b, bytes, idle, here⟩ none
  · show Host.Outcome.next _ = _
    rw [hunting]
  · show Host.Outcome.next _ = _
    rw [empty]
    rfl
  · show Host.Outcome.next _ = _
    rw [receiving]
    rfl

/-! ### A complete frame (R168 to R170) -/

/-- The bytes of a frame whose LEN is right. -/
structure WholeFrame (bytes : List Byte) (lo hi tag code crcLow crcHigh : Byte) (payload : List Byte) : Prop where
  spelt : bytes = lo :: hi :: tag :: code :: payload ++ [crcLow] ++ [crcHigh]
  length : le2 lo hi = payload.length + 2
  fits : payload.length ≤ 1020

section
variable {bytes : List Byte} {lo hi tag code crcLow crcHigh : Byte} {payload : List Byte}
  (whole : WholeFrame bytes lo hi tag code crcLow crcHigh payload)

include whole

theorem WholeFrame.frameLength : frameLength bytes = payload.length + 2 := by
  rw [whole.spelt, ← whole.length]
  exact frameLength_cons lo hi _

theorem WholeFrame.badLength : badLength bytes = false := by
  rw [whole.spelt]
  refine (badLength_cons_eq_false lo hi _).2 ?_
  rw [whole.length]
  exact ⟨by omega, by have := whole.fits; omega⟩

theorem WholeFrame.frameDone : frameDone bytes = true := by
  rw [whole.spelt]
  refine (frameDone_cons lo hi _).2 ?_
  rw [whole.length]
  simp

/-- What the CRC is computed over, and the CRC that came (R168). -/
theorem WholeFrame.crcGood : crcGood bytes = true ↔ le2 crcLow crcHigh = (crc (lo :: hi :: tag :: code :: payload)).toNat := by
  have front : bytes.take (payload.length + 2 + 2) = lo :: hi :: tag :: code :: payload := by
    rw [whole.spelt, List.append_assoc]
    exact List.take_left' (by simp)
  have last : field bytes (payload.length + 2 + 2) 2 = le2 crcLow crcHigh := by
    rw [whole.spelt, List.append_assoc, field_beyond _ _ _ _ (by simp)]
    simp only [List.length_cons, Nat.sub_self]
    exact field_cons_two crcLow crcHigh []
  rw [Machine.crcGood, decide_eq_true_iff, whole.frameLength, front, last]

theorem WholeFrame.requestOf : requestOf bytes = ⟨tag, code, payload⟩ := by
  have payload' : (bytes.drop 4).take payload.length = payload := by
    rw [whole.spelt, List.append_assoc]
    exact List.take_left' rfl
  have tag' : byte (field bytes 2 1) = tag := by
    rw [whole.spelt]
    simp [byte]
  have code' : byte (field bytes 3 1) = code := by
    rw [whole.spelt]
    simp [byte]
  rw [Machine.requestOf, whole.frameLength, Nat.add_sub_cancel, payload', tag', code']

end

/-- Settles O7: a complete frame by its CRC and the free buffers. -/
theorem completeFrameIsJudged : Obligations.CompleteFrameIsJudged := by
  intro s dt ch c lo hi tag code crcLow payload idleFrom row even stop length fits receiving sum after
  have whole : WholeFrame (lo :: hi :: tag :: code :: payload ++ [crcLow] ++ [ch.data]) lo hi tag code crcLow ch.data payload :=
    ⟨rfl, length, fits⟩
  have judged : exec c s = .next ((s.elapse dt).judgeFrame (lo :: hi :: tag :: code :: payload ++ [crcLow] ++ [ch.data])) :=
    (exec_byte row s).trans (congrArg Host.Outcome.next (receive_completes (s := s.elapse dt) receiving ((charGood_iff ch).2 ⟨even, stop⟩)
      whole.badLength whole.frameDone))
  rw [judged, State.judgeFrame, whole.requestOf]
  refine ⟨fun right free => ?_, fun right full => ?_, fun wrong => ?_⟩
  · rw [if_pos (whole.crcGood.2 right)]
    exact congrArg Host.Outcome.next (if_pos free)
  · rw [if_pos (whole.crcGood.2 right)]
    exact congrArg Host.Outcome.next (if_neg (Nat.not_lt.2 full))
  · rw [if_neg (mt whole.crcGood.1 wrong)]
    rfl

/-! ### A whole frame, byte by byte (R167, R168, R170) -/

theorem runAll_cons {c : Instr} {s t : State} (ran : exec c s = .next t) (rest : List Instr) :
    runAll (c :: rest) s = runAll rest t := by
  rw [runAll, ran]

theorem runAll_append {s t : State} {front : List Instr} (ran : runAll front s = .next t) (rest : List Instr) :
    runAll (front ++ rest) s = runAll rest t := by
  induction front generalizing s with
  | nil =>
    cases ran
    rfl
  | cons c front ih =>
    obtain ⟨u, first⟩ := exec_next c s
    rw [runAll_cons first] at ran
    rw [List.cons_append, runAll_cons first]
    exact ih ran

/-- The bytes so far spell no wrong LEN and no complete frame. -/
def Unfinished (bytes : List Byte) : Prop := badLength bytes = false ∧ frameDone bytes = false

/-- Bytes without error join a frame as long as it is unfinished. -/
theorem runAll_bytes (dt : Nat) (bs : List Byte) : ∀ {s : State} {front : List Byte} {idleFrom : Nat},
    s.receiver = .receiving front idleFrom → (∀ n, Unfinished (front ++ bs.take n)) →
    ∃ idle, runAll (bs.map fun b => .byteArrivesReceiving dt (charOf b)) s =
      .next { s with clock := s.clock + dt * bs.length, receiver := .receiving (front ++ bs) idle } := by
  induction bs with
  | nil =>
    intro s front idleFrom receiving _
    refine ⟨idleFrom, congrArg Host.Outcome.next ?_⟩
    rw [List.append_nil, ← receiving]
    rfl
  | cons b bs ih =>
    intro s front idleFrom receiving unfinished
    obtain ⟨right, more⟩ := unfinished 1
    have joined : exec (.byteArrivesReceiving dt (charOf b)) s = .next
        { s.elapse dt with receiver := .receiving (front ++ [b]) (s.clock + dt) } :=
      congrArg Host.Outcome.next
        (receive_grows (s := s.elapse dt) receiving (charGood_charOf b) right more)
    obtain ⟨idle, rest⟩ := ih (s := { s.elapse dt with receiver := .receiving (front ++ [b]) (s.clock + dt) }) rfl
      fun n => by
        rw [List.append_assoc]
        exact unfinished (n + 1)
    refine ⟨idle, ?_⟩
    rw [List.map_cons, runAll_cons joined]
    refine rest.trans ?_
    rw [List.append_assoc, List.length_cons, Nat.mul_add, Nat.mul_one, Nat.add_comm (dt * _), ← Nat.add_assoc]
    rfl

theorem leBytes_two (v : Nat) : leBytes 2 v = [BitVec.ofNat 8 v, BitVec.ofNat 8 (v / 256)] := rfl

theorem le2_leBytes {v : Nat} (fits : v < 65536) : le2 (BitVec.ofNat 8 v) (BitVec.ofNat 8 (v / 256)) = v := by
  simp only [le2, BitVec.toNat_ofNat]
  omega

/-- A frame but for its last byte is unfinished, however many of its bytes have come. -/
theorem unfinished_take {lo hi : Byte} {rest : List Byte} (low : 2 ≤ le2 lo hi) (high : le2 lo hi ≤ 1022)
    (missing : rest.length + 2 < le2 lo hi + 4) (n : Nat) : Unfinished ((lo :: hi :: rest).take n) := by
  match n with
  | 0 => exact ⟨rfl, rfl⟩
  | 1 => exact ⟨rfl, rfl⟩
  | n + 2 =>
    refine ⟨(badLength_cons_eq_false lo hi _).2 ⟨low, high⟩, (frameDone_cons_eq_false lo hi _).2 ?_⟩
    rw [List.length_take]
    omega

/-- Settles O58: a break, the bytes that join the frame, and the last one, which completes it. -/
theorem frameIsHeld : Obligations.FrameIsHeld := by
  intro s dt bits q fits long _ free hunting
  let head : List Byte := leBytes 2 (q.payload.length + 2) ++ [q.tag, q.code] ++ q.payload
  let front : List Byte := head ++ [BitVec.ofNat 8 (crc head).toNat]
  let last : Byte := BitVec.ofNat 8 ((crc head).toNat / 256)
  have frame : q.frame = front ++ [last] := by
    rw [List.append_assoc]
    rfl
  have size : front.length = q.payload.length + 5 := by
    simp [front, head]
    omega
  have length : le2 (BitVec.ofNat 8 (q.payload.length + 2)) (BitVec.ofNat 8 ((q.payload.length + 2) / 256)) =
      q.payload.length + 2 := le2_leBytes (by omega)
  have broken : exec (.lineBreak dt bits) s = .next { s.elapse dt with receiver := .receiving [] (s.clock + dt) } := by
    have here : (s.elapse dt).receiver = .hunting := hunting
    refine congrArg Host.Outcome.next ((if_pos long).trans ?_)
    simp only [State.receiveBreak, here]
    rfl
  obtain ⟨idle, joined⟩ := runAll_bytes dt front (s := { s.elapse dt with receiver := .receiving [] (s.clock + dt) }) rfl
    fun n => unfinished_take (by rw [length]; omega) (by rw [length]; omega) (by rw [length]; simp) n
  rw [runAll_cons broken, frame, List.map_append, List.map_cons, List.map_nil]
  refine (runAll_append joined _).trans ?_
  have judged := completeFrameIsJudged
    { s with clock := s.clock + dt + dt * front.length, receiver := .receiving ([] ++ front) idle } dt (charOf last) _
    _ _ q.tag q.code _ q.payload idle (.inr (.inl rfl))
    ((charGood_iff _).1 (charGood_charOf last)).1 rfl length fits rfl
  refine (runAll_cons (judged.1 ?_ free) []).trans ?_
  · exact le2_leBytes (crc head).isLt
  · refine congrArg Host.Outcome.next ?_
    have clock : s.clock + dt + dt * front.length + dt = s.clock + dt * (q.payload.length + 7) := by
      rw [size]
      ring
    rw [← clock]

end Sys2Proof.Machine

/-! SUPPORT. Responses and the taking of requests (R166, R168, R170 to R173, R179). -/

namespace Sys2Proof.Machine

/-! ### The rule of each request -/

theorem ServedBy.imp {c : Instr} {name : RequestName} {dt : Nat} {P Q : State → State → Prop} (h : ServedBy c name dt P)
    (weaker : ∀ s t, P s t → Q s t) : ServedBy c name dt Q := by
  obtain ⟨α, rule, served, acts⟩ := h
  exact ⟨α, rule, served, fun s payload a accepted => weaker _ _ (acts s payload a accepted)⟩

/-- RESTART keeps the request it takes at its place (R179). -/
theorem firstHeld_dropOtherHeld (bs : List Buffer) : firstHeld (dropOtherHeld bs) = firstHeld bs := by
  induction bs with
  | nil => rfl
  | cons b bs ih => cases b <;> simp [dropOtherHeld, firstHeld, ih]

theorem any_isTaken_filter_isHeld (bs : List Buffer) : (bs.filter fun b => !isHeld b).any isTaken = bs.any isTaken := by
  induction bs with
  | nil => rfl
  | cons b bs ih =>
    cases b with
    | held r => exact ih
    | taken r => rfl
    | sending r => exact ih

theorem any_isTaken_dropOtherHeld (bs : List Buffer) : (dropOtherHeld bs).any isTaken = bs.any isTaken := by
  induction bs with
  | nil => rfl
  | cons b bs ih =>
    cases b with
    | held r => rw [dropOtherHeld, List.any_cons, List.any_cons, any_isTaken_filter_isHeld]
    | taken r => simp [dropOtherHeld, isTaken]
    | sending r => rw [dropOtherHeld, List.any_cons, List.any_cons, ih]

theorem takeable_dropOtherHeld (bs : List Buffer) : takeable (dropOtherHeld bs) = takeable bs := by
  rw [takeable, takeable, any_isTaken_dropOtherHeld, firstHeld_dropOtherHeld]

/-- What every request's action leaves of the buffers. -/
theorem servedBy_buffers {c : Instr} {name : RequestName} {dt : Nat} (takes : takenRequest c = some (name, dt)) :
    ServedBy c name dt fun s t =>
      takeable t.buffers = takeable s.buffers ∧ (name ≠ .restart → t.buffers = s.buffers) := by
  by_cases restarts : name = .restart
  · subst restarts
    cases c <;> cases takes
    case pos.restart =>
      refine (servedBy_restart dt).imp fun s t restarted => ⟨?_, fun other => absurd rfl other⟩
      rw [restarted]
      exact takeable_dropOtherHeld s.buffers
  · exact (servedBy_acted takes restarts).imp fun s t acted =>
      ⟨congrArg takeable acted.buffers, fun _ => acted.buffers⟩

/-- Settles O10: a refusal answers its status alone, and an acceptance answers OK. -/
theorem refusedRequestChangesNothing : Obligations.RefusedRequestChangesNothing := by
  intro s c name dt tag payload takes offered
  obtain ⟨α, rule, served, acts⟩ := servedBy_buffers takes
  cases checked : rule.check payload (s.elapse dt) with
  | error status =>
    have answered := offered.answers_error (served s) checked
    by_cases ok : status = .ok
    · exact .inr ⟨s.elapse dt, [], rfl, fun _ => rfl, ok ▸ answered⟩
    · exact .inl ⟨status, ok, answered⟩
  | ok a =>
    obtain ⟨kept, same⟩ := acts _ payload a checked
    exact .inr ⟨_, _, kept, same, offered.answers_ok (served s) checked⟩

/-! ### Codes (R173) -/

/-- The CODE of each request (10.7). -/
def RequestName.code : RequestName → Nat
  | .status => 0x01 | .identify => 0x02 | .attnAck => 0x03 | .attnMask => 0x04 | .restart => 0x05
  | .passCreate => 0x10 | .passLookup => 0x11 | .passList => 0x12 | .passBind => 0x13 | .passAmend => 0x14
  | .passAbort => 0x15 | .passRetire => 0x16 | .passHold => 0x17 | .passResume => 0x18 | .tripClear => 0x19
  | .itemRegister => 0x20 | .itemLookup => 0x21 | .itemList => 0x22 | .itemMount => 0x23 | .itemDismount => 0x24
  | .itemAdjust => 0x25 | .itemRetire => 0x26 | .headWrite => 0x30 | .headRead => 0x31
  | .blendWrite => 0x38 | .feedWrite => 0x39 | .phaseWrite => 0x3A | .phaseLoad => 0x3B | .slurryRead => 0x3C
  | .profileWrite => 0x40 | .platenWrite => 0x41 | .conditioningRead => 0x42
  | .carouselIndex => 0x48 | .carouselSync => 0x49 | .settingsSave => 0x58

theorem ofCode_code (name : RequestName) : RequestName.ofCode name.code = some name := by
  cases name <;> rfl

theorem code_of_ofCode {code : Nat} {name : RequestName} (named : RequestName.ofCode code = some name) : code = name.code := by
  unfold RequestName.ofCode at named
  split at named <;> cases named <;> rfl

theorem ofCode_iff (code : Nat) (name : RequestName) : RequestName.ofCode code = some name ↔ code = name.code :=
  ⟨code_of_ofCode, fun same => same ▸ ofCode_code name⟩

/-- Settles O9: the codes, and the requests that are answered without their rule. -/
theorem unknownNotReadyOrNone : Obligations.UnknownNotReadyOrNone := by
  refine ⟨fun code name => (ofCode_iff code name).trans ?_, fun _ _ => rfl, fun s dt q taken unknown => ?_,
    fun s c name dt q takes taken named loading => ?_, fun s c name dt takes none => ?_⟩
  · cases name <;> exact Iff.rfl
  · refine congrArg Host.Outcome.next ?_
    have taken : takeable (s.elapse dt).buffers = some q := taken
    rw [State.serveUnknown, taken]
    exact if_pos unknown
  · obtain ⟨_, rule, served, _⟩ := servedBy_buffers takes
    exact (served s).trans (congrArg Host.Outcome.next (serve_loading (s := s.elapse dt) taken named loading))
  · obtain ⟨_, rule, served, _⟩ := servedBy_buffers takes
    refine (served s).trans (congrArg Host.Outcome.next ?_)
    cases taken : takeable s.buffers with
    | none => exact serve_none (s := s.elapse dt) taken
    | some q => exact serve_other (s := s.elapse dt) taken (none q taken)

/-! ### RESTART (R179) -/

/-- Settles O13: RESTART by the buffers it finds. -/
theorem restartResetsTheLink : Obligations.RestartResetsTheLink := by
  intro s dt tag payload offered
  refine ⟨fun nonempty => offered.answers_error (rule := restartRule) rfl (emptyPayload_length nonempty _), ?_⟩
  rintro rfl
  have answered : Answers (.restart dt) s (s.elapse dt).restartLink tag .ok [] :=
    offered.answers_ok (rule := restartRule) (a := ()) rfl rfl
  have left (bs : List Buffer) (here : s.buffers = bs) : exec (.restart dt) s = .next
      { s.elapse dt with
        corrupt := false, overrun := false, attnPending := 0#9, attnMask := 0x1FF#9
        buffers := answer ⟨tag, .ok, []⟩ ((dropOtherHeld bs).any isSending) (dropOtherHeld bs) } := by
    rw [← here]
    exact answered
  exact ⟨fun q here => left _ here, fun q q' here => left _ here, fun r q here => left _ here⟩

/-! ### The frame on the line (R166, R168, R172) -/

theorem sendingResponse_eq_head? (bs : List Buffer) :
    (bs.filter isSending).head? = (sendingResponse bs).map Buffer.sending := by
  induction bs with
  | nil => rfl
  | cons b bs ih => cases b <;> simp [sendingResponse, isSending, ih]

theorem sendingResponse_eq_some {bs : List Buffer} {r : Response} (one : bs.filter isSending = [.sending r]) :
    sendingResponse bs = some r := by
  have first := sendingResponse_eq_head? bs
  rw [one] at first
  cases here : sendingResponse bs with
  | none => simp [here] at first
  | some q =>
    simp only [here, List.head?_cons, Option.map_some, Option.some.injEq, Buffer.sending.injEq] at first
    rw [first]

theorem sendingResponse_eq_none {bs : List Buffer} (idle : bs.filter isSending = []) : sendingResponse bs = none := by
  have first := sendingResponse_eq_head? bs
  rw [idle] at first
  cases here : sendingResponse bs with
  | none => rfl
  | some q => simp [here] at first

theorem length_charBits (b : Byte) : (charBits b).length = 11 := rfl

/-- The character at a place of the flattened frame. -/
theorem take_flatten_charBits {f : List Byte} {n : Nat} {b : Byte} (here : f[n]? = some b) :
    (((f.map charBits).flatten).drop (11 * n)).take 11 = charBits b := by
  induction f generalizing n with
  | nil => cases here
  | cons x f ih =>
    rw [List.map_cons, List.flatten_cons]
    cases n with
    | zero =>
      cases here
      exact List.take_left' (length_charBits _)
    | succ n =>
      rw [Nat.mul_succ, Nat.add_comm, ← List.drop_drop, List.drop_left' (length_charBits _)]
      exact ih here

/-- The parity bit makes the count of ones of a character even (R166). -/
theorem count_charBits (b : Byte) : (((charBits b).drop 1).take 9).count true % 2 = 0 := by
  have listed : ((charBits b).drop 1).take 9 =
      [b.getLsbD 0, b.getLsbD 1, b.getLsbD 2, b.getLsbD 3, b.getLsbD 4, b.getLsbD 5, b.getLsbD 6, b.getLsbD 7, oddOnes b] := rfl
  rw [listed, oddOnes]
  generalize b.getLsbD 0 = b0, b.getLsbD 1 = b1, b.getLsbD 2 = b2, b.getLsbD 3 = b3, b.getLsbD 4 = b4, b.getLsbD 5 = b5,
    b.getLsbD 6 = b6, b.getLsbD 7 = b7
  revert b0 b1 b2 b3 b4 b5 b6 b7
  decide

theorem getElem?_charBits (b : Byte) : ∀ i, i < 8 → (charBits b)[i + 1]? = some (b.getLsbD i)
  | 0, _ | 1, _ | 2, _ | 3, _ | 4, _ | 5, _ | 6, _ | 7, _ => rfl
  | i + 8, h => by omega

theorem Response.length_lineBits (r : Response) : r.lineBits.length = 18 + 11 * r.frame.length := by
  have chars : ∀ f : List Byte, ((f.map charBits).flatten).length = 11 * f.length := by
    intro f
    induction f with
    | nil => rfl
    | cons b f ih =>
      rw [List.map_cons, List.flatten_cons, List.length_append, ih, length_charBits, List.length_cons]
      omega
  rw [Response.lineBits, List.length_append, chars]
  rfl

theorem Response.drop_lineBits (r : Response) (n : Nat) :
    (r.lineBits.drop (18 + n)) = ((r.frame.map charBits).flatten).drop n := by
  rw [Response.lineBits, ← List.drop_drop]
  exact congrArg (List.drop n) (List.drop_left' rfl)

/-- What stands before the CRC of a response frame. -/
def Response.head (r : Response) : List Byte := leBytes 2 (r.payload.length + 2) ++ [r.tag, byte r.status.code] ++ r.payload

theorem Response.frame_eq (r : Response) : r.frame = r.head ++ leBytes 2 (crc r.head).toNat := rfl

theorem Response.length_head (r : Response) : r.head.length = r.payload.length + 4 := by
  simp [Response.head]
  omega

theorem Response.length_frame (r : Response) : r.frame.length = r.payload.length + 6 := by
  rw [r.frame_eq, List.length_append, r.length_head, length_leBytes]

theorem Response.field_length (r : Response) (fits : r.payload.length ≤ 1020) : field r.frame 0 2 = r.payload.length + 2 := by
  rw [r.frame_eq, Response.head, List.append_assoc, List.append_assoc, field_leBytes]
  exact Nat.mod_eq_of_lt (by omega)

theorem Response.field_status (r : Response) : field r.frame 3 1 = r.status.code := by
  have spelt : field r.frame 3 1 = (byte r.status.code).toNat := by
    rw [r.frame_eq, Response.head, leBytes_two]
    simp
  rw [spelt]
  cases r.status <;> rfl

theorem Response.field_crc (r : Response) :
    field r.frame (r.payload.length + 4) 2 = (crc (r.frame.take (r.payload.length + 4))).toNat := by
  have front : r.frame.take (r.payload.length + 4) = r.head := List.take_left' r.length_head
  rw [front, r.frame_eq, field_beyond _ _ _ _ r.length_head.le, r.length_head, Nat.sub_self, field_leBytes_last]
  exact Nat.mod_eq_of_lt (crc r.head).isLt

/-- The check value of the CRC (R168). -/
theorem crc_digits :
    crc [0x31#8, 0x32#8, 0x33#8, 0x34#8, 0x35#8, 0x36#8, 0x37#8, 0x38#8, 0x39#8] = 0x29B1#16 := by decide +kernel

/-! ### Buffers that hold requests alone -/

theorem idle_of_held {bs : List Buffer} (held : ∀ b ∈ bs, ∃ h, b = .held h) : bs.any isSending = false := by
  refine List.any_eq_false.2 fun b m => ?_
  obtain ⟨h, rfl⟩ := held b m
  simp [isSending]

theorem startResponse_of_held {bs : List Buffer} (held : ∀ b ∈ bs, ∃ h, b = .held h) : startResponse bs = bs := by
  induction bs with
  | nil => rfl
  | cons b bs ih =>
    obtain ⟨h, rfl⟩ := held b List.mem_cons_self
    rw [startResponse, ih fun x m => held x (List.mem_cons_of_mem _ m)]

/-- Settles O8: the buffers case by case, and the frame of the response on the line byte by byte and bit by bit. -/
theorem responsesLeaveInOrder : Obligations.ResponsesLeaveInOrder := by
  refine ⟨fun s dt r ready q q' => ⟨fun here => ?_, fun here => ?_, fun here => ?_, fun here => ?_, fun here => ?_,
    fun here => ⟨?_, ?_⟩, fun here => ?_, fun here => ?_, fun held => ⟨?_, ?_⟩⟩, fun s r => ⟨fun one => ?_, fun none => ?_⟩,
    fun r fits => ?_, crc_digits⟩
  · rw [State.respond, here]
    rfl
  · rw [State.respond, here]
    rfl
  · rw [State.respond, here]
    rfl
  · show Host.Outcome.next { s.elapse dt with buffers := nextResponse s.buffers } = _
    rw [here]
    rfl
  · show Host.Outcome.next { s.elapse dt with buffers := nextResponse s.buffers } = _
    rw [here]
    rfl
  · show Host.Outcome.next { s.elapse dt with buffers := nextResponse s.buffers } = _
    rw [here]
    rfl
  · exact congrArg Host.Outcome.next (if_pos (by rw [here]; rfl))
  · refine congrArg Host.Outcome.next ((if_neg (by rw [here]; simp [isSending])).trans ?_)
    rw [here]
    rfl
  · refine congrArg Host.Outcome.next ((if_neg (by rw [here]; simp [isSending])).trans ?_)
    rw [here]
    rfl
  · exact congrArg Host.Outcome.next ((if_neg (by simp [idle_of_held held])).trans
      (by rw [startResponse_of_held held]; rfl))
  · have quiet : nextResponse s.buffers = s.buffers := if_neg (by simp [idle_of_held held])
    show Host.Outcome.next { s.elapse dt with buffers := nextResponse s.buffers } = _
    rw [quiet]
    rfl
  · rw [State.ltxFrame, State.ltxBits, sendingResponse_eq_some one]
    exact ⟨rfl, rfl⟩
  · rw [State.ltxFrame, State.ltxBits, sendingResponse_eq_none none]
    exact ⟨rfl, rfl⟩
  · refine ⟨r.length_frame, r.field_length fits, rfl, r.field_status.trans ?_, List.take_left' rfl, r.field_crc,
      r.length_lineBits, rfl, fun n b here => ?_⟩
    · cases r.status <;> rfl
    · have char : (r.lineBits.drop (18 + 11 * n)).take 11 = charBits b := by
        rw [r.drop_lineBits]
        exact take_flatten_charBits here
      dsimp only
      rw [char]
      exact ⟨rfl, getElem?_charBits b, count_charBits b, rfl⟩

end Sys2Proof.Machine

/-! SUPPORT. Valve periods and pulses (R68, R75 to R79), the falling edges and the output lines. -/

namespace Sys2Proof.Machine

/-! ### The output lines (R115, R128, R142) -/

theorem armProfile_eq {s : State} {p : Platen} {q : Fin 4}
    (serves : (s.arms.get p).service = .inSitu q ∨ (s.arms.get p).service = .exSitu q) : s.armProfile p = s.profile q := by
  unfold State.armProfile
  rcases serves with e | e <;> rw [e] <;> rfl

/-- The segments of a sweep in either direction (R127). -/
theorem sweepSegment_eq (pr : Profile) (d : Direction) (i : Nat) :
    sweepSegment pr d i = match d with | .outward => pr[i]? | .inward => pr.reverse[i]? := by
  cases d with
  | outward => rfl
  | inward =>
    unfold sweepSegment
    dsimp only
    split
    · next inside => rw [List.getElem?_reverse inside]
    · next beyond => rw [List.getElem?_eq_none (by simpa using beyond)]

/-- Settles O28: what each falling edge writes, and each line by the field it follows. -/
theorem fallingEdgesAndOutputLines : Obligations.FallingEdgesAndOutputLines := by
  refine ⟨fun _ _ _ _ => ⟨rfl, rfl, rfl, rfl⟩, fun s h c f p => ⟨rfl, rfl, rfl, ?_, rfl, fun parked => ?_, fun moving => ?_⟩⟩
  · unfold State.diverterLines
    cases (s.feeds.get f).diverter <;> rfl
  · exact ⟨by rw [State.parkLine, parked]; rfl, if_neg (by simp [parked])⟩
  · refine ⟨by rw [State.parkLine, moving]; rfl, ?_, fun q g serves segment => ?_⟩
    · rw [State.directionLine, if_pos moving, decide_eq_true_iff]
    · have here : sweepSegment (s.armProfile p) (s.arms.get p).direction (s.arms.get p).segment = some g := by
        rw [armProfile_eq serves, sweepSegment_eq]
        exact segment
      rw [State.forceLine, if_pos moving, here]

/-! ### A valve period (R77, R78) -/

/-- A period start rewrites its channel and the clock. -/
theorem exec_valvePeriodStart (s : State) (h : Head) (c : Chan) : exec (.valvePeriodStart h c) s = .next
    { s with
      clock := max s.clock (s.channel h c).nextPeriod
      channels := s.channels.set h ((s.channels.get h).set c
        ((s.channel h c).startPeriod (max s.clock (s.channel h c).nextPeriod) (s.headSettings.get h).drive)) } := rfl

/-- A channel whose next period is a period later (R77). -/
def Channel.nextUp (x : Channel) : Channel := { x with nextPeriod := x.nextPeriod + 20000 }

theorem startPeriod_vent {x : Channel} (vent : x.mode = .vent) (now : Nat) (d : DriveSettings) :
    x.startPeriod now d = x.nextUp := by
  unfold Channel.startPeriod
  split
  · rfl
  · next drive => cases vent.symm.trans drive

section
variable {x : Channel} (quiet : x.pulse = none)

include quiet

theorem startPeriod_drive (drive : x.mode = .drive) (now : Nat) (d : DriveSettings) :
    x.startPeriod now d = match x.decision d with
      | some (kind, width) => x.nextUp.placePulse now d.deadTime kind width
      | none => x.nextUp := by
  have ready : { x.nextUp.endPulse now with pulse := none } = x.nextUp := by
    have still : x.nextUp.endPulse now = x.nextUp := by simp only [Channel.endPulse, Channel.nextUp, quiet]
    rw [still, ← quiet]
    rfl
  unfold Channel.startPeriod
  split
  · next vent => cases vent.symm.trans drive
  · exact congrArg (fun r : Channel => match r.decision d with
      | some (kind, width) => r.placePulse now d.deadTime kind width
      | none => r) ready

theorem startPeriod_undecided {d : DriveSettings} (drive : x.mode = .drive) (none' : x.decision d = none) (now : Nat) :
    x.startPeriod now d = x.nextUp := by
  rw [startPeriod_drive quiet drive, none']

theorem startPeriod_decided {d : DriveSettings} {kind : ValveKind} {width : Nat} (drive : x.mode = .drive)
    (decided : x.decision d = some (kind, width)) (now : Nat) :
    x.startPeriod now d = x.nextUp.placePulse now d.deadTime kind width := by
  rw [startPeriod_drive quiet drive, decided]

/-- A pulse with no time left before the period end is dropped (R78). -/
theorem placePulse_dropped {now deadTime : Nat} {kind : ValveKind} {width : Nat}
    (late : x.nextPeriod ≤ max now ((x.valve kind.other).restedFrom deadTime)) :
    x.placePulse now deadTime kind width = x := by
  rw [Channel.placePulse, if_pos late, ← quiet]

end

/-- A pulse that is placed in the period (R78). -/
def Channel.placed (x : Channel) (kind : ValveKind) (width start : Nat) : Channel :=
  { x with pulse := some ⟨kind, width, start, min (start + width) x.nextPeriod⟩ }

theorem setValve_placed_fill {x : Channel} {kind : ValveKind} {width start : Nat} (fill : kind = .fill) :
    (x.placed kind width start).setValve kind (x.valve kind).opened =
      { x.placed kind width start with fill := { x.fill with isOpen := true } } := by
  subst fill
  rfl

theorem setValve_placed_vent {x : Channel} {kind : ValveKind} {width start : Nat} (vent : kind = .vent) :
    (x.placed kind width start).setValve kind (x.valve kind).opened =
      { x.placed kind width start with vent := { x.vent with isOpen := true } } := by
  subst vent
  rfl

section
variable {x : Channel} {now deadTime start : Nat} {kind : ValveKind} {width : Nat}
  (at' : max now ((x.valve kind.other).restedFrom deadTime) = start) (inTime : start < x.nextPeriod)

include at' inTime

theorem placePulse_waits (later : now < start) :
    x.placePulse now deadTime kind width = x.placed kind width start := by
  rw [Channel.placePulse, at', if_neg (Nat.not_le.2 inTime)]
  exact if_neg (Nat.not_le.2 later)

theorem placePulse_begins (here : start = now) :
    x.placePulse now deadTime kind width = (x.placed kind width start).setValve kind (x.valve kind).opened := by
  rw [Channel.placePulse, at', if_neg (Nat.not_le.2 inTime)]
  exact if_pos here.le

end

/-- No pulse is decided in sensor fault, without a good pressure or without a setpoint (R77). -/
theorem decision_blind {x : Channel} (d : DriveSettings) (blind : x.fault = true ∨ x.latest = none ∨ x.setpoint = none) :
    x.decision d = none := by
  unfold Channel.decision
  split
  · rename_i fault latest setpoint
    simp [fault, latest, setpoint] at blind
  · rfl

section
variable {x : Channel} {d : DriveSettings} {pressure setpoint : Nat} (sound : x.fault = false)
  (latest : x.latest = some pressure) (aim : x.setpoint = some setpoint)

include sound latest aim

theorem decision_eq : x.decision d =
    if ((setpoint : Int) - pressure).natAbs ≤ d.deadband ∨
        min (((setpoint : Int) - pressure).natAbs * d.kp) d.pulseMax = 0 then none
    else some (if pressure < setpoint then .fill else .vent, min (((setpoint : Int) - pressure).natAbs * d.kp) d.pulseMax) := by
  have error : max setpoint pressure - min setpoint pressure = ((setpoint : Int) - pressure).natAbs := by omega
  rw [← error]
  simp only [Channel.decision, sound, latest, aim]

end

/-- When the pulse may begin: the dead time after the opposite valve closed (R78). -/
theorem max_restedFrom (now deadTime : Nat) (v : Valve) :
    max now (v.restedFrom deadTime) = match v.lastClosed with | some m => max now (m + deadTime) | none => now := by
  unfold Valve.restedFrom
  cases v.lastClosed <;> simp

/-- Settles O36: a period start by the mode, the decision and the moment the pulse may begin. -/
theorem valvePeriodStarts : Obligations.ValvePeriodStarts := by
  intro s h c x d now next at'
  have ran (y : Channel) (is : x.startPeriod now d = y) : exec (.valvePeriodStart h c) s = .next (at' y) := by
    rw [exec_valvePeriodStart]
    exact congrArg (fun z => Host.Outcome.next (at' z)) is
  refine ⟨fun vent => ran _ (startPeriod_vent vent now d), fun drive quiet fillShut ventShut => ⟨fun blind => ?_, ?_⟩⟩
  · exact ran _ (startPeriod_undecided quiet drive (decision_blind d blind) now)
  · intro sound pressure setpoint latest aim error width
    have decision : x.decision d = if error.natAbs ≤ d.deadband ∨ width = 0 then none
        else some (if pressure < setpoint then .fill else .vent, width) := decision_eq sound latest aim
    refine ⟨fun small => ?_, fun large wide => ?_⟩
    · exact ran _ (startPeriod_undecided quiet drive (decision.trans (if_pos small)) now)
    · intro opposite kind start
      have kinds : (if pressure < setpoint then ValveKind.fill else .vent) = kind := by
        by_cases up : pressure < setpoint
        · exact (if_pos up).trans (if_pos (by omega)).symm
        · exact (if_neg up).trans (if_neg (by omega)).symm
      have decided : x.decision d = some (kind, width) := by
        rw [decision, if_neg (by omega), kinds]
      have facing : next.valve kind.other = opposite := by
        by_cases up : 0 < error
        · simp only [kind, opposite, if_pos up]
          rfl
        · simp only [kind, opposite, if_neg up]
          rfl
      have at'' : max now ((next.valve kind.other).restedFrom d.deadTime) = start :=
        (congrArg (fun v : Valve => max now (v.restedFrom d.deadTime)) facing).trans (max_restedFrom now d.deadTime opposite)
      have placing := startPeriod_decided quiet drive decided now
      refine ⟨fun late => ?_, fun inTime => ?_⟩
      · exact ran _ (placing.trans (placePulse_dropped (x := next) quiet (at''.symm ▸ late)))
      · intro placed
        have begins (here : start = now) := placing.trans (placePulse_begins (x := next) at'' inTime here)
        refine ⟨fun later => ?_, fun here up => ?_, fun here down => ?_⟩
        · exact ran _ (placing.trans (placePulse_waits (x := next) at'' inTime later))
        · exact ran _ ((begins here).trans (setValve_placed_fill (if_pos up)))
        · exact ran _ ((begins here).trans (setValve_placed_vent (if_neg (by omega))))

/-! ### Pulses that begin and end, and the vent valve of a VENT channel (R75, R78, R79) -/

section
variable {x : Channel} {q : Pulse} (under : x.pulse = some q)

include under

theorem waitingPulse_eq : x.waitingPulse = if (x.valve q.valve).isOpen then none else some q := by
  simp only [Channel.waitingPulse, under]

theorem runningPulse_eq : x.runningPulse = if (x.valve q.valve).isOpen then some q else none := by
  simp only [Channel.runningPulse, under]

theorem endPulse_eq {now : Nat} (opened : (x.valve q.valve).isOpen = true) :
    x.endPulse now = { x.setValve q.valve ⟨false, some now⟩ with pulse := none } := by
  simp only [Channel.endPulse, under, Valve.shut, opened, if_true]

end

section
variable (s : State) (h : Head) (c : Chan)

/-- A moment comes and a channel is rewritten. -/
def State.channelAt (moment : Nat) (y : Channel) : State := (s.runTo moment).setChannel h c y

theorem delayedPulseStart_idle (idle : (s.channel h c).waitingPulse = none) : exec (.delayedPulseStart h c) s = .next s := by
  show Host.Outcome.next _ = _
  rw [idle]

theorem delayedPulseStart_begins {q : Pulse} (waits : (s.channel h c).waitingPulse = some q) :
    exec (.delayedPulseStart h c) s = .next (s.channelAt h c q.start ((s.channel h c).beginPulse q)) := by
  show Host.Outcome.next _ = _
  rw [waits]
  rfl

theorem pulseEnd_idle (idle : (s.channel h c).runningPulse = none) : exec (.pulseEnd h c) s = .next s := by
  show Host.Outcome.next _ = _
  rw [idle]

theorem pulseEnd_ends {q : Pulse} (runs : (s.channel h c).runningPulse = some q) :
    exec (.pulseEnd h c) s =
      .next (s.channelAt h c q.stop ((s.channel h c).endPulse (max s.clock q.stop))) := by
  show Host.Outcome.next _ = _
  rw [runs]
  rfl

/-- The pulse of a channel, by its valve: it begins if the valve is closed, and ends if it is open. -/
theorem pulse_commands {q : Pulse} (under : (s.channel h c).pulse = some q) :
    (((s.channel h c).valve q.valve).isOpen = false →
      exec (.delayedPulseStart h c) s = .next (s.channelAt h c q.start ((s.channel h c).beginPulse q)) ∧
      exec (.pulseEnd h c) s = .next s) ∧
    (((s.channel h c).valve q.valve).isOpen = true →
      exec (.delayedPulseStart h c) s = .next s ∧
      exec (.pulseEnd h c) s = .next (s.channelAt h c q.stop
        { (s.channel h c).setValve q.valve ⟨false, some (max s.clock q.stop)⟩ with pulse := none })) := by
  refine ⟨fun shut => ⟨delayedPulseStart_begins s h c ?_, pulseEnd_idle s h c ?_⟩, fun opened =>
    ⟨delayedPulseStart_idle s h c ?_, ?_⟩⟩
  · rw [waitingPulse_eq under, shut]
    rfl
  · rw [runningPulse_eq under, shut]
    rfl
  · rw [waitingPulse_eq under, opened]
    rfl
  · rw [← endPulse_eq under opened]
    refine pulseEnd_ends s h c ?_
    rw [runningPulse_eq under, opened]
    rfl

end

/-- Settles O37: the pulse of a channel by its valve, and the vent valve by the mode. -/
theorem pulsesAndVentOpen : Obligations.PulsesAndVentOpen := by
  intro s h c x at'
  refine ⟨fun none => ⟨delayedPulseStart_idle s h c ?_, pulseEnd_idle s h c ?_⟩, fun q under => ?_, fun vent shut => ?_,
    fun other => ?_⟩
  · simp only [Channel.waitingPulse, show (s.channel h c).pulse = _ from none]
  · simp only [Channel.runningPulse, show (s.channel h c).pulse = _ from none]
  · have commands := pulse_commands s h c under
    refine ⟨fun fill => ?_, fun vent => ?_⟩
    · simp only [Channel.beginPulse, fill] at commands
      exact commands
    · simp only [Channel.beginPulse, vent] at commands
      exact commands
  · refine congrArg Host.Outcome.next ((if_pos ⟨vent, shut⟩).trans ?_)
    have rested : x.openVentIfRested (max s.clock (x.fill.restedFrom (s.headSettings.get h).drive.deadTime))
        (s.headSettings.get h).drive.deadTime = { x with vent := { x.vent with isOpen := true } } :=
      if_pos ⟨vent, shut, le_max_right _ _⟩
    exact congrArg (s.channelAt h c (x.fill.restedFrom (s.headSettings.get h).drive.deadTime)) rested
  · refine congrArg Host.Outcome.next (if_neg fun ⟨vent, shut⟩ => ?_)
    rcases other with drive | opened
    · cases vent.symm.trans drive
    · cases shut.symm.trans opened

end Sys2Proof.Machine

/-! SUPPORT. HEAD-WRITE (R84, R85): its bytes, its checks, and what it leaves of each channel (R78). -/

namespace Sys2Proof.Machine

/-! ### The bytes of a head's settings (R69, R84, R182) -/

theorem PerChan.all_toList_iff {α : Type} (t : PerChan α) (f : α → Bool) : t.toList.all f = true ↔ ∀ c, f (t.get c) = true := by
  have listed : t.toList = [t.get (.zone .z0), t.get (.zone .z1), t.get (.zone .z2), t.get (.zone .z3), t.get .rr] := rfl
  rw [listed, List.all_eq_true]
  constructor
  · intro all c
    refine all _ ?_
    cases c with
    | zone z => cases z <;> simp
    | rr => simp
  · intro all x m
    simp only [List.mem_cons, List.not_mem_nil, or_false] at m
    rcases m with rfl | rfl | rfl | rfl | rfl <;> exact all _

theorem HeadSettings.inRange_iff (x : HeadSettings) : x.inRange = true ↔
    x.drive.deadband ≤ 50 ∧ x.drive.kp ≤ 1000 ∧ 1000 ≤ x.drive.pulseMax ∧ x.drive.pulseMax ≤ 18000 ∧
      500 ≤ x.drive.deadTime ∧ x.drive.deadTime ≤ 5000 ∧
      ∀ c, (x.chans.get c).wmin ≤ (x.chans.get c).wmax ∧ (x.chans.get c).wmax ≤ 700 ∧ (x.chans.get c).span ≤ 2000 ∧
        (x.chans.get c).zero ≤ 200 := by
  have chan (c : ChannelSettings) :
      c.inRange = true ↔ c.wmin ≤ c.wmax ∧ c.wmax ≤ 700 ∧ c.span ≤ 2000 ∧ c.zero ≤ 200 := by
    simp only [ChannelSettings.inRange, within, Bool.and_eq_true, decide_eq_true_iff]
    omega
  simp only [HeadSettings.inRange, DriveSettings.inRange, within, Bool.and_eq_true, decide_eq_true_iff,
    PerChan.all_toList_iff, chan, Nat.zero_le, true_and, and_assoc]

/-- The bytes of a head's settings, wherever they stand. -/
theorem HeadSettings.storedAt_of_bytes {x : HeadSettings} (fits : x.fits) {bytes : List Byte} {o : Nat}
    (here : ∀ k n, k + n ≤ 42 → field bytes (o + k) n = field x.bytes k n) : x.storedAt bytes o := by
  obtain ⟨deadband, kp, pulseMax, deadTime, chans'⟩ := fits
  have drive (k n : Nat) (inside : k + n ≤ 7) : field bytes (o + k) n = field x.drive.bytes k n := by
    have length := x.drive.length_bytes
    rw [here k n (by omega), HeadSettings.bytes_eq, field_within _ _ _ _ (by omega)]
  obtain ⟨f0, f1, f3, f5⟩ := x.drive.field_bytes
  refine ⟨?_, ?_, ?_, ?_, fun i c order => ?_⟩
  · exact (drive 0 1 (by omega)).trans (f0.trans (Nat.mod_eq_of_lt deadband))
  · exact (drive 1 2 (by omega)).trans (f1.trans (Nat.mod_eq_of_lt kp))
  · exact (drive 3 2 (by omega)).trans (f3.trans (Nat.mod_eq_of_lt pulseMax))
  · exact (drive 5 2 (by omega)).trans (f5.trans (Nat.mod_eq_of_lt deadTime))
  · have few : i < 5 := (List.getElem?_eq_some_iff.1 order).1
    have chan (k n : Nat) (inside : k + n ≤ 7) (place : Nat) (at' : place = o + (7 + 7 * i + k)) :
        field bytes place n = field (x.chans.get c).bytes k n := by
      rw [at', here _ n (by omega), HeadSettings.bytes_eq]
      exact field_block_last ChannelSettings.length_bytes inside (PerChan.getElem?_toList x.chans order)
        x.drive.length_bytes rfl
    obtain ⟨wmin, wmax, span, zero⟩ := chans' c
    obtain ⟨g0, g2, g4, g6⟩ := (x.chans.get c).field_bytes
    refine ⟨?_, ?_, ?_, ?_⟩
    · exact (chan 0 2 (by omega) _ (by omega)).trans (g0.trans (Nat.mod_eq_of_lt wmin))
    · exact (chan 2 2 (by omega) _ (by omega)).trans (g2.trans (Nat.mod_eq_of_lt wmax))
    · exact (chan 4 2 (by omega) _ (by omega)).trans (g4.trans (Nat.mod_eq_of_lt span))
    · exact (chan 6 1 (by omega) _ (by omega)).trans (g6.trans (Nat.mod_eq_of_lt zero))

/-- Settings that stand at the front of the bytes are read, when they are in range. -/
theorem readHeadSettings_of_storedAt {x : HeadSettings} {bytes : List Byte} (stored : x.storedAt bytes 0) :
    readHeadSettings bytes = if x.inRange then some x else none := by
  obtain ⟨deadband, kp, pulseMax, deadTime, chans'⟩ := stored
  have chan (i : Nat) (c : Chan) (order : [Chan.zone .z0, .zone .z1, .zone .z2, .zone .z3, .rr][i]? = some c) :
      channelSettingsAt bytes i = x.chans.get c := by
    obtain ⟨wmin, wmax, span, zero⟩ := chans' i c order
    simp only [Nat.zero_add] at wmin wmax span zero
    rw [channelSettingsAt, wmin, wmax, span, zero]
  unfold readHeadSettings
  simp only [Nat.zero_add] at deadband kp pulseMax deadTime
  rw [deadband, kp, pulseMax, deadTime, chan 0 _ rfl, chan 1 _ rfl, chan 2 _ rfl, chan 3 _ rfl, chan 4 _ rfl]
  rfl

theorem HeadSettings.storedAt_bytes {x : HeadSettings} (fits : x.fits) (front : List Byte) :
    x.storedAt (front ++ x.bytes) front.length :=
  HeadSettings.storedAt_of_bytes fits fun k n _ => by rw [field_beyond _ _ _ _ (by omega), Nat.add_sub_cancel_left]

/-! ### The checks (R84) -/

theorem headWriteCheck_spelt (h : Head) {x : HeadSettings} (fits : x.fits) (s : State) :
    headWriteCheck (byte h.number :: x.bytes) s = if x.inRange then .ok ⟨h, x⟩ else .error .badParam := by
  have length : (byte h.number :: x.bytes).length = 43 := by rw [List.length_cons, x.length_bytes]
  have settings := readHeadSettings_of_storedAt (HeadSettings.storedAt_bytes fits [])
  rw [List.nil_append] at settings
  cases range : x.inRange <;> simp [headWriteCheck, length, Head.ofNumber_number, settings, range]

theorem headWriteCheck_length {payload : List Byte} (wrong : payload.length ≠ 43) (s : State) :
    headWriteCheck payload s = .error .badLength := if_pos wrong

theorem headWriteCheck_head {hd : Byte} {rest : List Byte} (length : rest.length = 42) (high : 3 < hd.toNat) (s : State) :
    headWriteCheck (hd :: rest) s = .error .badParam := by
  have none : Head.ofNumber hd.toNat = none := Head.ofNumber_eq_none high
  simp [headWriteCheck, length, none]

/-! ### A channel under new settings (R78, R85) -/

/-- The valve of a pulse placed in the period, and the other one (R78). -/
theorem placePulse_spec {y : Channel} {k : ValveKind} (shut : (y.valve k).isOpen = false) (now deadTime width : Nat) :
    let start := max now ((y.valve k.other).restedFrom deadTime)
    let z := y.placePulse now deadTime k width
    z.valve k.other = y.valve k.other ∧ (z.valve k).lastClosed = (y.valve k).lastClosed ∧
      (y.nextPeriod ≤ start → z.pulse = none ∧ z.valve k = y.valve k) ∧
      (start < y.nextPeriod → z.pulse = some ⟨k, width, start, min (start + width) y.nextPeriod⟩ ∧
        ((z.valve k).isOpen = true ↔ start = now)) := by
  intro start z
  by_cases late : y.nextPeriod ≤ start
  · have dropped : z = { y with pulse := none } := if_pos late
    rw [dropped]
    exact ⟨by cases k <;> rfl, by cases k <;> rfl, fun _ => ⟨rfl, by cases k <;> rfl⟩, fun inTime => absurd late (by omega)⟩
  · have inTime : start < y.nextPeriod := Nat.lt_of_not_le late
    have after : now ≤ start := le_max_left _ _
    by_cases here : start = now
    · have begun : z = (y.placed k width start).setValve k (y.valve k).opened := placePulse_begins rfl inTime here
      rw [begun]
      refine ⟨by cases k <;> rfl, by cases k <;> rfl, fun no => absurd no late, fun _ => ⟨by cases k <;> rfl, ?_⟩⟩
      exact ⟨fun _ => here, fun _ => by cases k <;> rfl⟩
    · have waits : z = y.placed k width start := placePulse_waits rfl inTime (by omega)
      rw [waits]
      refine ⟨by cases k <;> rfl, by cases k <;> rfl, fun no => absurd no late, fun _ => ⟨rfl, ?_⟩⟩
      have same : (y.placed k width start).valve k = y.valve k := by cases k <;> rfl
      rw [same, shut]
      simp [here]

/-- A placed pulse leaves the other fields of its channel. -/
structure Channel.SameBut (x y : Channel) : Prop where
  mode : y.mode = x.mode
  setpoint : y.setpoint = x.setpoint
  latest : y.latest = x.latest
  fault : y.fault = x.fault
  runCount : y.runCount = x.runCount
  nextSample : y.nextSample = x.nextSample
  nextPeriod : y.nextPeriod = x.nextPeriod

theorem Channel.SameBut.refl (x : Channel) : x.SameBut x := ⟨rfl, rfl, rfl, rfl, rfl, rfl, rfl⟩

theorem Channel.SameBut.setValve (x : Channel) (k : ValveKind) (v : Valve) : x.SameBut (x.setValve k v) := by
  cases k <;> exact ⟨rfl, rfl, rfl, rfl, rfl, rfl, rfl⟩

theorem placePulse_sameBut (x : Channel) (now deadTime : Nat) (k : ValveKind) (width : Nat) :
    x.SameBut (x.placePulse now deadTime k width) := by
  unfold Channel.placePulse
  dsimp only
  split
  · exact ⟨rfl, rfl, rfl, rfl, rfl, rfl, rfl⟩
  · split
    · cases k <;> exact ⟨rfl, rfl, rfl, rfl, rfl, rfl, rfl⟩
    · exact ⟨rfl, rfl, rfl, rfl, rfl, rfl, rfl⟩

theorem openVentIfRested_sameBut (x : Channel) (now deadTime : Nat) : x.SameBut (x.openVentIfRested now deadTime) := by
  unfold Channel.openVentIfRested
  split <;> exact ⟨rfl, rfl, rfl, rfl, rfl, rfl, rfl⟩

theorem moveDelays_sameBut (x : Channel) (now deadTime : Nat) : x.SameBut (x.moveDelays now deadTime) := by
  unfold Channel.moveDelays
  split
  · exact placePulse_sameBut _ _ _ _ _
  · exact openVentIfRested_sameBut _ _ _

/-- Nothing waits: the delays move nothing. -/
theorem moveDelays_idle {x : Channel} (noPulse : x.waitingPulse = none) (noVent : ¬(x.mode = .vent ∧ x.vent.isOpen = false))
    (now deadTime : Nat) : x.moveDelays now deadTime = x := by
  rw [Channel.moveDelays, noPulse]
  exact if_neg fun ⟨vent, shut, _⟩ => noVent ⟨vent, shut⟩

theorem moveDelays_waiting {x : Channel} {q : Pulse} (under : x.pulse = some q) (shut : (x.valve q.valve).isOpen = false)
    (now deadTime : Nat) : x.moveDelays now deadTime = x.placePulse now deadTime q.valve q.width := by
  rw [Channel.moveDelays, waitingPulse_eq under, shut]
  rfl

theorem moveDelays_vent {x : Channel} (quiet : x.pulse = none) (now deadTime : Nat) :
    x.moveDelays now deadTime = x.openVentIfRested now deadTime := by
  have none : x.waitingPulse = none := by simp only [Channel.waitingPulse, quiet]
  rw [Channel.moveDelays, none]

/-- The vent valve of a VENT channel stands open once the dead time has passed (R75). -/
theorem openVentIfRested_spec {y : Channel} (vent : y.mode = .vent) (shut : y.vent.isOpen = false) (now deadTime : Nat) :
    let z := y.openVentIfRested now deadTime
    z.pulse = y.pulse ∧ z.fill = y.fill ∧ z.vent.lastClosed = y.vent.lastClosed ∧
      (z.vent.isOpen = true ↔ y.fill.lastClosed = none ∨ ∃ m, y.fill.lastClosed = some m ∧ m + deadTime ≤ now) := by
  intro z
  have opens : z = _ := Channel.openVentIfRested_vent now deadTime vent
  rw [opens]
  refine ⟨rfl, rfl, rfl, ?_⟩
  dsimp only
  rw [shut, Bool.false_or, decide_eq_true_iff, Valve.restedFrom]
  cases y.fill.lastClosed <;> simp

theorem pulsesOn_iff (x : Channel) (k : ValveKind) : x.pulsesOn k = true ↔ ∃ q, x.pulse = some q ∧ q.valve = k := by
  unfold Channel.pulsesOn
  cases x.pulse <;> simp

/-! ### The zone-complete flag (R85) -/

/-- A channel of a zone that is complete in the live progress of the pass running on its head. -/
def State.completeAt (s : State) (h : Head) (c : Chan) : Prop :=
  ∃ z i r l, c = .zone z ∧ s.pass i = some r ∧ (r.state = .polishing ∨ r.state = .held) ∧ r.head = some h ∧
    r.live = some l ∧ l.complete.get z = true

theorem zoneComplete_iff {s : State} (apart : s.passesApart) (h : Head) (c : Chan) :
    s.zoneComplete h c = true ↔ s.completeAt h c := by
  cases c with
  | rr =>
    refine ⟨fun no => ?_, fun ⟨_, _, _, _, no, _⟩ => nomatch no⟩
    simp [State.zoneComplete] at no
  | zone z =>
    constructor
    · intro complete
      unfold State.zoneComplete at complete
      split at complete
      · rename_i z' i same found
        cases same
        obtain ⟨r, live, flag⟩ := (passHas_iff _ _ _).1 complete
        obtain ⟨q, there, runs⟩ := findPass_some found
        cases live.symm.trans there
        obtain ⟨running, head⟩ := (Pass.runsOn_iff r h).1 runs
        cases hl : r.live with
        | none => simp [hl] at flag
        | some l => exact ⟨z, i, r, l, rfl, live, running, head, hl, by simpa [hl] using flag⟩
      · cases complete
    · rintro ⟨z', i, r, l, same, live, running, head, hl, flag⟩
      cases same
      have found := runningAt_eq_some apart live running head
      simp only [State.zoneComplete, found]
      exact (passHas_iff _ _ _).2 ⟨r, live, by simp [hl, flag]⟩

/-! ### The statement -/

/-- A channel of the head that a HEAD-WRITE writes: the moved setpoint, then the moved delays (R85). -/
theorem writeHead_channel (s : State) (w : HeadWrite) (c : Chan) :
    (s.writeHead w).channel w.head c = (s.channel w.head c).applySettings s.clock (s.headSettings.get w.head).drive.deadTime
      w.settings.drive (w.settings.chans.get c) (s.zoneComplete w.head c) :=
  (channel_updateHead _ _ _ _ _).trans (if_pos rfl)

theorem writeHead_channel_other (s : State) (w : HeadWrite) {k : Head} (other : k ≠ w.head) (c : Chan) :
    (s.writeHead w).channel k c = s.channel k c :=
  (channel_updateHead _ _ _ _ _).trans (if_neg other)

/-- The channel with its setpoint moved (R85). -/
def Channel.underSettings (x : Channel) (cs : ChannelSettings) (complete : Bool) : Channel :=
  x.moveSetpoint fun v => if complete then cs.wmin else cs.window v

theorem applySettings_same {x : Channel} {d : DriveSettings} {oldDeadTime : Nat} (same : oldDeadTime = d.deadTime) (now : Nat)
    (cs : ChannelSettings) (complete : Bool) :
    x.applySettings now oldDeadTime d cs complete = x.underSettings cs complete := if_pos same

theorem applySettings_moved {x : Channel} {d : DriveSettings} {oldDeadTime : Nat} (moved : oldDeadTime ≠ d.deadTime)
    (now : Nat) (cs : ChannelSettings) (complete : Bool) :
    x.applySettings now oldDeadTime d cs complete = (x.underSettings cs complete).moveDelays now d.deadTime := if_neg moved

/-- The setpoint moves whatever the dead time does, and nothing but pulse and valves moves with it. -/
theorem applySettings_sameBut (x : Channel) (now oldDeadTime : Nat) (d : DriveSettings) (cs : ChannelSettings)
    (complete : Bool) : (x.underSettings cs complete).SameBut (x.applySettings now oldDeadTime d cs complete) := by
  by_cases same : oldDeadTime = d.deadTime
  · rw [applySettings_same same]
    exact .refl _
  · rw [applySettings_moved same]
    exact moveDelays_sameBut _ _ _

/-- The valves and the pulse of a channel. -/
def Channel.drives (x y : Channel) : Prop := y.pulse = x.pulse ∧ y.fill = x.fill ∧ y.vent = x.vent

theorem applySettings_drives_same {x : Channel} {d : DriveSettings} {oldDeadTime : Nat} (same : oldDeadTime = d.deadTime)
    (now : Nat) (cs : ChannelSettings) (complete : Bool) :
    x.drives (x.applySettings now oldDeadTime d cs complete) := by
  rw [applySettings_same same]
  exact ⟨rfl, rfl, rfl⟩

/-- A channel in which nothing waits keeps its pulse and its valves. -/
theorem applySettings_drives_idle {x : Channel} (noPulse : x.waitingPulse = none)
    (noVent : ¬(x.mode = .vent ∧ x.vent.isOpen = false)) (now oldDeadTime : Nat) (d : DriveSettings) (cs : ChannelSettings)
    (complete : Bool) : x.drives (x.applySettings now oldDeadTime d cs complete) := by
  by_cases same : oldDeadTime = d.deadTime
  · exact applySettings_drives_same same _ _ _
  · rw [applySettings_moved same, moveDelays_idle (x := x.underSettings cs complete) noPulse noVent]
    exact ⟨rfl, rfl, rfl⟩

/-- A pulse with its valve open does not wait. -/
theorem waitingPulse_open {x : Channel} {k : ValveKind} (on : x.pulsesOn k = true) (opened : (x.valve k).isOpen = true) :
    x.waitingPulse = none := by
  obtain ⟨q, under, rfl⟩ := (pulsesOn_iff x k).1 on
  rw [waitingPulse_eq under, if_pos opened]

theorem waitingPulse_quiet {x : Channel} (quiet : x.pulse = none) : x.waitingPulse = none := by
  simp only [Channel.waitingPulse, quiet]

/-- Settles O38: the bytes, the checks in their order, and each channel of the head by its setpoint and by what waits in it. -/
theorem headWriteActs : Obligations.HeadWriteActs := by
  refine ⟨fun x => ⟨fun fits => ⟨x.length_bytes, HeadSettings.storedAt_bytes fits []⟩, x.inRange_iff⟩,
    fun s dt tag payload offered => ?_⟩
  intro now
  refine ⟨fun wrong => offered.answers_error (rule := headWriteRule) rfl (headWriteCheck_length wrong now), ?_, ?_⟩
  · rintro hd rest rfl length high
    exact offered.answers_error (rule := headWriteRule) rfl (headWriteCheck_head length high now)
  · rintro h x rfl fits
    have checked := headWriteCheck_spelt h fits now
    refine ⟨fun out => offered.answers_error (rule := headWriteRule) rfl (checked.trans (if_neg (by simp [out]))), fun ok => ?_⟩
    refine ⟨now.writeHead ⟨h, x⟩, offered.answers_ok (rule := headWriteRule) rfl (checked.trans (if_pos ok)), rfl,
      fun k c other => writeHead_channel_other now ⟨h, x⟩ other c, fun c => ?_⟩
    intro old complete
    have written : (now.writeHead ⟨h, x⟩).channel h c = old.applySettings now.clock (s.headSettings.get h).drive.deadTime
        x.drive (x.chans.get c) (now.zoneComplete h c) := writeHead_channel now ⟨h, x⟩ c
    rw [written]
    have moved := applySettings_sameBut old now.clock (s.headSettings.get h).drive.deadTime x.drive (x.chans.get c)
      (now.zoneComplete h c)
    have idle := applySettings_drives_idle (x := old) (now := now.clock)
      (oldDeadTime := (s.headSettings.get h).drive.deadTime) (d := x.drive) (cs := x.chans.get c)
      (complete := now.zoneComplete h c)
    refine ⟨⟨moved.mode, moved.latest, moved.fault, moved.runCount, moved.nextSample, moved.nextPeriod⟩,
      fun apart yes => ?_, fun apart no => ?_, fun same => applySettings_drives_same same _ _ _, ?_, fun changed => ?_⟩
    · have flag : now.zoneComplete h c = true := (zoneComplete_iff (s := now) apart h c).2 yes
      refine moved.setpoint.trans ?_
      rw [flag]
      rfl
    · have flag : now.zoneComplete h c = false :=
        Bool.eq_false_of_not_eq_true (mt (zoneComplete_iff (s := now) apart h c).1 no)
      refine moved.setpoint.trans ?_
      rw [flag]
      exact congrArg (fun f => old.setpoint.map f) (funext (x.chans.get c).window_eq_clip)
    · rintro (⟨drive, quiet⟩ | ⟨opened, quiet⟩ | ⟨drive, on, opened⟩ | ⟨drive, on, opened⟩)
      · exact idle (waitingPulse_quiet quiet) fun ⟨vent, _⟩ => nomatch drive.symm.trans vent
      · exact idle (waitingPulse_quiet quiet) fun ⟨_, shut⟩ => nomatch opened.symm.trans shut
      · exact idle (waitingPulse_open (k := .fill) on opened) fun ⟨vent, _⟩ => nomatch drive.symm.trans vent
      · exact idle (waitingPulse_open (k := .vent) on opened) fun ⟨vent, _⟩ => nomatch drive.symm.trans vent
    · rw [applySettings_moved changed]
      let y := old.underSettings (x.chans.get c) (now.zoneComplete h c)
      refine ⟨fun quiet vent shut => ?_, fun q under on shut => ?_, fun q under on shut => ?_⟩
      · rw [moveDelays_vent (x := y) quiet]
        obtain ⟨pulse, rest⟩ := openVentIfRested_spec (y := y) vent shut now.clock x.drive.deadTime
        exact ⟨pulse.trans quiet, rest⟩
      · obtain ⟨p, there, valve⟩ := (pulsesOn_iff _ _).1 on
        cases under.symm.trans there
        rw [moveDelays_waiting (x := y) under (by rw [valve]; exact shut), valve]
        have placed := placePulse_spec (y := y) (k := .fill) shut now.clock x.drive.deadTime q.width
        dsimp only at placed
        rw [max_restedFrom] at placed
        exact placed
      · obtain ⟨p, there, valve⟩ := (pulsesOn_iff _ _).1 on
        cases under.symm.trans there
        rw [moveDelays_waiting (x := y) under (by rw [valve]; exact shut), valve]
        have placed := placePulse_spec (y := y) (k := .vent) shut now.clock x.drive.deadTime q.width
        dsimp only at placed
        rw [max_restedFrom] at placed
        exact placed

end Sys2Proof.Machine

/-! SUPPORT. The minute tick (R91, R93). -/

namespace Sys2Proof.Machine

theorem item_rewriteItem (s : State) (i j : ItemSlot) (old new : Item) :
    (s.rewriteItem i old new).item j = if j = i then some new else s.item j := by
  rw [State.item, rewriteItem_items]
  exact slotAt_putAt _ _ _ _

/-- Some lots have aged by a minute. -/
structure Aged (s t : State) (slots : List ItemSlot) : Prop where
  item : ∀ j, t.item j = if j ∈ slots then (s.item j).map Item.ageByMinute else s.item j
  attnPending : Once (∃ j ∈ slots, ∃ x, s.item j = some x ∧ x.flags.newlySet x.ageByMinute.flags = true) (· ||| 16#9)
    s.attnPending t.attnPending
  rest : t = { s with items := t.items, attnPending := t.attnPending }

theorem ageItem_free {s : State} {i : ItemSlot} (free : s.item i = none) : s.ageItem i = s := by
  rw [State.ageItem, free]

theorem ageItem_live {s : State} {i : ItemSlot} {x : Item} (live : s.item i = some x) :
    s.ageItem i = s.rewriteItem i x x.ageByMinute := by
  rw [State.ageItem, live]

/-- One slot more. -/
theorem Aged.next {s t : State} {slots : List ItemSlot} (h : Aged s t slots) {i : ItemSlot} (new : i ∉ slots) :
    Aged s (t.ageItem i) (slots ++ [i]) := by
  have here : t.item i = s.item i := (h.item i).trans (if_neg new)
  cases live : s.item i with
  | none =>
    rw [ageItem_free (here.trans live)]
    refine ⟨fun j => ?_, h.attnPending.iff ?_, h.rest⟩
    · by_cases same : j = i
      · subst same
        simp [here, live]
      · simp [same, h.item j]
    · simp [or_and_right, exists_or, live]
  | some x =>
    rw [ageItem_live (here.trans live)]
    refine ⟨fun j => ?_, ?_, ?_⟩
    · rw [item_rewriteItem]
      by_cases same : j = i
      · subst same
        simp [live]
      · simp [same, h.item j]
    · rw [rewriteItem_attnPending]
      have idem (a : CauseSet) : a ||| 16#9 ||| 16#9 = a ||| 16#9 := by
        rw [BitVec.or_assoc, BitVec.or_self]
      have one : Once (x.flags.newlySet x.ageByMinute.flags = true) (· ||| 16#9) t.attnPending _ := Once.of_if rfl
      refine (h.attnPending.or idem one).iff ?_
      simp [or_and_right, exists_or, live]
    · rw [rewriteItem_eq, h.rest]

/-- Every slot of a list has aged. -/
theorem aged_foldl (s : State) : ∀ slots : List ItemSlot, slots.Nodup → Aged s (slots.foldl State.ageItem s) slots := by
  intro slots
  induction slots using List.reverseRecOn with
  | nil => exact fun _ => ⟨fun j => by simp, .never (by simp), rfl⟩
  | append_singleton slots i ih =>
    intro distinct
    obtain ⟨before, _, apart⟩ := List.nodup_append.1 distinct
    rw [List.foldl_append]
    exact (ih before).next fun m => apart i m i (List.mem_singleton_self i) rfl

theorem Item.ageByMinute_of_ne_lot {x : Item} (other : x.kind ≠ .lot) : x.ageByMinute = x := if_neg other

theorem Item.ageByMinute_lot {x : Item} (lot : x.kind = .lot) :
    x.ageByMinute = { x with
      age := min 65535 (x.age + 1)
      flags := { x.flags with
        expired := x.flags.expired || decide (0 < x.potLife ∧ x.potLife ≤ min 65535 (x.age + 1)) } } := by
  have aged : x.ageByMinute = _ := if_pos lot
  rw [aged]
  simp [Item.isExpired, lot]

/-- ITEM is raised for a lot that newly expires (R93). -/
theorem Item.newlySet_ageByMinute (x : Item) : x.flags.newlySet x.ageByMinute.flags = true ↔
    x.kind = .lot ∧ x.flags.expired = false ∧ decide (0 < x.potLife ∧ x.potLife ≤ min 65535 (x.age + 1)) = true := by
  by_cases lot : x.kind = .lot
  · rw [Item.ageByMinute_lot lot]
    cases e : x.flags.expired <;> simp [ItemFlags.newlySet, lot, e]
  · rw [Item.ageByMinute_of_ne_lot lot]
    simp [ItemFlags.newlySet, lot]

/-- Settles O45: the minute tick, item by item. -/
theorem minuteTickAges : Obligations.MinuteTickAges := by
  intro s older due expires
  have aged := aged_foldl { s.runTo s.nextMinute with nextMinute := s.nextMinute + 60000000 } itemSlots (by decide)
  have item (j : ItemSlot) : _ = (s.item j).map Item.ageByMinute := (aged.item j).trans (if_pos (mem_itemSlots j))
  have newly : (∃ j ∈ itemSlots, ∃ x, s.item j = some x ∧ x.flags.newlySet x.ageByMinute.flags = true) ↔ expires := by
    simp only [mem_itemSlots, true_and, Item.newlySet_ageByMinute]
    exact Iff.rfl
  refine ⟨_, rfl, fun j free => ?_, fun j x live => ⟨fun other => ?_, fun lot => ?_⟩, fun some => ?_, fun none => ?_, aged.rest⟩
  · exact (item j).trans (by rw [free]; rfl)
  · exact (item j).trans (by rw [live, Option.map_some, Item.ageByMinute_of_ne_lot other])
  · exact (item j).trans (by rw [live, Option.map_some, Item.ageByMinute_lot lot])
  · exact aged.attnPending.1 (newly.2 some)
  · exact aged.attnPending.2 (mt newly.1 none)

end Sys2Proof.Machine

/-! SUPPORT. ITEM-ADJUST (R98, R104): its wire, its checks, and what an accepted one reports (R93). -/

namespace Sys2Proof.Machine

/-! ### The wire (R104) -/

/-- The mask byte of an adjust. -/
def Adjust.mask (a : Adjust) : Nat :=
  flagBit a.limit.isSome 0 + flagBit a.f0.isSome 1 + flagBit a.slope.isSome 2 + flagBit a.potLife.isSome 3 +
    flagBit a.volume.isSome 4 + flagBit a.age.isSome 5

theorem Adjust.wire_eq (a : Adjust) : a.wire = byte a.mask ::
    (valueBytes 4 a.limit ++ (valueBytes 2 a.f0 ++ (valueBytes 2 a.slope ++ (valueBytes 2 a.potLife ++
      (valueBytes 4 a.volume ++ valueBytes 2 a.age))))) := by
  have spelt (n : Nat) (o : Option Nat) : (match o with | some v => leBytes n v | none => []) = valueBytes n o := by
    cases o <;> rfl
  simp only [← spelt, ← List.append_assoc]
  rfl

/-- The bits of six flags are those flags, and the bytes they stand for add up in order. -/
theorem adjustMask_flags (b0 b1 b2 b3 b4 b5 : Bool) :
    let mask := flagBit b0 0 + flagBit b1 1 + flagBit b2 2 + flagBit b3 3 + flagBit b4 4 + flagBit b5 5
    let size (n : Nat) (b : Bool) := if b then n else 0
    (mask < 64 ∧ maskBit mask 0 = b0 ∧ maskBit mask 1 = b1 ∧ maskBit mask 2 = b2 ∧ maskBit mask 3 = b3 ∧
      maskBit mask 4 = b4 ∧ maskBit mask 5 = b5) ∧
    (adjustBytes (mask % 2 ^ 0) = 0 ∧ adjustBytes (mask % 2 ^ 1) = size 4 b0 ∧
      adjustBytes (mask % 2 ^ 2) = size 4 b0 + size 2 b1 ∧
      adjustBytes (mask % 2 ^ 3) = size 4 b0 + size 2 b1 + size 2 b2 ∧
      adjustBytes (mask % 2 ^ 4) = size 4 b0 + size 2 b1 + size 2 b2 + size 2 b3 ∧
      adjustBytes (mask % 2 ^ 5) = size 4 b0 + size 2 b1 + size 2 b2 + size 2 b3 + size 4 b4 ∧
      adjustBytes mask = size 4 b0 + size 2 b1 + size 2 b2 + size 2 b3 + size 4 b4 + size 2 b5) := by
  revert b0 b1 b2 b3 b4 b5
  decide

theorem Adjust.maskBit_mask (a : Adjust) : a.mask < 64 ∧ maskBit a.mask 0 = a.limit.isSome ∧ maskBit a.mask 1 = a.f0.isSome ∧
    maskBit a.mask 2 = a.slope.isSome ∧ maskBit a.mask 3 = a.potLife.isSome ∧ maskBit a.mask 4 = a.volume.isSome ∧
    maskBit a.mask 5 = a.age.isSome := (adjustMask_flags _ _ _ _ _ _).1

/-- The bytes before each named field, and all of them. -/
theorem Adjust.adjustBytes_mask (a : Adjust) :
    let v0 := (valueBytes 4 a.limit).length
    let v1 := (valueBytes 2 a.f0).length
    let v2 := (valueBytes 2 a.slope).length
    let v3 := (valueBytes 2 a.potLife).length
    let v4 := (valueBytes 4 a.volume).length
    let v5 := (valueBytes 2 a.age).length
    adjustBytes (a.mask % 2 ^ 0) = 0 ∧ adjustBytes (a.mask % 2 ^ 1) = v0 ∧ adjustBytes (a.mask % 2 ^ 2) = v0 + v1 ∧
      adjustBytes (a.mask % 2 ^ 3) = v0 + v1 + v2 ∧ adjustBytes (a.mask % 2 ^ 4) = v0 + v1 + v2 + v3 ∧
      adjustBytes (a.mask % 2 ^ 5) = v0 + v1 + v2 + v3 + v4 ∧ adjustBytes a.mask = v0 + v1 + v2 + v3 + v4 + v5 := by
  simp only [length_valueBytes]
  exact (adjustMask_flags _ _ _ _ _ _).2

/-- A field that follows some bytes of the payload, named by its mask bit. -/
theorem adjustField_eq {payload before after : List Byte} {mask bit n : Nat} {o : Option Nat} (named : maskBit mask bit = o.isSome)
    (h : payload = before ++ (valueBytes n o ++ after)) (start : 5 + adjustBytes (mask % 2 ^ bit) = before.length)
    (fits : ∀ v, o = some v → v < 256 ^ n) : adjustField payload mask bit n = o := by
  rw [adjustField, named]
  exact field_valueBytes h start fits

/-- An adjust reads back from the wire. -/
theorem readAdjust_wire {a : Adjust} (fits : a.fitsWire) (id : Word32) :
    readAdjust (leBytes 4 id.toNat ++ a.wire) a.mask = a := by
  obtain ⟨fl, ff, fs, fp, fv, fa⟩ := fits
  obtain ⟨-, m0, m1, m2, m3, m4, m5⟩ := a.maskBit_mask
  obtain ⟨n0, n1, n2, n3, n4, n5, -⟩ := a.adjustBytes_mask
  let head := leBytes 4 id.toNat ++ [byte a.mask]
  have limit : adjustField (leBytes 4 id.toNat ++ a.wire) a.mask 0 4 = a.limit :=
    adjustField_eq (before := head)
      (after := valueBytes 2 a.f0 ++ (valueBytes 2 a.slope ++ (valueBytes 2 a.potLife ++ (valueBytes 4 a.volume ++
        valueBytes 2 a.age)))) m0
      (by rw [a.wire_eq]; simp [head]) (by rw [n0]; simp [head]) fl
  have f0 : adjustField (leBytes 4 id.toNat ++ a.wire) a.mask 1 2 = a.f0 :=
    adjustField_eq (before := head ++ valueBytes 4 a.limit)
      (after := valueBytes 2 a.slope ++ (valueBytes 2 a.potLife ++ (valueBytes 4 a.volume ++ valueBytes 2 a.age))) m1
      (by rw [a.wire_eq]; simp [head]) (by rw [n1]; simp [head]; omega) ff
  have slope : adjustField (leBytes 4 id.toNat ++ a.wire) a.mask 2 2 = a.slope :=
    adjustField_eq (before := head ++ valueBytes 4 a.limit ++ valueBytes 2 a.f0)
      (after := valueBytes 2 a.potLife ++ (valueBytes 4 a.volume ++ valueBytes 2 a.age)) m2
      (by rw [a.wire_eq]; simp [head]) (by rw [n2]; simp [head]; omega) fs
  have potLife : adjustField (leBytes 4 id.toNat ++ a.wire) a.mask 3 2 = a.potLife :=
    adjustField_eq (before := head ++ valueBytes 4 a.limit ++ valueBytes 2 a.f0 ++ valueBytes 2 a.slope)
      (after := valueBytes 4 a.volume ++ valueBytes 2 a.age) m3
      (by rw [a.wire_eq]; simp [head]) (by rw [n3]; simp [head]; omega) fp
  have volume : adjustField (leBytes 4 id.toNat ++ a.wire) a.mask 4 4 = a.volume :=
    adjustField_eq (before := head ++ valueBytes 4 a.limit ++ valueBytes 2 a.f0 ++ valueBytes 2 a.slope ++
      valueBytes 2 a.potLife)
      (after := valueBytes 2 a.age) m4
      (by rw [a.wire_eq]; simp [head]) (by rw [n4]; simp [head]; omega) fv
  have age : adjustField (leBytes 4 id.toNat ++ a.wire) a.mask 5 2 = a.age :=
    adjustField_eq (before := head ++ valueBytes 4 a.limit ++ valueBytes 2 a.f0 ++ valueBytes 2 a.slope ++
      valueBytes 2 a.potLife ++ valueBytes 4 a.volume)
      (after := []) m5
      (by rw [a.wire_eq]; simp [head]) (by rw [n5]; simp [head]; omega) fa
  rw [readAdjust, limit, f0, slope, potLife, volume, age]

theorem length_adjust_wire (a : Adjust) (id : Word32) : (leBytes 4 id.toNat ++ a.wire).length = 5 + adjustBytes a.mask := by
  obtain ⟨-, -, -, -, -, -, total⟩ := a.adjustBytes_mask
  rw [total, a.wire_eq]
  simp
  omega

/-! ### The checks (R98, R104) -/

theorem adjustBytes_toNat (mask : Byte) : adjustBytes mask.toNat =
    (if mask.getLsbD 0 then 4 else 0) + (if mask.getLsbD 1 then 2 else 0) + (if mask.getLsbD 2 then 2 else 0) +
      (if mask.getLsbD 3 then 2 else 0) + (if mask.getLsbD 4 then 4 else 0) + (if mask.getLsbD 5 then 2 else 0) := by
  simp only [adjustBytes, maskedBytes, maskBit_toNat]

/-- The checks of the record's kind (R104). -/
def adjustChecks (a : Adjust) (j : ItemSlot) (x : Item) : Except Status AcceptedAdjust :=
  if a.fits x.kind then .ok ⟨j, x, a.apply x⟩ else .error .badParam

theorem itemAdjustCheck_short {payload : List Byte} (short : payload.length < 5) (s : State) :
    itemAdjustCheck payload s = .error .badLength := if_pos short

theorem itemAdjustCheck_cons (id : Word32) (mask : Byte) (rest : List Byte) (s : State) :
    itemAdjustCheck (leBytes 4 id.toNat ++ mask :: rest) s =
      itemChecks (5 + adjustBytes mask.toNat)
        (decide (mask.toNat < 64) && (readAdjust (leBytes 4 id.toNat ++ mask :: rest) mask.toNat).inRange)
        (leBytes 4 id.toNat ++ mask :: rest) s
        (adjustChecks (readAdjust (leBytes 4 id.toNat ++ mask :: rest) mask.toNat)) := by
  have four : field (leBytes 4 id.toNat ++ mask :: rest) 4 1 = mask.toNat := by
    rw [field_beyond _ _ _ _ (by simp)]
    simp
  have long : ¬(leBytes 4 id.toNat ++ mask :: rest).length < 5 := by
    simp only [List.length_append, length_leBytes, List.length_cons]
    omega
  rw [itemAdjustCheck, four]
  exact if_neg long

theorem itemAdjustCheck_wire {a : Adjust} (fits : a.fitsWire) (id : Word32) (s : State) :
    itemAdjustCheck (leBytes 4 id.toNat ++ a.wire) s =
      itemChecks (5 + adjustBytes a.mask) a.inRange (leBytes 4 id.toNat ++ a.wire) s (adjustChecks a) := by
  have read := readAdjust_wire fits id
  have small := a.maskBit_mask.1
  have mask : (byte a.mask).toNat = a.mask := by
    rw [toNat_byte]
    omega
  rw [a.wire_eq] at read ⊢
  rw [itemAdjustCheck_cons, mask, read]
  simp [small]

theorem Adjust.inRange_iff (a : Adjust) : a.inRange = true ↔ ∀ v, a.f0 = some v → v ≤ 8191 := by
  unfold Adjust.inRange
  cases a.f0 with
  | none => simp
  | some v => exact decide_eq_true_iff.trans (by simp [maxFactor])

/-- The fields an adjust names that an item's kind does not have (R88). -/
def Adjust.foreign (a : Adjust) (x : Item) : Prop :=
  (x.kind = .lot ∧ a.limit ≠ none) ∨ ((x.kind = .disk ∨ x.kind = .ring) ∧ (a.f0 ≠ none ∨ a.slope ≠ none)) ∨
    (x.kind ≠ .lot ∧ (a.potLife ≠ none ∨ a.volume ≠ none ∨ a.age ≠ none))

theorem Adjust.fits_iff (a : Adjust) (x : Item) : a.fits x.kind = true ↔ ¬a.foreign x := by
  unfold Adjust.fits Adjust.foreign
  cases x.kind <;>
    simp [ItemKind.hasLimit, ItemKind.hasFactor, ItemKind.isLot, Option.isNone_iff_eq_none, not_or, and_assoc]

/-! ### What an accepted adjust acts on (R93, R104) -/

theorem Adjust.apply_eq (a : Adjust) (x : Item) : a.apply x = Item.reflagged
    { x with
      limit := a.limit.getD x.limit, f0 := a.f0.getD x.f0, slope := a.slope.getD x.slope
      potLife := a.potLife.getD x.potLife, volume := a.volume.getD x.volume, age := a.age.getD x.age } := rfl

theorem Adjust.apply_kind (a : Adjust) (x : Item) : (a.apply x).kind = x.kind := rfl

theorem Adjust.apply_position (a : Adjust) (x : Item) : (a.apply x).position = x.position := rfl

/-- Only a lot is EMPTY (R92). -/
theorem Adjust.apply_not_empty (a : Adjust) {x : Item} (other : x.kind ≠ .lot) : (a.apply x).flags.empty = false := by
  rw [Adjust.apply_eq]
  exact decide_eq_false fun ⟨lot, _⟩ => other lot

/-- What the record written reports: a lot that ran out to its feed, a disk that wore out to its arm (R93, R137, R160). -/
def State.adjustReports (s : State) (x y : Item) : State :=
  match x.kind, x.position with
  | .lot, some .feedA => if y.flags.empty && !x.flags.empty then s.supplyLoss .a else s
  | .lot, some .feedB => if y.flags.empty && !x.flags.empty then s.supplyLoss .b else s
  | .disk, some (.platen p) => if y.flags.worn && !x.flags.worn && !(s.arms.get p).sweeping then s.wearStop p else s
  | _, _ => s

theorem reportDisk_other {x y : Item} (other : y.kind ≠ .disk) (s : State) : s.reportDisk x y = s := by
  unfold State.reportDisk
  split
  · next disk _ => exact absurd disk other
  · rfl

theorem reportEmpty_other {x y : Item} (full : y.flags.empty = false) (s : State) : s.reportEmpty x y = s := by
  simp [State.reportEmpty, full]

theorem adjust_reports (s : State) (a : Adjust) (x : Item) :
    (s.reportEmpty x (a.apply x)).reportDisk x (a.apply x) = s.adjustReports x (a.apply x) := by
  by_cases lot : x.kind = .lot
  · rw [reportDisk_other (by rw [a.apply_kind, lot]; decide)]
    simp only [State.reportEmpty, State.adjustReports, a.apply_position, lot, State.supplyLossAt]
    cases x.position with
    | none => simp
    | some pos => cases pos <;> simp [Position.feed]
  · rw [reportEmpty_other (a.apply_not_empty lot)]
    simp only [State.reportDisk, State.adjustReports, a.apply_kind, a.apply_position, State.reportWear]
    cases kind : x.kind with
    | lot => exact absurd kind lot
    | pad => rfl
    | ring => rfl
    | disk =>
      cases x.position with
      | none => rfl
      | some pos =>
        cases pos with
        | platen p => by_cases still : (s.arms.get p).sweeping = true <;> simp [still]
        | feedA => rfl
        | feedB => rfl
        | head h => rfl

/-- An accepted adjust: the record written and reported, and attempts when a flag is removed (R104). -/
theorem adjust_eq (s : State) (a : Adjust) (j : ItemSlot) (x : Item) :
    s.adjust ⟨j, x, a.apply x⟩ =
      if (a.apply x).flagsGained x then ((s.rewriteItem j x (a.apply x)).adjustReports x (a.apply x)).attemptAll
      else (s.rewriteItem j x (a.apply x)).adjustReports x (a.apply x) := by
  rw [← adjust_reports]
  rfl

/-- Settles O44: the checks in their order, and an accepted adjust by what it writes and reports. -/
theorem itemAdjustRewrites : Obligations.ItemAdjustRewrites := by
  intro s dt tag payload offered wf now
  refine ⟨fun short => offered.answers_error (rule := itemAdjustRule) rfl (itemAdjustCheck_short short now), ?_, ?_⟩
  · rintro id mask rest rfl bytes
    have checked := itemAdjustCheck_cons id mask rest now
    have size : adjustBytes mask.toNat = bytes := adjustBytes_toNat mask
    have total : (leBytes 4 id.toNat ++ mask :: rest).length = rest.length + 5 := by simp; omega
    refine ⟨fun wrong => offered.answers_error (rule := itemAdjustRule) rfl (checked.trans (itemChecks_length ?_)),
      fun length bad => offered.answers_error (rule := itemAdjustRule) rfl (checked.trans (itemChecks_range ?_ ?_))⟩
    · omega
    · omega
    · rw [wordField_leBytes]
      exact bad.imp_right fun high => by simp [Nat.not_lt.2 high]
  · rintro id a fits rfl nonzero
    have checked := itemAdjustCheck_wire fits id now
    have length := length_adjust_wire a id
    have named : wordField (leBytes 4 id.toNat ++ a.wire) 0 = id := wordField_leBytes id _
    refine ⟨fun ⟨v, hv, high⟩ => ?_, fun inRange => ?_⟩
    · have out : a.inRange = false :=
        Bool.eq_false_of_not_eq_true fun ok => absurd (a.inRange_iff.1 ok v hv) (by omega)
      exact offered.answers_error (rule := itemAdjustRule) rfl (checked.trans (itemChecks_range length (.inr out)))
    · rw [a.inRange_iff.2 inRange] at checked
      refine ⟨fun unknown => offered.answers_error (rule := itemAdjustRule) rfl
        (checked.trans (itemChecks_unknown length named nonzero unknown)), ?_⟩
      rintro j x live holds foreign y written reported
      have own := checked.trans (itemChecks_live length named nonzero wf live holds)
      have done : now.rewriteItem j x y = written := rewriteItem_eq now j x y
      have reports : (now.rewriteItem j x y).adjustReports x y = reported := by
        rw [done]
        rfl
      refine ⟨fun no => offered.answers_error (rule := itemAdjustRule) rfl (own.trans (if_neg ?_)), fun takes => ?_⟩
      · exact mt (a.fits_iff x).1 (not_not.2 no)
      · have answered := offered.answers_ok (c := .itemAdjust dt) (rule := itemAdjustRule) rfl
          (own.trans (if_pos ((a.fits_iff x).2 takes)))
        have acted : now.adjust ⟨j, x, y⟩ = if y.flagsGained x then reported.attemptAll else reported := by
          rw [← reports]
          exact adjust_eq now a j x
        refine ⟨fun removed => ?_, fun kept => ?_⟩
        · rw [if_pos removed] at acted
          rw [← acted]
          exact answered
        · rw [if_neg (by simp [kept])] at acted
          rw [← acted]
          exact answered

end Sys2Proof.Machine

/-! SUPPORT. The settings requests of slurry delivery: BLEND-WRITE, FEED-WRITE, PHASE-WRITE and PHASE-LOAD (R109, R110,
R118, R119). -/

namespace Sys2Proof.Machine

/-! ### The checks of BLEND-WRITE (R109) -/

section
variable (lo hi a b c : Byte)

/-- Five bytes spell a blend row of at most 500 mL/min with a part to mix, when there is a flow (R109). -/
theorem readRow_bytes : readRow [lo, hi, a, b, c] =
    if 500 < le2 lo hi ∨ (0 < le2 lo hi ∧ a.toNat + b.toNat + c.toNat = 0) then none
    else some ⟨le2 lo hi, a.toNat, b.toNat, c.toNat⟩ := by
  have flow : field [lo, hi, a, b, c] 0 2 = le2 lo hi := field_cons_two lo hi _
  simp only [readRow, flow, field_cons_succ, field_cons_one]
  by_cases high : 500 < le2 lo hi
  · simp [BlendRow.inRange, within, high, Nat.not_le.2 high]
  · by_cases idle : 0 < le2 lo hi ∧ a.toNat + b.toNat + c.toNat = 0
    · simp only [BlendRow.inRange, BlendRow.partSum, idle, high]
      simp
    · simp only [BlendRow.inRange, BlendRow.partSum, (within_iff 0 500 _).2 ⟨Nat.zero_le _, Nat.not_lt.1 high⟩, idle, high]
      simp

variable {r : Byte} {lo hi a b c}

theorem blendWriteCheck_range (bad : 7 < r.toNat ∨ 500 < le2 lo hi ∨ (0 < le2 lo hi ∧ a.toNat + b.toNat + c.toNat = 0))
    (s : State) : blendWriteCheck [r, lo, hi, a, b, c] s = .error .badParam := by
  rcases bad with high | wrong
  · simp [blendWriteCheck, blendWriteLength, indexBelow_of_le high]
  · have unread : readRow [lo, hi, a, b, c] = none := (readRow_bytes lo hi a b c).trans (if_pos wrong)
    cases e : indexBelow 8 r.toNat <;> simp [blendWriteCheck, blendWriteLength, unread, e]

theorem blendWriteCheck_accepts {i : Fin 8} (row : r = byte i.val)
    (good : ¬(500 < le2 lo hi ∨ (0 < le2 lo hi ∧ a.toNat + b.toNat + c.toNat = 0))) (s : State) :
    blendWriteCheck [r, lo, hi, a, b, c] s =
      if s.rowInUse i then .error .busy else .ok (i, ⟨le2 lo hi, a.toNat, b.toNat, c.toNat⟩) := by
  have index : r.toNat = i.val := by
    rw [row]
    exact Nat.mod_eq_of_lt (by omega)
  have read : readRow [lo, hi, a, b, c] = some ⟨le2 lo hi, a.toNat, b.toNat, c.toNat⟩ :=
    (readRow_bytes lo hi a b c).trans (if_neg good)
  simp [blendWriteCheck, blendWriteLength, read, index, indexBelow_val]

end

/-- A blend row is in use while a pass POLISHING or HELD has a current step that names it (R109). -/
theorem rowInUse_iff (s : State) (i : Fin 8) : s.rowInUse i = true ↔
    ∃ j q st, s.pass j = some q ∧ (q.state = .polishing ∨ q.state = .held) ∧ q.step = some st ∧ st.blendRow = i := by
  have named (q : Pass) : (q.running && match q.step with
      | some st => decide (st.blendRow = i)
      | none => false) = true ↔ ∃ st, (q.state = .polishing ∨ q.state = .held) ∧ q.step = some st ∧ st.blendRow = i := by
    rw [Bool.and_eq_true, q.running_iff]
    cases q.step <;> simp
  refine (anyPass_iff s _).trans (exists_congr fun j => exists_congr fun q => ?_)
  refine (and_congr_right fun _ => named q).trans ?_
  exact exists_and_left.symm

/-! ### The checks and the act of FEED-WRITE (R110) -/

theorem Feed.ofNumber_eq_none : ∀ {n : Nat}, 2 < n → Feed.ofNumber n = none
  | _ + 3, _ => rfl

theorem feedWriteCheck_eq (n lo hi : Byte) (s : State) : feedWriteCheck [n, lo, hi] s =
    (Feed.ofNumber n.toNat).elim (.error .badParam) fun f =>
      if 10 ≤ le2 lo hi ∧ le2 lo hi ≤ 2000 then .ok (f, le2 lo hi) else .error .badParam := by
  have volume : field [n, lo, hi] 1 2 = le2 lo hi := by rw [field_cons_succ, field_cons_two, le2]
  simp only [feedWriteCheck, volume, volumeInRange_iff, field_cons_one]
  cases Feed.ofNumber n.toNat <;> simp

theorem feedWriteCheck_range {n lo hi : Byte} (bad : 2 < n.toNat ∨ le2 lo hi < 10 ∨ 2000 < le2 lo hi) (s : State) :
    feedWriteCheck [n, lo, hi] s = .error .badParam := by
  rw [feedWriteCheck_eq]
  rcases bad with high | outside
  · rw [Feed.ofNumber_eq_none high]
    rfl
  · have outside' : ¬(10 ≤ le2 lo hi ∧ le2 lo hi ≤ 2000) := by omega
    cases Feed.ofNumber n.toNat <;> simp [outside']

theorem feedWriteCheck_accepts {n lo hi : Byte} {f : Feed} (named : Feed.ofNumber n.toNat = some f)
    (low : 10 ≤ le2 lo hi) (high : le2 lo hi ≤ 2000) (s : State) :
    feedWriteCheck [n, lo, hi] s = .ok (f, le2 lo hi) := by
  rw [feedWriteCheck_eq, named]
  exact if_pos ⟨low, high⟩

theorem writeFeed_same {s : State} {f : Feed} {v : Nat} (same : (s.feeds.get f).volume = v) : s.writeFeed f v = s :=
  if_pos same

theorem writeFeed_new {s : State} {f : Feed} {v : Nat} (new : (s.feeds.get f).volume ≠ v) : s.writeFeed f v =
    { s.setFeed f { s.feeds.get f with volume := v } with supply := s.supply.map (PlatenSupply.dropFeed f) } :=
  if_neg new

/-! ### The checks of PHASE-WRITE (R118) -/

theorem readPhase_eq_none {b : Byte} (high : 3 < b.toNat) : readPhase b = none := by
  obtain ⟨n, e⟩ : ∃ n, b.toNat = n + 4 := ⟨b.toNat - 4, by omega⟩
  simp [readPhase, e]

/-- A phase table with an entry beyond 3 is not read (R118). -/
theorem readPhases_eq_none : ∀ {bs : List Byte}, (∃ e ∈ bs, 3 < e.toNat) → readPhases bs = none
  | b :: bs, ⟨e, mem, high⟩ => by
    rcases List.mem_cons.1 mem with rfl | later
    · rw [readPhases, readPhase_eq_none high]
    · rw [readPhases, readPhases_eq_none ⟨e, later, high⟩]
      cases readPhase b <;> rfl

/-- A phase table's bytes are read back as it (R118). -/
theorem readPhases_codes : ∀ t : PhaseTable, readPhases (t.map fun e => byte (phaseCode e)) = some t
  | [] => rfl
  | e :: t => by
    have here : readPhase (byte (phaseCode e)) = some e := by
      cases e with
      | none => rfl
      | some p => cases p <;> rfl
    rw [List.map_cons, readPhases, here, readPhases_codes t]

section
variable {n : Byte} {entries : List Byte} (s : State)

theorem phaseWriteCheck_count (h : n.toNat < 1 ∨ 32 < n.toNat) :
    phaseWriteCheck (n :: entries) s = .error .badParam := by
  have outside : within 1 32 n.toNat = false := Bool.eq_false_iff.2 (mt (within_iff 1 32 _).1 (by omega))
  simp [phaseWriteCheck, outside]

variable (low : 1 ≤ n.toNat) (high : n.toNat ≤ 32)

include low high

theorem phaseWriteCheck_length (wrong : entries.length ≠ n.toNat) :
    phaseWriteCheck (n :: entries) s = .error .badLength := by
  have wrong' : ¬entries.length + 1 = 1 + n.toNat := by omega
  simp [phaseWriteCheck, (within_iff 1 32 _).2 ⟨low, high⟩, wrong']

theorem phaseWriteCheck_read (right : entries.length = n.toNat) : phaseWriteCheck (n :: entries) s =
    (readPhases entries).elim (.error .badParam) fun t => if s.load.isSome then .error .busy else .ok t := by
  have right' : entries.length + 1 = 1 + n.toNat := by omega
  cases e : readPhases entries <;> simp [phaseWriteCheck, (within_iff 1 32 _).2 ⟨low, high⟩, right', e]

end

/-! ### The requests -/

section
variable {s : State} (dt : Nat) {tag : Byte} {payload : List Byte}

theorem Offers.blendWrite_refused (o : Offers s .blendWrite tag payload) {status : Status}
    (k : blendWriteCheck payload (s.elapse dt) = .error status) : Answers (.blendWrite dt) s (s.elapse dt) tag status [] :=
  o.answers_error (rule := blendWriteRule) rfl k

theorem Offers.feedWrite_refused (o : Offers s .feedWrite tag payload) {status : Status}
    (k : feedWriteCheck payload (s.elapse dt) = .error status) : Answers (.feedWrite dt) s (s.elapse dt) tag status [] :=
  o.answers_error (rule := feedWriteRule) rfl k

theorem Offers.feedWrite_accepted (o : Offers s .feedWrite tag payload) {f : Feed} {v : Nat}
    (k : feedWriteCheck payload (s.elapse dt) = .ok (f, v)) :
    Answers (.feedWrite dt) s ((s.elapse dt).writeFeed f v) tag .ok [] :=
  o.answers_ok (c := .feedWrite dt) (rule := feedWriteRule) rfl k

theorem Offers.phaseWrite_refused (o : Offers s .phaseWrite tag payload) {status : Status}
    (k : phaseWriteCheck payload (s.elapse dt) = .error status) : Answers (.phaseWrite dt) s (s.elapse dt) tag status [] :=
  o.answers_error (rule := phaseWriteRule) rfl k

theorem Offers.phaseLoad_refused (o : Offers s .phaseLoad tag payload) {status : Status}
    (k : phaseLoadRule.check payload (s.elapse dt) = .error status) : Answers (.phaseLoad dt) s (s.elapse dt) tag status [] :=
  o.answers_error (rule := phaseLoadRule) rfl k

end

/-- Settles O48: each refusal is the first check that fails, and with none failing the act of the request. -/
theorem slurrySettings : Obligations.SlurrySettings := by
  intro s dt tag payload now
  refine ⟨fun o => ⟨fun length => o.blendWrite_refused dt (if_pos length), ?_⟩,
    fun o => ⟨fun length => o.feedWrite_refused dt (if_pos length), ?_⟩,
    fun o => ⟨?_, ?_⟩, fun o => ⟨fun nonempty => ?_, ?_, ?_⟩⟩
  · rintro r lo hi a b c rfl bad
    refine ⟨fun outside => o.blendWrite_refused dt (blendWriteCheck_range outside now), fun good i row => ?_⟩
    intro inUse
    have judged := blendWriteCheck_accepts row (mt Or.inr good) now
    have used : now.rowInUse i = true ↔ inUse := rowInUse_iff now i
    refine ⟨fun busy => o.blendWrite_refused dt (judged.trans (if_pos (used.2 busy))), fun free => ?_⟩
    exact o.answers_ok (s := s) (c := .blendWrite dt) (rule := blendWriteRule) rfl (judged.trans (if_neg (mt used.1 free)))
  · rintro n lo hi rfl
    refine ⟨fun bad => o.feedWrite_refused dt (feedWriteCheck_range bad now), fun f number low high => ?_⟩
    have named : Feed.ofNumber n.toNat = some f := by
      rw [number]
      cases f <;> rfl
    have accepted := o.feedWrite_accepted dt (feedWriteCheck_accepts named low high now)
    refine ⟨fun same => ?_, fun new => ⟨_, accepted, ?_, fun p => ?_⟩⟩
    · rwa [writeFeed_same (s := now) same] at accepted
    · rw [writeFeed_new (s := now) new]
      rfl
    · rw [writeFeed_new (s := now) new]
      exact PerPlaten.get_map _ _ p
  · rintro rfl
    exact o.phaseWrite_refused dt rfl
  · rintro n entries rfl
    refine ⟨fun outside => o.phaseWrite_refused dt (phaseWriteCheck_count now outside), fun low high => ?_⟩
    have read := phaseWriteCheck_read (entries := entries) now low high
    refine ⟨fun wrong => o.phaseWrite_refused dt (phaseWriteCheck_length now low high wrong), fun right bad => ?_,
      fun t right spelt => ?_⟩
    · refine o.phaseWrite_refused dt ((read right).trans ?_)
      rw [readPhases_eq_none bad]
      rfl
    · have codes : entries = t.map fun e => byte (phaseCode e) := by
        refine spelt.trans (List.map_congr_left fun e _ => ?_)
        cases e <;> rfl
      have judged : phaseWriteCheck (n :: entries) now = if now.load.isSome then .error .busy else .ok t := by
        rw [read right, codes, readPhases_codes t]
        rfl
      refine ⟨fun loading => o.phaseWrite_refused dt (judged.trans (if_pos (Option.isSome_iff_ne_none.2 loading))),
        fun idle => ?_⟩
      refine o.answers_ok (s := s) (c := .phaseWrite dt) (rule := phaseWriteRule) rfl (judged.trans (if_neg ?_))
      show ¬s.load.isSome = true
      simp [idle]
  · exact o.phaseLoad_refused dt (emptyPayload_length nonempty _)
  · rintro rfl loading
    exact o.phaseLoad_refused dt (if_pos (Option.isSome_iff_ne_none.2 loading))
  · rintro rfl idle
    refine o.answers_ok (s := s) (c := .phaseLoad dt) (rule := phaseLoadRule) (a := ()) rfl (if_neg ?_)
    show ¬s.load.isSome = true
    simp [idle]

end Sys2Proof.Machine

/-! SUPPORT. The moves of the carousel: CAROUSEL-INDEX, its completion and its expiry, and CAROUSEL-SYNC (R144 to R150). -/

namespace Sys2Proof.Machine

theorem emptyPayload_nil (r : Except Status Unit) : emptyPayload [] r = r := by simp [emptyPayload]

/-- An index or a sync is BUSY while a pass is POLISHING or HELD (R144, R150). -/
theorem anyRunning_iff (s : State) :
    s.anyRunning = true ↔ ∃ i r, s.pass i = some r ∧ (r.state = .polishing ∨ r.state = .held) := by
  simp only [State.anyRunning, anyPass_iff, Pass.running_iff]

theorem anySweeping_iff (s : State) : s.anySweeping = true ↔ ∃ p, (s.arms.get p).sweeping = true := by
  refine List.any_eq_true.trans ⟨fun ⟨p, _, on⟩ => ⟨p, on⟩, fun ⟨p, on⟩ => ⟨p, ?_, on⟩⟩
  cases p <;> simp [platens]

/-- The checks of an index behind its length, in their order (R144). -/
theorem indexChecks_eq {s : State} (clear : s.tripLatch = false) : s.indexChecks =
    if s.anyRunning || s.anySweeping then .error .busy
    else if s.carousel.state ≠ .stopped then .error .wrongState else .ok () := by
  simp [State.indexChecks, clear]

/-- The checks of a sync behind its length, in their order (R150). -/
theorem syncChecks_eq {s : State} (clear : s.tripLatch = false) : s.syncChecks =
    if s.carousel.state = .indexing then .error .wrongState
    else if s.anyRunning then .error .busy else .ok () := by
  simp [State.syncChecks, clear]

/-- An accepted sync stops the carousel at the code read, has every pass attempt its start, and answers the offset before and
the code (R150). -/
theorem carouselSyncRule_act (s : State) (code : Fin 4) : (carouselSyncRule code).act () s =
    (State.attemptAll { s with carousel := ⟨.stopped, code, false, none, s.carousel.cdone⟩ },
      [byte s.carousel.k.val, byte code.val]) := rfl

/-- One quarter turn on is one more, modulo four (R146). -/
theorem eq_nextOffset_iff (code k : Fin 4) : code = nextOffset k ↔ code.val = (k.val + 1) % 4 := by
  rw [nextOffset, Fin.ext_iff, Fin.val_add]
  rfl

/-- A completed index stops the carousel at the code, raises CAROUSEL when the code is not one quarter turn on, and has every
pass attempt its start (R146). -/
theorem completeIndex_eq (s : State) (code : Fin 4) : s.completeIndex code =
    State.attemptAll { s with
      carousel := ⟨.stopped, code, false, none, s.carousel.cdone⟩
      attnPending :=
        if code.val = (s.carousel.k.val + 1) % 4 then s.attnPending else s.attnPending ||| 64#9 } := by
  refine congrArg State.attemptAll ?_
  by_cases on : code = nextOffset s.carousel.k
  · rw [if_pos ((eq_nextOffset_iff _ _).1 on)]
    simp [State.raiseIf, on, State.stopCarousel]
  · rw [if_neg (mt (eq_nextOffset_iff _ _).2 on)]
    simp only [State.raiseIf, on, ne_eq, not_false_eq_true, decide_true, if_true]
    rfl

section
variable {s : State} (dt : Nat) {code : Fin 4} {tag : Byte} {payload : List Byte} {status : Status}

theorem Offers.index_refused (o : Offers s .carouselIndex tag payload)
    (k : emptyPayload payload (s.elapse dt).indexChecks = .error status) :
    Answers (.carouselIndex dt) s (s.elapse dt) tag status [] := o.answers_error (rule := carouselIndexRule) rfl k

theorem Offers.sync_refused (o : Offers s .carouselSync tag payload)
    (k : emptyPayload payload (s.elapse dt).syncChecks = .error status) :
    Answers (.carouselSync dt code) s (s.elapse dt) tag status [] :=
  o.answers_error (rule := carouselSyncRule code) rfl k

end

/-- Settles O51: the two requests by their checks, and the rising edge and the expiry by the state of the carousel. -/
theorem carouselMoves : Obligations.CarouselMoves := by
  intro s dt tag payload code now c runs sweeps
  have running : now.anyRunning = true ↔ runs := anyRunning_iff now
  have sweeping : now.anySweeping = true ↔ sweeps := anySweeping_iff now
  have edge (low : c.cdone = false) : exec (.carouselIndexCompletion dt code) s = .next ((now.setCdone true).cdoneRises code) :=
    congrArg Host.Outcome.next (if_neg (by simp [low, c] : ¬s.carousel.cdone = true))
  refine ⟨fun o => ⟨fun nonempty => o.index_refused dt (emptyPayload_length nonempty _), ?_⟩, fun high => ?_,
    fun low still => ?_, fun low moving => ?_, fun stopped => ?_, fun moment due => ?_,
    fun o => ⟨fun nonempty => o.sync_refused dt (emptyPayload_length nonempty _), ?_⟩⟩
  · rintro rfl
    have refused {status : Status} (k : now.indexChecks = .error status) := o.index_refused dt ((emptyPayload_nil _).trans k)
    refine ⟨fun latched => refused (if_pos latched), fun clear => ?_⟩
    have checks := indexChecks_eq (s := now) clear
    have busy : (now.anyRunning || now.anySweeping) = true ↔ runs ∨ sweeps := by
      rw [Bool.or_eq_true, running, sweeping]
    refine ⟨fun turning => refused (checks.trans (if_pos (busy.2 turning))), fun idle => ?_⟩
    have checks := checks.trans (if_neg (mt busy.1 idle))
    refine ⟨fun wrong => refused (checks.trans (if_pos wrong)), fun stands => ?_⟩
    have passes : carouselIndexRule.check [] now = .ok () :=
      (emptyPayload_nil _).trans (checks.trans (if_neg (not_not.2 stands)))
    exact o.answers_ok (s := s) (c := .carouselIndex dt) rfl passes
  · exact congrArg Host.Outcome.next (if_pos high)
  · exact (edge low).trans (congrArg Host.Outcome.next (if_neg still))
  · exact (edge low).trans (congrArg Host.Outcome.next ((if_pos moving).trans (completeIndex_eq (now.setCdone true) code)))
  · have none : s.carousel.timer = none := stopped
    show Host.Outcome.next _ = _
    rw [none]
  · have due : s.carousel.timer = some moment := due
    show Host.Outcome.next _ = _
    rw [due]
    rfl
  · rintro rfl
    have refused {status : Status} (k : now.syncChecks = .error status) :=
      o.sync_refused (code := code) dt ((emptyPayload_nil _).trans k)
    refine ⟨fun latched => refused (if_pos latched), fun clear => ?_⟩
    have checks := syncChecks_eq (s := now) clear
    refine ⟨fun moving => refused (checks.trans (if_pos moving)), fun still => ?_⟩
    have checks := checks.trans (if_neg still)
    refine ⟨fun busy => refused (checks.trans (if_pos (running.2 busy))), fun idle => ?_⟩
    have passes : (carouselSyncRule code).check [] now = .ok () :=
      (emptyPayload_nil _).trans (checks.trans (if_neg (mt running.1 idle)))
    have answered := o.answers_ok (s := s) (dt := dt) (c := .carouselSync dt code) rfl passes
    simp only [carouselSyncRule_act] at answered
    exact answered

end Sys2Proof.Machine

/-! SUPPORT. What the settings image holds, and that a load reads back exactly the settings it holds (R181, R182). -/

namespace Sys2Proof.Machine

/-! ### Fields at their offsets (R182) -/

/-- The five bytes from an offset on hold a blend row (R109, R182). -/
def BlendRow.storedAt (bytes : List Byte) (o : Nat) (r : BlendRow) : Prop :=
  field bytes o 2 = r.flow ∧ field bytes (o + 2) 1 = r.partA ∧ field bytes (o + 3) 1 = r.partB ∧
    field bytes (o + 4) 1 = r.partC

/-- The four bytes from an offset on hold a segment (R139, R182). -/
def Segment.storedAt (bytes : List Byte) (o : Nat) (g : Segment) : Prop :=
  field bytes o 2 = g.dwell ∧ field bytes (o + 2) 2 = g.force

/-- The bytes from an offset on hold a profile: its count and its segments (R139, R182). -/
def profileStoredAt (bytes : List Byte) (o : Nat) (pr : Profile) : Prop :=
  field bytes o 1 = pr.length ∧ ∀ n g, pr[n]? = some g → Segment.storedAt bytes (o + 1 + 4 * n) g

/-- The bytes from an offset on hold a phase table's entries (R118, R182). -/
def phasesStoredAt (bytes : List Byte) (o : Nat) (t : PhaseTable) : Prop :=
  ∀ n e, t[n]? = some e → field bytes (o + n) 1 = phaseCode e

/-- The three bytes from an offset on hold glaze settings (R140, R182). -/
def GlazeSettings.storedAt (bytes : List Byte) (o : Nat) (g : GlazeSettings) : Prop :=
  field bytes o 1 = g.rate ∧ field bytes (o + 1) 2 = g.floor

section
variable {bytes : List Byte} {o : Nat}

/-! ### A reader reads what stands at its offset -/

theorem readHeadSettings_drop {x : HeadSettings} :
    readHeadSettings (bytes.drop o) = some x ↔ x.inRange = true ∧ x.storedAt bytes o := by
  have moved : x.storedAt (bytes.drop o) 0 ↔ x.storedAt bytes o := by
    simp only [HeadSettings.storedAt, field_drop, Nat.zero_add, Nat.add_zero, Nat.add_assoc]
  refine ⟨fun h => ⟨readHeadSettings_inRange h, moved.1 ?_⟩, fun ⟨ok, stored⟩ => ?_⟩
  · unfold readHeadSettings at h
    dsimp only at h
    split at h
    · cases h
      refine ⟨rfl, rfl, rfl, rfl, fun i c order => ?_⟩
      match i, order with
      | 0, rfl | 1, rfl | 2, rfl | 3, rfl | 4, rfl => exact ⟨rfl, rfl, rfl, rfl⟩
    · cases h
  · rw [readHeadSettings_of_storedAt (moved.2 stored)]
    exact if_pos ok

theorem readRow_drop {r : BlendRow} :
    readRow (bytes.drop o) = some r ↔ r.inRange = true ∧ r.storedAt bytes o := by
  unfold readRow
  simp only [field_drop, Nat.add_zero]
  refine ⟨fun h => ?_, fun ⟨ok, flow, a, b, c⟩ => ?_⟩
  · split at h
    · rename_i ok
      cases h
      exact ⟨ok, rfl, rfl, rfl, rfl⟩
    · cases h
  · rw [flow, a, b, c]
    exact if_pos ok

theorem readGlaze_drop {g : GlazeSettings} :
    readGlaze (bytes.drop o) = some g ↔ g.floor ≤ 4096 ∧ g.storedAt bytes o := by
  unfold readGlaze
  simp only [field_drop, Nat.add_zero]
  refine ⟨fun h => ?_, fun ⟨ok, rate, floor⟩ => ?_⟩
  · split at h
    · rename_i ok
      cases h
      exact ⟨((within_iff _ _ _).1 ok).2, rfl, rfl⟩
    · cases h
  · rw [rate, floor]
    exact if_pos ((within_iff _ _ _).2 ⟨Nat.zero_le _, ok⟩)

/-! ### Blocks of one length -/

/-- `n` blocks of `m` bytes each, each read by one reader. -/
def readBlocks {α : Type} (read : List Byte → Option α) (m : Nat) : Nat → List Byte → Option (List α)
  | 0, _ => some []
  | n + 1, bs => (read bs).bind fun x => (readBlocks read m n (bs.drop m)).map (x :: ·)

theorem readBlocks_eq_some_iff {α : Type} {read : List Byte → Option α} {m : Nat} : ∀ {n : Nat} {o : Nat} {l : List α},
    readBlocks read m n (bytes.drop o) = some l ↔
      l.length = n ∧ ∀ (i : Nat) x, l[i]? = some x → read (bytes.drop (o + m * i)) = some x
  | 0, o, l => by
    refine ⟨fun h => ?_, fun ⟨empty, _⟩ => by rw [List.length_eq_zero_iff.1 empty]; rfl⟩
    cases h
    exact ⟨rfl, fun i x h => nomatch h⟩
  | n + 1, o, l => by
    have step (i : Nat) : o + m + m * i = o + m * (i + 1) := by rw [Nat.mul_succ]; omega
    simp only [readBlocks, Option.bind_eq_some_iff, Option.map_eq_some_iff, List.drop_drop, readBlocks_eq_some_iff, step]
    constructor
    · rintro ⟨x, first, rest, ⟨count, others⟩, rfl⟩
      refine ⟨congrArg (· + 1) count, fun i y here => ?_⟩
      cases i with
      | zero =>
        cases here
        exact first
      | succ i => exact others i y here
    · rintro ⟨count, all⟩
      cases l with
      | nil => cases count
      | cons x rest => exact ⟨x, all 0 x rfl, rest, ⟨Nat.succ.inj count, fun i y here => all (i + 1) y here⟩, rfl⟩

theorem readRows_eq_blocks : ∀ (n : Nat) (bs : List Byte), readRows n bs = readBlocks readRow 5 n bs
  | 0, _ => rfl
  | n + 1, bs => by
    rw [readRows, readBlocks, readRows_eq_blocks n]
    cases readRow bs <;> cases readBlocks readRow 5 n (bs.drop 5) <;> rfl

/-- The segment four bytes spell, when it is in range (R139). -/
def readSegment (bs : List Byte) : Option Segment :=
  if Segment.inRange ⟨field bs 0 2, field bs 2 2⟩ then some ⟨field bs 0 2, field bs 2 2⟩ else none

theorem readSegments_eq_blocks : ∀ (n : Nat) (bs : List Byte), readSegments n bs = readBlocks readSegment 4 n bs
  | 0, _ => rfl
  | n + 1, bs => by
    rw [readSegments, readBlocks, readSegments_eq_blocks n, readSegment]
    cases readBlocks readSegment 4 n (bs.drop 4) <;> cases Segment.inRange ⟨field bs 0 2, field bs 2 2⟩ <;> rfl

/-- The profile that 41 bytes spell (R182). -/
def readProfile (bs : List Byte) : Option Profile :=
  if within 1 10 (field bs 0 1) then readSegments (field bs 0 1) (bs.drop 1) else none

theorem readProfiles_eq_blocks : ∀ (n : Nat) (bs : List Byte), readProfiles n bs = readBlocks readProfile 41 n bs
  | 0, _ => rfl
  | n + 1, bs => by
    rw [readProfiles, readBlocks, readProfiles_eq_blocks n, readProfile]
    cases within 1 10 (field bs 0 1) <;> cases readSegments (field bs 0 1) (bs.drop 1) <;>
      cases readBlocks readProfile 41 n (bs.drop 41) <;> rfl

theorem readSegment_drop {g : Segment} :
    readSegment (bytes.drop o) = some g ↔ g.inRange = true ∧ g.storedAt bytes o := by
  unfold readSegment
  simp only [field_drop, Nat.add_zero]
  refine ⟨fun h => ?_, fun ⟨ok, dwell, force⟩ => ?_⟩
  · split at h
    · rename_i ok
      cases h
      exact ⟨ok, rfl, rfl⟩
    · cases h
  · rw [dwell, force]
    exact if_pos ok

theorem readProfile_drop {pr : Profile} :
    readProfile (bytes.drop o) = some pr ↔ profileFits pr ∧ profileStoredAt bytes o pr := by
  have read : readSegments (field bytes o 1) (bytes.drop (o + 1)) = some pr ↔ pr.length = field bytes o 1 ∧
      ∀ (n : Nat) g, pr[n]? = some g → g.inRange = true ∧ g.storedAt bytes (o + 1 + 4 * n) := by
    rw [readSegments_eq_blocks, readBlocks_eq_some_iff]
    simp only [readSegment_drop]
  unfold readProfile
  rw [field_drop, List.drop_drop, Nat.add_zero]
  constructor
  · intro h
    split at h
    · rename_i count
      exact ⟨readSegments_fits count h, (read.1 h).1.symm, fun n g here => ((read.1 h).2 n g here).2⟩
    · cases h
  · rintro ⟨⟨low, high, all⟩, count, stored⟩
    rw [if_pos ((within_iff 1 10 _).2 (by omega))]
    exact read.2 ⟨count.symm, fun n g here => ⟨all g (List.mem_of_getElem? here), stored n g here⟩⟩

/-! ### The phase table (R118, R182) -/

theorem readPhase_eq_some_iff {b : Byte} {e : Option Platen} : readPhase b = some e ↔ b.toNat = phaseCode e := by
  constructor
  · intro h
    unfold readPhase at h
    split at h
    · cases h
      assumption
    · cases h
      assumption
    · cases h
      assumption
    · cases h
      assumption
    · cases h
  · intro h
    unfold readPhase
    cases e with
    | none => simp [h, phaseCode]
    | some p => cases p <;> simp [h, phaseCode, Platen.number]

theorem readPhases_eq_some_iff : ∀ {bs : List Byte} {t : PhaseTable},
    readPhases bs = some t ↔ t.length = bs.length ∧ phasesStoredAt bs 0 t
  | [], t => by
    refine ⟨fun h => ?_, fun ⟨empty, _⟩ => by rw [List.length_eq_zero_iff.1 empty]; rfl⟩
    cases h
    exact ⟨rfl, fun _ _ h => nomatch h⟩
  | b :: bs, t => by
    have first : field (b :: bs) 0 1 = b.toNat := field_cons_one b bs
    constructor
    · intro h
      unfold readPhases at h
      split at h
      · rename_i e rest head more
        cases h
        obtain ⟨count, stored⟩ := readPhases_eq_some_iff.1 more
        refine ⟨congrArg (· + 1) count, fun n x here => ?_⟩
        cases n with
        | zero =>
          cases here
          exact first.trans (readPhase_eq_some_iff.1 head)
        | succ n =>
          have later := stored n x here
          rwa [Nat.zero_add] at later ⊢
      · cases h
    · rintro ⟨count, stored⟩
      cases t with
      | nil => cases count
      | cons e rest =>
        have head : readPhase b = some e := readPhase_eq_some_iff.2 (first.symm.trans (stored 0 e rfl))
        have more : readPhases bs = some rest := readPhases_eq_some_iff.2 ⟨Nat.succ.inj count, fun n x here => by
          have later := stored (n + 1) x here
          rwa [Nat.zero_add] at later ⊢⟩
        rw [readPhases, head, more]

theorem readPhaseTable_drop {t : PhaseTable} (room : o + 33 ≤ bytes.length) :
    readPhaseTable (bytes.drop o) = some t ↔
      phasesFit t ∧ field bytes o 1 = t.length ∧ phasesStoredAt bytes (o + 1) t := by
  have read : field bytes o 1 ≤ 32 → (readPhases ((bytes.drop (o + 1)).take (field bytes o 1)) = some t ↔
      t.length = field bytes o 1 ∧ phasesStoredAt bytes (o + 1) t) := by
    intro few
    rw [readPhases_eq_some_iff, List.length_take, List.length_drop, min_eq_left (by omega)]
    refine and_congr_right fun count => forall_congr' fun n => forall_congr' fun e => imp_congr_right fun here => ?_
    have inside := (List.getElem?_eq_some_iff.1 here).1
    rw [field_take _ _ _ _ (by omega), field_drop, Nat.zero_add]
  unfold readPhaseTable
  simp only [field_drop, List.drop_drop, Nat.add_zero]
  constructor
  · intro h
    split at h
    · rename_i count
      obtain ⟨low, high⟩ := (within_iff 1 32 _).1 count
      obtain ⟨length, stored⟩ := (read high).1 h
      exact ⟨⟨by omega, by omega⟩, length.symm, stored⟩
    · cases h
  · rintro ⟨⟨low, high⟩, count, stored⟩
    rw [if_pos ((within_iff 1 32 _).2 (by omega))]
    exact (read (by omega)).2 ⟨count.symm, stored⟩

/-! ### The other parts of the body (R181, R182) -/

theorem readHeads_drop {x : PerHead HeadSettings} : readHeads (bytes.drop o) = some x ↔
    ∀ h : Head, (x.get h).inRange = true ∧ (x.get h).storedAt bytes (o + 42 * h.number) := by
  simp only [← readHeadSettings_drop]
  unfold readHeads
  rw [List.drop_drop, List.drop_drop, List.drop_drop]
  constructor
  · intro h k
    split at h
    · rename_i a b c d ha hb hc hd
      cases h
      cases k
      · exact ha
      · exact hb
      · exact hc
      · exact hd
    · cases h
  · intro all
    have h0 := all .h0
    have h1 := all .h1
    have h2 := all .h2
    have h3 := all .h3
    simp only [Head.number, Nat.mul_zero, Nat.add_zero, Nat.reduceMul, PerHead.get] at h0 h1 h2 h3
    rw [h0, h1, h2, h3]

theorem readGlazes_drop {x : PerPlaten GlazeSettings} : readGlazes (bytes.drop o) = some x ↔
    ∀ p : Platen, (x.get p).floor ≤ 4096 ∧ (x.get p).storedAt bytes (o + 3 * p.number) := by
  simp only [← readGlaze_drop]
  unfold readGlazes
  rw [List.drop_drop, List.drop_drop]
  constructor
  · intro h p
    split at h
    · rename_i a b c ha hb hc
      cases h
      cases p
      · exact ha
      · exact hb
      · exact hc
    · cases h
  · intro all
    have h0 := all .p0
    have h1 := all .p1
    have h2 := all .p2
    simp only [Platen.number, Nat.mul_zero, Nat.add_zero, Nat.reduceMul, PerPlaten.get] at h0 h1 h2
    rw [h0, h1, h2]

theorem readVolumes_drop {v : PerFeed Nat} : readVolumes (bytes.drop o) = some v ↔
    (∀ f, 10 ≤ v.get f ∧ v.get f ≤ 2000) ∧
      field bytes o 2 = v.a ∧ field bytes (o + 2) 2 = v.b ∧ field bytes (o + 4) 2 = v.c := by
  constructor
  · intro h
    refine ⟨readVolumes_fits h, ?_⟩
    unfold readVolumes at h
    simp only [field_drop, Nat.add_zero] at h
    split at h
    · cases h
      exact ⟨rfl, rfl, rfl⟩
    · cases h
  · rintro ⟨range, a, b, c⟩
    unfold readVolumes
    simp only [field_drop, Nat.add_zero, a, b, c]
    refine if_pos ?_
    simp only [Bool.and_eq_true, volumeInRange_iff]
    exact ⟨⟨range .a, range .b⟩, range .c⟩

end

theorem readMask_drop {bytes : List Byte} {o : Nat} {m : CauseSet} :
    readMask (bytes.drop o) = some m ↔ field bytes o 2 = m.toNat := by
  unfold readMask
  rw [field_drop, Nat.add_zero]
  constructor
  · intro h
    split at h
    · rename_i low
      cases h
      exact (Nat.mod_eq_of_lt low).symm
    · cases h
  · intro spelt
    rw [spelt, if_pos m.isLt, BitVec.ofNat_toNat, BitVec.setWidth_eq]

end Sys2Proof.Machine

/-! SUPPORT. The load: an image holds settings exactly when it is read as them (R180 to R182). -/

namespace Sys2Proof.Machine

/-! ### The settings of a state as an image stores them -/

/-- The settings an image stores of a state (R181, R182). -/
def State.stored (u : State) : StoredSettings :=
  { heads := u.headSettings, rows := u.rows.toList, phases := u.staged
    volumes := ⟨u.feeds.a.volume, u.feeds.b.volume, u.feeds.c.volume⟩, profiles := u.profiles.toList
    glaze := u.glazeSettings, mask := u.attnMask }

theorem readBody_eq_some_iff {body : List Byte} {x : StoredSettings} : readBody body = some x ↔
    readHeads body = some x.heads ∧ readRows 8 (body.drop 168) = some x.rows ∧
      readPhaseTable (body.drop 208) = some x.phases ∧ readVolumes (body.drop 241) = some x.volumes ∧
      readProfiles 4 (body.drop 247) = some x.profiles ∧ readGlazes (body.drop 411) = some x.glaze ∧
      readMask (body.drop 420) = some x.mask := by
  unfold readBody
  constructor
  · intro h
    split at h
    · rename_i heads rows phases volumes profiles glaze mask
      cases h
      exact ⟨heads, rows, phases, volumes, profiles, glaze, mask⟩
    · cases h
  · rintro ⟨heads, rows, phases, volumes, profiles, glaze, mask⟩
    simp only [bodyOffset, Nat.reduceSub, heads, rows, phases, volumes, profiles, glaze, mask]

/-- A table's entries in order, told by the slots. -/
theorem forall_getElem?_toList {α : Type} {n : Nat} (t : Vector α n) (P : Nat → α → Prop) :
    (∀ (i : Nat) x, t.toList[i]? = some x → P i x) ↔ ∀ i : Fin n, P i.val (slotAt t i) := by
  refine ⟨fun h i => h _ _ (getElem?_toList_slotAt t i), fun h i x here => ?_⟩
  have inside : i < n := by simpa using (List.getElem?_eq_some_iff.1 here).1
  have same : some (slotAt t ⟨i, inside⟩) = some x := (getElem?_toList_slotAt t ⟨i, inside⟩).symm.trans here
  exact Option.some.inj same ▸ h ⟨i, inside⟩

/-- An image holds a state's settings when each part of them stands at its offset. -/
theorem storedIn_iff {u : State} {bytes : List Byte} : u.storedIn bytes ↔
    (∀ h : Head, (u.headSettings.get h).storedAt bytes (5 + 42 * h.number)) ∧
      (∀ r : Fin 8, (u.row r).storedAt bytes (173 + 5 * r.val)) ∧
      field bytes 213 1 = u.staged.length ∧ phasesStoredAt bytes 214 u.staged ∧
      field bytes 246 2 = u.feeds.a.volume ∧ field bytes 248 2 = u.feeds.b.volume ∧
      field bytes 250 2 = u.feeds.c.volume ∧ (∀ q : Fin 4, profileStoredAt bytes (252 + 41 * q.val) (u.profile q)) ∧
      (∀ p : Platen, (u.glazeSettings.get p).storedAt bytes (416 + 3 * p.number)) ∧
      field bytes 425 2 = u.attnMask.toNat := by
  have row (r : Fin 8) : (u.row r).storedAt bytes (173 + 5 * r.val) ↔
      field bytes (173 + 5 * r.val) 2 = (u.row r).flow ∧ field bytes (175 + 5 * r.val) 1 = (u.row r).partA ∧
        field bytes (176 + 5 * r.val) 1 = (u.row r).partB ∧ field bytes (177 + 5 * r.val) 1 = (u.row r).partC := by
    rw [BlendRow.storedAt, show 173 + 5 * r.val + 2 = 175 + 5 * r.val by omega,
      show 173 + 5 * r.val + 3 = 176 + 5 * r.val by omega, show 173 + 5 * r.val + 4 = 177 + 5 * r.val by omega]
  have phases : phasesStoredAt bytes 214 u.staged ↔ ∀ (n : Nat) e, u.staged[n]? = some e →
      field bytes (214 + n) 1 = (match e with | some p => p.number | none => 3) := by
    refine forall_congr' fun n => forall_congr' fun e => imp_congr_right fun _ => ?_
    cases e <;> rfl
  have profile (q : Fin 4) : profileStoredAt bytes (252 + 41 * q.val) (u.profile q) ↔
      field bytes (252 + 41 * q.val) 1 = (u.profile q).length ∧ ∀ (n : Nat) g, (u.profile q)[n]? = some g →
        field bytes (253 + 41 * q.val + 4 * n) 2 = g.dwell ∧ field bytes (255 + 41 * q.val + 4 * n) 2 = g.force := by
    refine and_congr_right fun _ => forall_congr' fun n => forall_congr' fun g => imp_congr_right fun _ => ?_
    rw [Segment.storedAt, show 252 + 41 * q.val + 1 + 4 * n = 253 + 41 * q.val + 4 * n by omega,
      show 253 + 41 * q.val + 4 * n + 2 = 255 + 41 * q.val + 4 * n by omega]
  have glaze (p : Platen) : (u.glazeSettings.get p).storedAt bytes (416 + 3 * p.number) ↔
      field bytes (416 + 3 * p.number) 1 = (u.glazeSettings.get p).rate ∧
        field bytes (417 + 3 * p.number) 2 = (u.glazeSettings.get p).floor := by
    rw [GlazeSettings.storedAt, show 416 + 3 * p.number + 1 = 417 + 3 * p.number by omega]
  simp only [row, phases, profile, glaze]
  rfl

/-- A body is read as a state's settings exactly when they are in range and it holds them. -/
theorem readBody_stored_iff {u : State} {bytes : List Byte} (length : bytes.length = 427) :
    readBody (bytes.drop 5) = some u.stored ↔ u.settingsWf ∧ phasesFit u.staged ∧ u.storedIn bytes := by
  have rows : readRows 8 (bytes.drop 173) = some u.rows.toList ↔
      ∀ r : Fin 8, (u.row r).inRange = true ∧ (u.row r).storedAt bytes (173 + 5 * r.val) := by
    rw [readRows_eq_blocks, readBlocks_eq_some_iff]
    simp only [readRow_drop, forall_getElem?_toList u.rows fun i r => r.inRange = true ∧ r.storedAt bytes (173 + 5 * i),
      Vector.length_toList, true_and]
    rfl
  have profiles : readProfiles 4 (bytes.drop 252) = some u.profiles.toList ↔
      ∀ q : Fin 4, profileFits (u.profile q) ∧ profileStoredAt bytes (252 + 41 * q.val) (u.profile q) := by
    rw [readProfiles_eq_blocks, readBlocks_eq_some_iff]
    simp only [readProfile_drop,
      forall_getElem?_toList u.profiles fun i pr => profileFits pr ∧ profileStoredAt bytes (252 + 41 * i) pr,
      Vector.length_toList, true_and]
    rfl
  have phases := readPhaseTable_drop (t := u.staged) (o := 213) (bytes := bytes) (by omega)
  have volume (f : Feed) :
      (⟨u.feeds.a.volume, u.feeds.b.volume, u.feeds.c.volume⟩ : PerFeed Nat).get f = (u.feeds.get f).volume := by
    cases f <;> rfl
  rw [readBody_eq_some_iff, storedIn_iff]
  simp only [List.drop_drop, Nat.reduceAdd, State.stored, readHeads_drop, rows, phases, readVolumes_drop, volume,
    profiles, readGlazes_drop, readMask_drop, forall_and]
  constructor
  · rintro ⟨⟨hh, sh⟩, ⟨hr, sr⟩, ⟨hf, hn, ht⟩, ⟨hv, ha, hb, hc⟩, ⟨hp, sp⟩, ⟨hg, sg⟩, hm⟩
    refine ⟨⟨hh, fun r => ?_, fun f => ⟨hv.1 f, hv.2 f⟩, hp, fun p => ?_⟩, hf, sh, sr, hn, ht, ha, hb, hc, sp, sg, hm⟩
    · obtain ⟨-, a, b, c⟩ := sr r
      exact ⟨hr r, a ▸ field_one_le _ _, b ▸ field_one_le _ _, c ▸ field_one_le _ _⟩
    · exact ⟨(sg p).1 ▸ field_one_le _ _, hg p⟩
  · rintro ⟨⟨hh, hr, hv, hp, hg⟩, hf, sh, sr, hn, ht, ha, hb, hc, sp, sg, hm⟩
    exact ⟨⟨hh, sh⟩, ⟨fun r => (hr r).1, sr⟩, ⟨hf, hn, ht⟩, ⟨⟨fun f => (hv f).1, fun f => (hv f).2⟩, ha, hb, hc⟩, ⟨hp, sp⟩,
      ⟨fun p => (hg p).2, sg⟩, hm⟩

/-! ### Applying the settings of a state -/

theorem ofFn_getD_toList {α : Type} {n : Nat} (t : Vector α n) (d : α) :
    (Vector.ofFn fun i : Fin n => t.toList.getD i.val d) = t := by
  apply Vector.ext
  intro i inside
  rw [Vector.getElem_ofFn, List.getD_eq_getElem?_getD, Vector.getElem?_toList, Vector.getElem?_eq_getElem inside]
  rfl

theorem toList_ofFn_getD {α : Type} {n : Nat} (l : List α) (d : α) (length : l.length = n) :
    (Vector.ofFn fun i : Fin n => l.getD i.val d).toList = l := by
  apply List.ext_getElem?
  intro i
  rw [Vector.getElem?_toList]
  by_cases inside : i < n
  · rw [Vector.getElem?_eq_getElem inside, Vector.getElem_ofFn, List.getD_eq_getElem?_getD,
      List.getElem?_eq_getElem (by omega)]
    rfl
  · rw [Vector.getElem?_eq_none (by omega), List.getElem?_eq_none (by omega)]

theorem length_readBlocks {α : Type} {read : List Byte → Option α} {m n : Nat} {bs : List Byte} {l : List α}
    (h : readBlocks read m n bs = some l) : l.length = n := (readBlocks_eq_some_iff (o := 0).1 h).1

/-- Settings that a body spells are those of a state they are applied to. -/
theorem stored_applySettings {body : List Byte} {x : StoredSettings} (read : readBody body = some x) (s : State) :
    (s.applySettings x).stored = x := by
  obtain ⟨-, rows, -, -, profiles, -, -⟩ := readBody_eq_some_iff.1 read
  have rows' := toList_ofFn_getD x.rows BlendRow.default (length_readBlocks ((readRows_eq_blocks _ _).symm.trans rows))
  have profiles' := toList_ofFn_getD x.profiles defaultProfile
    (length_readBlocks ((readProfiles_eq_blocks _ _).symm.trans profiles))
  simp only [State.stored, State.applySettings, rows', profiles']
  rfl

/-- A part made READY with the settings of a state, and nothing else of that state (R121, R181). -/
theorem applied_stored (s u : State) (pending : CauseSet) (defaulted : Bool) :
    AppliedSettings s u
      { s.applySettings u.stored with startUp := .ready, attnPending := pending, defaulted := defaulted } := by
  refine ⟨?_, fun f => ?_⟩
  · simp only [State.applySettings, State.stored, ofFn_getD_toList]
  · cases f <;> rfl

theorem stored_reset : State.reset.stored = StoredSettings.default := rfl

/-! ### The load (R180, R181) -/

/-- The checks of an image before its fields, in order (R181). -/
theorem judgeImage_eq (nack : Option Nat) (bytes : List Byte) : judgeImage nack bytes =
    if (∀ n, nack = some n → 427 ≤ n) ∧ field bytes 2 1 = 1 ∧ field bytes 0 2 = 422 ∧
      field bytes 3 2 = ((bytes.drop 5).map BitVec.toNat).sum % 65536 then readBody (bytes.drop 5) else none := by
  have acknowledged : allAcknowledged nack = true ↔ ∀ n, nack = some n → 427 ≤ n := by
    cases nack with
    | none => simp [allAcknowledged]
    | some n => exact decide_eq_true_iff.trans (by simp [imageBytes])
  refine if_congr ?_ rfl rfl
  simp only [Bool.and_eq_true, decide_eq_true_iff, acknowledged, and_assoc]
  rfl

theorem readCells_unique {bytes : List Byte} {cells : List Host.Cell} {n : Nat} (length : bytes.length = n)
    (read : ∀ a, a < n → bytes[a]? = some (readCell a cells)) : readCells 0 n cells = bytes := by
  apply List.ext_getElem?
  intro a
  rw [getElem?_readCells]
  by_cases inside : a < n
  · rw [if_pos inside, read a inside, Nat.zero_add]
  · rw [if_neg inside, List.getElem?_eq_none (by omega)]

theorem endLoad_good {s : State} {nack : Option Nat} {x : StoredSettings}
    (judged : judgeImage nack (readCells 0 427 s.eeprom) = some x) :
    s.endLoad nack = { s.applySettings x with startUp := .ready } := by
  have judged : judgeImage nack (readCells 0 imageBytes s.eeprom) = some x := judged
  rw [State.endLoad, judged]

theorem endLoad_bad {s : State} {nack : Option Nat} (judged : judgeImage nack (readCells 0 427 s.eeprom) = none) :
    s.endLoad nack =
      { s.applySettings StoredSettings.default with startUp := .ready, defaulted := true }.raise .settings := by
  have judged : judgeImage nack (readCells 0 imageBytes s.eeprom) = none := judged
  rw [State.endLoad, judged]

/-- Settles O52: the image that passes every check is read as the settings it holds, and one that fails a check not at all. -/
theorem settingsLoadActs : Obligations.SettingsLoadActs := by
  intro s dt nack bytes length read now header
  have cells : readCells 0 427 now.eeprom = bytes := readCells_unique length read
  have load (loading : s.startUp = .loading) : exec (.settingsLoad dt nack) s = .next (now.endLoad nack) :=
    congrArg Host.Outcome.next (if_pos loading)
  have judge := judgeImage_eq nack bytes
  refine ⟨fun ready => congrArg Host.Outcome.next (if_neg ?_), fun loading => ⟨fun u good w fits stored => ?_, fun bad => ?_⟩⟩
  · rw [ready]
    decide
  · have body := (readBody_stored_iff (u := u) length).2 ⟨w, fits, stored⟩
    have judged : judgeImage nack (readCells 0 427 now.eeprom) = some u.stored := by
      rw [cells, judge, if_pos good, body]
    exact ⟨_, (load loading).trans (congrArg Host.Outcome.next (endLoad_good judged)),
      applied_stored now u now.attnPending now.defaulted, rfl, rfl, rfl⟩
  · have judged : judgeImage nack (readCells 0 427 now.eeprom) = none := by
      rw [cells, judge]
      refine (ite_eq_right_iff).2 fun good => Option.eq_none_iff_forall_ne_some.2 fun x body => bad ⟨good, ?_⟩
      have stored := stored_applySettings body State.reset
      exact ⟨_, (readBody_stored_iff length).1 (body.trans (congrArg some stored.symm))⟩
    refine ⟨_, (load loading).trans (congrArg Host.Outcome.next (endLoad_bad judged)), ?_, rfl, rfl, rfl⟩
    exact applied_stored now State.reset (now.attnPending.add .settings) true

end Sys2Proof.Machine

/-! SUPPORT. The save: the image composed holds the settings as they stand, and what its end leaves in the EEPROM (R182,
R183). -/

namespace Sys2Proof.Machine

/-! ### The parts of an image (R182) -/

/-- The five bytes before the body: the body's length, the version and the checksum (R181, R182). -/
def State.imageHeader (s : State) : List Byte := leBytes 2 bodyLength ++ [byte 1] ++ leBytes 2 (bodySum s.imageBody)

section
variable (s : State)

/-- The settings of the four heads (R182). -/
def State.headsBytes : List Byte := (heads.map fun h => (s.headSettings.get h).bytes).flatten

/-- The phase table's count and its 32 entries (R182). -/
def State.stagedBytes : List Byte := byte s.staged.length :: phaseBytes s.staged

theorem image_eq : s.image = s.imageHeader ++ s.headsBytes ++ s.rowsBytes ++ s.stagedBytes ++ s.volumeBytes ++
    s.profilesBytes ++ (platens.map fun p => (s.glazeSettings.get p).bytes).flatten ++ causeBytes s.attnMask := by
  simp [State.image, State.imageHeader, State.headsBytes, State.stagedBytes, State.imageBody, State.glazeBytes, heads,
    platens, PerHead.get, PerPlaten.get]

theorem image_eq_body : s.image = s.imageHeader ++ s.imageBody := rfl

theorem length_imageHeader : s.imageHeader.length = 5 := by simp [State.imageHeader]

theorem length_headsBytes : s.headsBytes.length = 168 :=
  length_flatten_blocks (fun h => (s.headSettings.get h).length_bytes) _

theorem length_stagedBytes : s.stagedBytes.length = 33 := by simp [State.stagedBytes, length_phaseBytes]

theorem drop_image : s.image.drop 5 = s.imageBody := List.drop_left' (length_imageHeader s)

theorem image_header : field s.image 0 2 = 422 ∧ field s.image 2 1 = 1 ∧
    field s.image 3 2 = ((s.image.drop 5).map BitVec.toNat).sum % 65536 := by
  have length := length_imageHeader s
  rw [drop_image, image_eq_body, field_within _ _ _ _ (by omega), field_within _ _ _ _ (by omega),
    field_within _ _ _ _ (by omega)]
  refine ⟨?_, ?_, ?_⟩
  · simp [State.imageHeader, field_leBytes, bodyLength]
  · simp [State.imageHeader, field_beyond, bodyLength]
  · simp [State.imageHeader, field_beyond, field_leBytes_last, bodySum]

theorem image_head (h : Head) {k n : Nat} (fits : k + n ≤ 42) :
    field s.image (5 + 42 * h.number + k) n = field (s.headSettings.get h).bytes k n := by
  rw [image_eq]
  simp only [List.append_assoc]
  rw [← List.append_assoc]
  exact field_block (fun h => (s.headSettings.get h).length_bytes) _ fits (getElem?_heads h) (length_imageHeader s) rfl

theorem image_row (r : Fin 8) {k n : Nat} (fits : k + n ≤ 5) :
    field s.image (173 + 5 * r.val + k) n = field (s.row r).bytes k n := by
  have before : (s.imageHeader ++ s.headsBytes).length = 173 := by simp [length_imageHeader, length_headsBytes]
  rw [image_eq, List.append_assoc, List.append_assoc, List.append_assoc, List.append_assoc]
  exact field_block BlendRow.length_bytes _ fits (getElem?_toList_slotAt _ r) before rfl

theorem image_staged {k n : Nat} (fits : k + n ≤ 33) : field s.image (213 + k) n = field s.stagedBytes k n := by
  have before : (s.imageHeader ++ s.headsBytes ++ s.rowsBytes).length = 213 := by
    simp [length_imageHeader, length_headsBytes, length_rowsBytes]
  have size := length_stagedBytes s
  rw [image_eq, List.append_assoc, List.append_assoc, List.append_assoc,
    field_within _ _ _ _ (by rw [List.length_append]; omega), field_beyond _ _ _ _ (by omega), before,
    Nat.add_sub_cancel_left]

theorem image_volume {i : Nat} {f : Feed} (order : feedList[i]? = some f) :
    field s.image (246 + 2 * i) 2 = (s.feeds.get f).volume % 65536 := by
  have before : (s.imageHeader ++ s.headsBytes ++ s.rowsBytes ++ s.stagedBytes).length = 246 := by
    simp [length_imageHeader, length_headsBytes, length_rowsBytes, length_stagedBytes]
  rw [image_eq, List.append_assoc, List.append_assoc, volumeBytes_eq]
  exact (field_block (fun _ => length_leBytes 2 _) _ (Nat.le_refl (0 + 2)) order before rfl).trans (field_leBytes_last 2 _)

theorem image_profile (q : Fin 4) {k n : Nat} (fits : k + n ≤ 41) :
    field s.image (252 + 41 * q.val + k) n = field (profileBytes (s.profile q)) k n := by
  have before : (s.imageHeader ++ s.headsBytes ++ s.rowsBytes ++ s.stagedBytes ++ s.volumeBytes).length = 252 := by
    simp [length_imageHeader, length_headsBytes, length_rowsBytes, length_stagedBytes, length_volumeBytes]
  rw [image_eq, List.append_assoc]
  exact field_block length_profileBytes _ fits (getElem?_toList_slotAt _ q) before rfl

theorem image_glaze (p : Platen) {k n : Nat} (fits : k + n ≤ 3) :
    field s.image (416 + 3 * p.number + k) n = field (s.glazeSettings.get p).bytes k n := by
  have before : (s.imageHeader ++ s.headsBytes ++ s.rowsBytes ++ s.stagedBytes ++ s.volumeBytes ++
      s.profilesBytes).length = 416 := by
    simp [length_imageHeader, length_headsBytes, length_rowsBytes, length_stagedBytes, length_volumeBytes,
      length_profilesBytes]
  rw [image_eq]
  exact field_block (fun p => (s.glazeSettings.get p).length_bytes) _ fits (getElem?_platens p) before rfl

theorem image_mask : field s.image 425 2 = s.attnMask.toNat := by
  have before : (s.imageHeader ++ s.headsBytes ++ s.rowsBytes ++ s.stagedBytes ++ s.volumeBytes ++ s.profilesBytes ++
      (platens.map fun p => (s.glazeSettings.get p).bytes).flatten).length = 425 := by
    simp only [List.length_append, length_imageHeader, length_headsBytes, length_rowsBytes, length_stagedBytes,
      length_volumeBytes, length_profilesBytes, length_glazeBytes]
  rw [image_eq, field_beyond _ _ _ _ (by omega), before]
  exact (congrArg (field · 0 2) (List.append_nil _).symm).trans (field_causeBytes s.attnMask [])

end

/-! ### The image holds the settings (R182) -/

theorem HeadSettings.fits_of_inRange {x : HeadSettings} (range : x.inRange = true) : x.fits := by
  obtain ⟨deadband, kp, -, pulseMax, -, deadTime, chans⟩ := x.inRange_iff.1 range
  refine ⟨by omega, by omega, by omega, by omega, fun c => ?_⟩
  obtain ⟨low, high, span, zero⟩ := chans c
  omega

theorem GlazeSettings.field_bytes_of_fits {g : GlazeSettings} (fits : g.rate ≤ 255 ∧ g.floor ≤ 4096) :
    field g.bytes 0 1 = g.rate ∧ field g.bytes 1 2 = g.floor := by
  obtain ⟨rate, floor⟩ := g.field_bytes
  exact ⟨rate.trans (Nat.mod_eq_of_lt (by omega)), floor.trans (Nat.mod_eq_of_lt (by omega))⟩

section
variable {s : State} (w : s.settingsWf) (fit : phasesFit s.staged)

include w in
theorem image_storesRow (r : Fin 8) : (s.row r).storedAt s.image (173 + 5 * r.val) := by
  obtain ⟨range, a, b, c⟩ := w.2.1 r
  have flow : (s.row r).flow ≤ 500 := by
    simp only [BlendRow.inRange, Bool.and_eq_true, within_iff] at range
    exact range.1.2
  obtain ⟨f0, f2, f3, f4⟩ := (s.row r).field_bytes
  refine ⟨?_, ?_, ?_, ?_⟩
  · exact (image_row s r (k := 0) (by omega)).trans (f0.trans (Nat.mod_eq_of_lt (by omega)))
  · exact (image_row s r (by omega)).trans (f2.trans (Nat.mod_eq_of_lt (by omega)))
  · exact (image_row s r (by omega)).trans (f3.trans (Nat.mod_eq_of_lt (by omega)))
  · exact (image_row s r (by omega)).trans (f4.trans (Nat.mod_eq_of_lt (by omega)))

include w in
theorem image_storesProfile (q : Fin 4) : profileStoredAt s.image (252 + 41 * q.val) (s.profile q) := by
  obtain ⟨-, -, -, profiles, -⟩ := w
  obtain ⟨-, few, all⟩ := profiles q
  refine ⟨(image_profile s q (k := 0) (by omega)).trans ((profileBytes_count _).trans (Nat.mod_eq_of_lt (by omega))),
    fun n g here => ?_⟩
  have low : n < 10 := by have := (List.getElem?_eq_some_iff.1 here).1; omega
  obtain ⟨-, dwell, force⟩ := g.inRange_iff.1 (all g (List.mem_of_getElem? here))
  obtain ⟨f0, f2⟩ := g.field_bytes
  refine ⟨?_, ?_⟩
  · rw [Nat.add_assoc, Nat.add_assoc, ← Nat.add_assoc, image_profile s q (by omega),
      profileBytes_segment here low (k := 0) (by omega) (by omega), f0, Nat.mod_eq_of_lt (by omega)]
  · rw [show 252 + 41 * q.val + 1 + 4 * n + 2 = 252 + 41 * q.val + (1 + 4 * n + 2) by omega, image_profile s q (by omega),
      profileBytes_segment here low (k := 2) (by omega) (by omega), f2, Nat.mod_eq_of_lt (by omega)]

include w fit

/-- The image of settings in their ranges holds them (R182). -/
theorem image_storedIn : s.storedIn s.image := by
  have row := image_storesRow w
  have profile := image_storesProfile w
  obtain ⟨heads', -, volumes, -, glaze⟩ := w
  obtain ⟨-, few⟩ := fit
  have volume {i : Nat} {f : Feed} (order : feedList[i]? = some f) :
      field s.image (246 + 2 * i) 2 = (s.feeds.get f).volume :=
    (image_volume s order).trans (Nat.mod_eq_of_lt (by have := (volumes f).2; omega))
  refine storedIn_iff.2 ⟨fun h => ?_, row, ?_, fun n e here => ?_, volume (i := 0) rfl, volume (i := 1) rfl,
    volume (i := 2) rfl, profile, fun p => ?_, image_mask s⟩
  · exact HeadSettings.storedAt_of_bytes (HeadSettings.fits_of_inRange (heads' h)) fun k n inside => image_head s h inside
  · rw [image_staged s (k := 0) (by omega), State.stagedBytes, field_cons_one, toNat_byte, Nat.mod_eq_of_lt (by omega)]
  · have inside := (List.getElem?_eq_some_iff.1 here).1
    rw [show 214 + n = 213 + (n + 1) by omega, image_staged s (by omega), State.stagedBytes, field_cons_succ,
      field_phaseBytes _ (by omega), here]
    cases e <;> rfl
  · obtain ⟨rate, floor⟩ := GlazeSettings.field_bytes_of_fits (glaze p)
    exact ⟨(image_glaze s p (k := 0) (by omega)).trans rate, (image_glaze s p (by omega)).trans floor⟩

omit w fit in
theorem image_paddedIn : s.paddedIn s.image := by
  refine ⟨fun n beyond low => ?_, fun q n beyond low => ?_⟩
  · rw [show 214 + n = 213 + (n + 1) by omega, image_staged s (by omega), State.stagedBytes, field_cons_succ,
      field_phaseBytes _ low, List.getElem?_eq_none beyond]
  · have none := List.getElem?_eq_none_iff.2 beyond
    have zero {k place : Nat} (inside : k + 2 ≤ 4) (at' : place = 252 + 41 * q.val + (1 + 4 * n + k)) :
        field s.image place 2 = 0 := by
      rw [at', image_profile s q (by omega)]
      exact profileBytes_beyond none low inside rfl
    exact ⟨zero (k := 0) (by omega) (by omega), zero (k := 2) (by omega) (by omega)⟩

end

/-! ### Beginning and ending a save (R183) -/

theorem writingImage_eq_some_iff {s : State} {image : List Byte} : s.writingImage = some image ↔ s.save = .writing image := by
  unfold State.writingImage
  cases s.save <;> simp

theorem writingImage_eq_none {s : State} (idle : ¬∃ image, s.save = .writing image) : s.writingImage = none :=
  Option.eq_none_iff_forall_ne_some.2 fun image h => idle ⟨image, writingImage_eq_some_iff.1 h⟩

/-- What the end of a save leaves in the EEPROM: the bytes written, and beyond them what stood there (R183). -/
theorem readCell_endSave {s : State} (w : s.storeWf) (written : List Byte) (outcome : SaveState) (a : Nat) :
    readCell a (s.endSave written outcome).eeprom =
      match written[a]? with | some b => b | none => readCell a s.eeprom := by
  have read := readCell_writeCells written 0 s.eeprom w.1 a
  rw [if_pos (Nat.zero_le a), Nat.sub_zero] at read
  exact read

/-- Settles O53: the checks and the image of a save, and its two ends. -/
theorem saveLifecycle : Obligations.SaveLifecycle := by
  intro s dt tag payload written w now writing
  refine ⟨fun o => ⟨fun nonempty => ?_, ?_, ?_⟩, fun idle => ?_, fun image under => ⟨⟨now.endSave image .done, ?_, rfl, fun a => ?_⟩,
    fun part => ⟨now.endSave (image.take written) .failed, ?_, rfl, fun a => ?_⟩⟩⟩
  · exact o.answers_error (rule := settingsSaveRule) rfl (emptyPayload_length nonempty _)
  · rintro rfl ⟨image, under⟩
    refine o.answers_error (rule := settingsSaveRule) rfl ((emptyPayload_nil _).trans (if_pos ?_))
    exact Option.isSome_iff_exists.2 ⟨image, writingImage_eq_some_iff.2 under⟩
  · rintro rfl idle
    have accepted : settingsSaveRule.check [] now = .ok () := by
      refine (emptyPayload_nil _).trans (if_neg ?_)
      rw [show now.writingImage = none from writingImage_eq_none (s := s) idle]
      decide
    obtain ⟨length, version, sum⟩ := image_header s
    exact ⟨s.image, o.answers_ok (s := s) (c := .settingsSave dt) rfl accepted, length_image s, length, version, sum,
      fun w fit => ⟨image_storedIn w fit, image_paddedIn⟩⟩
  · have none := writingImage_eq_none (s := s) idle
    constructor
    · show Host.Outcome.next _ = _
      rw [none]
    · show Host.Outcome.next _ = _
      rw [none]
  · show Host.Outcome.next _ = Host.Outcome.next (now.endSave image .done)
    rw [writingImage_eq_some_iff.2 under]
  · exact (readCell_endSave (s := now) w image .done a).trans rfl
  · show Host.Outcome.next _ = Host.Outcome.next (now.endSave (image.take written) .failed)
    rw [writingImage_eq_some_iff.2 under]
  · refine (readCell_endSave (s := now) w (image.take written) .failed a).trans ?_
    rw [List.getElem?_take]
    by_cases early : a < written <;> cases e : image[a]? <;> simp [early] <;> rfl

/-! ### Saved settings come back (R181 to R183) -/

theorem fullReset_eeprom {s : State} (idle : s.writingImage = none) (pins : PinLevels) (written : Nat) :
    (s.fullReset pins written).eeprom = s.eeprom := by
  show s.eepromAtReset written = s.eeprom
  rw [State.eepromAtReset, idle]

/-- Settles O60: the image composed is what the EEPROM holds after the writing, the reset leaves it there, and the load reads
the settings it holds. -/
theorem savedSettingsComeBack : Obligations.SavedSettingsComeBack := by
  intro s dt dt' dt'' tag pins c written o idle w fit store reset
  obtain ⟨save, -⟩ := saveLifecycle s dt tag [] 0 store
  obtain ⟨-, -, compose⟩ := save o
  obtain ⟨image, saving, length, count, version, sum, holds⟩ := compose rfl (fun ⟨image, under⟩ => idle image under)
  let writing : State := State.respond { s.elapse dt with save := .writing image } ⟨tag, .ok, []⟩
  let saved : State := (writing.elapse dt').endSave image .done
  let begun : State := saved.fullReset pins written
  have ended : exec (.saveDone dt') writing = .next saved := rfl
  have restarted : exec c saved = .next begun := exec_fullReset reset
  have eeprom : begun.eeprom = writeCells 0 image s.eeprom := fullReset_eeprom rfl pins written
  have read : ∀ a, a < 427 → image[a]? = some (readCell a begun.eeprom) := by
    intro a inside
    rw [eeprom, readCell_writeCells _ _ _ store.1, if_pos (Nat.zero_le a), Nat.sub_zero,
      List.getElem?_eq_getElem (by omega)]
  obtain ⟨-, load⟩ := settingsLoadActs begun dt'' none image length read
  obtain ⟨stored, -⟩ := holds w fit
  obtain ⟨t, loaded, ⟨applied, feeds⟩, mask, defaulted, -⟩ :=
    (load rfl).1 s ⟨fun _ none => (nomatch none), version, count, sum⟩ w fit stored
  refine ⟨t, ?_, (congrArg State.startUp applied :), defaulted, (congrArg State.headSettings applied :),
    (congrArg State.rows applied :), (congrArg State.staged applied :), fun f => ?_, (congrArg State.profiles applied :),
    (congrArg State.glazeSettings applied :), mask⟩
  · rw [runAll_cons saving, runAll_cons ended, runAll_cons restarted, runAll_cons loaded]
    rfl
  · rw [feeds f]
    exact ⟨rfl, rfl, rfl⟩

end Sys2Proof.Machine

/-! SUPPORT. The step timer, the external endpoint and the stall timer (R36, R37, R42, R53). -/

namespace Sys2Proof.Machine

/-! ### The step timer (R36, R37) -/

section
variable {s : State} {h : Head} {i : PassSlot} {r : Pass} {l : LiveProgress} {st : StepProgram}

/-- At most one pass is POLISHING on a head, so the search finds it (R27). -/
theorem polishingAt_eq_some (apart : s.passesApart) (live : s.pass i = some r) (polishing : r.state = .polishing)
    (hh : r.head = some h) : s.polishingAt h = some i := by
  refine findPass_eq_some live (decide_eq_true ⟨polishing, hh⟩) fun j q hq found => ?_
  obtain ⟨-, hq'⟩ := of_decide_eq_true found
  by_contra other
  obtain ⟨-, none | apart⟩ := apart j i q r hq live other
  · simp [hq'] at none
  · exact apart (hq'.trans hh.symm)

theorem polishingAt_eq_none (none : ∀ i r, s.pass i = some r → r.state = .polishing → r.head ≠ some h) :
    s.polishingAt h = Option.none := by
  refine Option.not_isSome_iff_eq_none.1 fun found => ?_
  obtain ⟨i, r, live, holds⟩ := (findPass_isSome_iff _ _).1 found
  obtain ⟨polishing, hh⟩ := of_decide_eq_true holds
  exact none i r live polishing hh

theorem runStepTimer_idle (none : s.polishingAt h = Option.none) (units : LiveProgress → StepProgram → Nat) :
    s.runStepTimer h units = s := by
  rw [State.runStepTimer, none]

theorem runStepTimer_eq (on : s.polishingAt h = some i) (live : s.pass i = some r) (hl : r.live = some l)
    (hst : r.step = some st) (units : LiveProgress → StepProgram → Nat) :
    s.runStepTimer h units = s.advanceTimer i r l st (units l st) := by
  simp only [State.runStepTimer, on, live, hl, hst]

/-- The record and the clock once the step timer has moved on by some units (R36). -/
def State.timed (s : State) (i : PassSlot) (r : Pass) (l : LiveProgress) (units : Nat) : State :=
  let now := s.runTo (l.timerDue units)
  now.setPass i (some { r with live := some (l.advance units now.clock) })

theorem advanceTimer_below {units : Nat} (below : l.polishTime + units < st.timeLimit) :
    s.advanceTimer i r l st units = s.timed i r l units := if_neg (Nat.not_le.2 below)

theorem advanceTimer_ends {units : Nat} (reached : st.timeLimit ≤ l.polishTime + units) :
    s.advanceTimer i r l st units = (s.timed i r l units).endStep i (if st.mode = .time then .complete else .timeout) :=
  (if_pos reached).trans (by rw [EndpointMode.timerEnd_eq]; rfl)

end

/-! ### The external endpoint (R42) -/

section
variable {s : State} {p : Platen} {i : PassSlot} {r : Pass}

theorem runningOn_some {s : State} {p : Platen} {i : PassSlot} (found : s.runningOn p = some i) :
    ∃ r, s.pass i = some r ∧ r.onPlaten s.carousel.k p := by
  obtain ⟨r, live, on⟩ := findPass_some found
  exact ⟨r, live, (Pass.onPlaten_iff _ _ _).1 on⟩

theorem runningOn_eq_none {s : State} {p : Platen} (none : ¬∃ i r, s.pass i = some r ∧ r.onPlaten s.carousel.k p) :
    s.runningOn p = Option.none :=
  Option.not_isSome_iff_eq_none.1 (mt (runningOn_isSome_iff s p).1 none)

theorem Pass.endsAtEdge_iff (r : Pass) : r.endsAtEdge = true ↔ r.state = .polishing ∧
    ∃ st l, r.step = some st ∧ r.live = some l ∧ st.mode = .external ∧ l.settleLeft = 0 := by
  unfold Pass.endsAtEdge
  cases r.live <;> cases r.step <;> simp

theorem endpointRises_ends (on : s.runningOn p = some i) (live : s.pass i = some r) (ends : r.endsAtEdge = true) :
    s.endpointRises p = s.endStep i .complete := by
  simp only [State.endpointRises, on]
  exact if_pos ((passHas_iff _ _ _).2 ⟨r, live, ends⟩)

theorem endpointRises_nothing (none : ∀ i r, s.pass i = some r → r.onPlaten s.carousel.k p → r.endsAtEdge = false) :
    s.endpointRises p = s := by
  unfold State.endpointRises
  cases found : s.runningOn p with
  | none => rfl
  | some i =>
    obtain ⟨r, live, on⟩ := runningOn_some found
    refine if_neg fun has => ?_
    obtain ⟨q, hq, yes⟩ := (passHas_iff _ _ _).1 has
    rw [live] at hq
    cases hq
    exact absurd yes (by simp [none i r live on])

end

/-- Settles O29: the two commands of the step timer by the polish time they bring, and the edge by the pass it finds. -/
theorem stepTimerAndEndpoint : Obligations.StepTimerAndEndpoint := by
  refine ⟨fun s h i r l st apart live polishing hh hl hst => ?_, fun s h none => ?_, fun s dt p => ?_⟩
  · intro due now raised written cause
    have timer (units : LiveProgress → StepProgram → Nat) :
        s.runStepTimer h units = s.advanceTimer i r l st (units l st) :=
      runStepTimer_eq (polishingAt_eq_some apart live polishing hh) live hl hst units
    have one : s.timed i r l 1 = written := rfl
    refine ⟨fun coming rest => ?_, fun below => ?_, fun reached => ?_, fun below => ?_⟩
    · have now_eq : now = due := max_eq_right coming
      show l.remainder + (now - l.timerFrom) - 100000 = 0
      omega
    · exact congrArg Host.Outcome.next ((timer _).trans ((advanceTimer_below below).trans one))
    · exact congrArg Host.Outcome.next ((timer _).trans ((advanceTimer_ends reached).trans (congrArg (·.endStep i cause) one)))
    · intro units late
      have total : l.polishTime + units = st.timeLimit := by omega
      refine congrArg Host.Outcome.next ((timer _).trans ((advanceTimer_ends total.ge).trans ?_))
      refine congrArg (fun t => State.endStep (State.setPass { s with clock := late } i (some { r with live := some t })) i cause) ?_
      show LiveProgress.advance l units late = _
      rw [LiveProgress.advance, total]
      rfl
  · have idle := runStepTimer_idle (polishingAt_eq_none none)
    exact ⟨congrArg Host.Outcome.next (idle _), congrArg Host.Outcome.next (idle _)⟩
  · intro seen ends
    have edge (low : s.endpointLevel.get p = false) : exec (.endpointEdge dt p) s = .next (seen.endpointRises p) :=
      congrArg Host.Outcome.next (if_neg (by simp [low]))
    refine ⟨fun high => congrArg Host.Outcome.next (if_pos high), fun low none => ?_, fun low apart i r live ending => ?_⟩
    · refine (edge low).trans (congrArg Host.Outcome.next (endpointRises_nothing fun i r live on => ?_))
      refine Bool.eq_false_iff.2 fun yes => none i r live ?_
      obtain ⟨polishing, st, l, hst, hl, mode, settled⟩ := r.endsAtEdge_iff.1 yes
      obtain ⟨-, h, st', hh, hst', seat, under⟩ := on
      cases hst.symm.trans hst'
      exact ⟨polishing, h, st, l, hh, hst, hl, seat, under, mode, settled⟩
    · obtain ⟨polishing, h, st, l, hh, hst, hl, seat, under, mode, settled⟩ := ending
      have on : seen.runningOn p = some i :=
        runningOn_eq_some (s := seen) apart live ⟨.inl polishing, h, st, hh, hst, seat, under⟩
      exact (edge low).trans (congrArg Host.Outcome.next (endpointRises_ends on live
        (r.endsAtEdge_iff.2 ⟨polishing, st, l, hst, hl, mode, settled⟩)))

/-! ### The stall timer (R53, R136, R158) -/

/-- What a stall reports and pauses beside the hold (R53, R136): FAULT raised, an arm that sweeps EX_SITU parked. -/
theorem raise_pauseSweeps (s : State) (p : Platen) : (s.raise .fault).pauseSweeps p =
    { s with
      attnPending := s.attnPending ||| 8#9
      arms :=
        if (s.arms.get p).service.isExSitu = true ∧ (s.arms.get p).sweeping = true then s.arms.set p (s.arms.get p).parked
        else s.arms } := by
  by_cases sweeps : (s.arms.get p).service.isExSitu = true ∧ (s.arms.get p).sweeping = true
  · rw [if_pos sweeps]
    exact if_pos ((Bool.and_eq_true _ _).mpr sweeps)
  · rw [if_neg sweeps]
    exact if_neg (mt (Bool.and_eq_true _ _).mp sweeps)

theorem Arm.parkedInSitu_exSitu {a : Arm} (exSitu : a.service.isExSitu = true) : a.parkedInSitu = a := by
  refine if_neg ?_
  cases e : a.service <;> simp [e, Service.isExSitu, Service.isInSitu] at exSitu ⊢

/-- A hold parks no arm that serves EX_SITU, so what a stall pauses is told by the arm before it. -/
theorem addCause_arm (s : State) (i : PassSlot) (c : HoldCause) (p : Platen) :
    ((s.addCause i c).arms.get p).service = (s.arms.get p).service ∧
      ((s.arms.get p).service.isExSitu = true → (s.addCause i c).arms.get p = s.arms.get p) := by
  obtain ⟨parked, kept⟩ := (addCause_suspended s i c).arm p
  by_cases leaves : ∃ h r, s.pass i = some r ∧ r.leaves h p
  · rw [parked leaves]
    exact ⟨Arm.parkedInSitu_service _, Arm.parkedInSitu_exSitu⟩
  · rw [kept leaves]
    exact ⟨rfl, fun _ => rfl⟩

/-- Settles O34: what the expiry writes, the hold of the pass running there, and what it reports and pauses. -/
theorem stallTimerExpires : Obligations.StallTimerExpires := by
  refine fun s p => ⟨fun stopped => ?_, fun moment due => ?_⟩
  · show Host.Outcome.next _ = _
    rw [stopped]
  intro set report
  have expires : exec (.stallTimerExpiry p) s = .next (((set.addCauseOf (set.runningOn p) .stall).raise .fault).pauseSweeps p) := by
    show Host.Outcome.next _ = _
    rw [due]
    rfl
  have reports (u : State) (service : (u.arms.get p).service = (s.arms.get p).service)
      (arm : (s.arms.get p).service.isExSitu = true → u.arms.get p = s.arms.get p) :
      (u.raise .fault).pauseSweeps p = report u := by
    rw [raise_pauseSweeps, service]
    refine congrArg (fun arms => { u with attnPending := u.attnPending ||| 8#9, arms := arms }) ?_
    by_cases exSitu : (s.arms.get p).service.isExSitu = true
    · rw [arm exSitu]
    · rw [if_neg (exSitu ·.1), if_neg (exSitu ·.1)]
  refine ⟨fun none => ?_, fun apart i r h st live running hh hst seat under => ?_⟩
  · have nobody : set.runningOn p = Option.none :=
      runningOn_eq_none fun ⟨i, r, live, running, h, st, hh, hst, seat, under⟩ =>
        none ⟨i, r, h, st, live, running, hh, hst, seat, under⟩
    rw [expires, nobody]
    exact congrArg Host.Outcome.next (reports set rfl fun _ => rfl)
  · have somebody : set.runningOn p = some i := runningOn_eq_some (s := set) apart live ⟨running, h, st, hh, hst, seat, under⟩
    rw [expires, somebody]
    obtain ⟨service, arm⟩ := addCause_arm set i .stall p
    exact congrArg Host.Outcome.next (reports (set.addCause i .stall) service arm)

end Sys2Proof.Machine

/-! SUPPORT. The rising edges of a platen's index input: what every accepted edge does, and the kinds of edge (R49 to R54, R57,
R122, R123, R130, R136). -/

namespace Sys2Proof.Machine

/-! ### An accepted edge (R52) -/

theorem raiseIf_eq (s : State) (b : Bool) (c : Cause) :
    s.raiseIf b c = { s with attnPending := if b then s.attnPending.add c else s.attnPending } := by
  cases b <;> rfl

/-- A change of live progress reaches the pass running on the platen alone. -/
theorem updateLiveOn_pass (s : State) (p : Platen) (f : LiveProgress → LiveProgress) (i : PassSlot) :
    (s.updateLiveOn p f).pass i =
      if s.runningOn p = some i then (s.pass i).map fun r => { r with live := r.live.map f } else s.pass i := by
  unfold State.updateLiveOn
  cases on : s.runningOn p with
  | none => simp
  | some j =>
    obtain ⟨r, live, -⟩ := runningOn_some on
    simp only [State.updateLive, live, pass_setPass, Option.some.injEq]
    by_cases same : i = j
    · subst same
      simp [live]
    · simp [same, Ne.symm same]

theorem updateLiveOn_passes (s : State) (p : Platen) (f : LiveProgress → LiveProgress) :
    s.updateLiveOn p f = { s with passes := (s.updateLiveOn p f).passes } := by
  unfold State.updateLiveOn State.updateLive
  split
  · split <;> rfl
  · rfl

/-- The supply counts of a revolution closed, with the short run and SUPPLY_SHORT written out (R122, R123). -/
theorem PlatenSupply.close_eq (x : PlatenSupply) :
    let ratio := if x.demanded = 0 then 4096 else min 4096 (x.granted * 4096 / x.demanded)
    let run := if ratio < 3277 then min 3 (x.shortRun + 1) else 0
    let short : Bool := decide (ratio < 3277) && (x.short || decide (run = 3))
    x.close = { x with demanded := 0, granted := 0, lastRatio := ratio, shortRun := run, short } := by
  intro ratio run short
  have condition : (if ratio < 3277 then x.short || decide (run = 3) else false) = short := by
    by_cases low : ratio < 3277
    · simp [short, low]
    · simp [short, low]
  rw [← condition]
  rfl

section
variable (s : State) (p : Platen)

/-- SUPPLY_SHORT of a platen at the end of the revolution (R123). -/
def State.closesShort : Bool := (s.supply.get p).close.short

/-- The state an accepted edge leaves before the flag of the pass on the platen (R52, R122). -/
def State.edgeClosed : State :=
  { s with
    rotation := s.rotation.set p
      { s.rotation.get p with reference := some s.timeBase, stallTimer := some (s.clock + 8000000) }
    windows := s.windows.set (headOver s.carousel.k p)
      (PerZone.tabulate fun z => ((s.windows.get (headOver s.carousel.k p)).get z).close)
    arms := s.arms.set p (s.arms.get p).raiseGlaze
    supply := s.supply.set p (s.supply.get p).close
    attnPending := if (s.closesShort p && !(s.supply.get p).short) = true then s.attnPending ||| 32#9 else s.attnPending }

theorem acceptEdge_eq : s.acceptEdge p = if s.closesShort p = true then
    (s.edgeClosed p).updateLiveOn p fun l => { l with supplyShort := true } else s.edgeClosed p := by
  simp only [State.acceptEdge, State.closeSupply, raiseIf_eq]
  rfl

/-- An accepted edge changes the records and what its own actions write. -/
theorem acceptEdge_passes : s.acceptEdge p = { s.edgeClosed p with passes := (s.acceptEdge p).passes } := by
  rw [acceptEdge_eq]
  by_cases short : s.closesShort p = true
  · rw [if_pos short]
    exact updateLiveOn_passes _ _ _
  · rw [if_neg short]

theorem runningOn_edgeClosed : (s.edgeClosed p).runningOn p = s.runningOn p := rfl

theorem acceptEdge_pass (i : PassSlot) : (s.acceptEdge p).pass i =
    if s.closesShort p = true ∧ s.runningOn p = some i then
      (s.pass i).map fun r => { r with live := r.live.map fun l => { l with supplyShort := true } }
    else s.pass i := by
  rw [acceptEdge_eq]
  by_cases short : s.closesShort p = true
  · rw [if_pos short, updateLiveOn_pass, runningOn_edgeClosed]
    simp only [short, true_and]
    rfl
  · rw [if_neg short, if_neg fun ⟨yes, _⟩ => short yes]
    rfl

/-- An accepted edge puts no pass on the platen. -/
theorem acceptEdge_runningOn_none (none : ¬∃ i r, s.pass i = some r ∧ r.onPlaten s.carousel.k p) :
    (s.acceptEdge p).runningOn p = Option.none := by
  refine runningOn_eq_none fun ⟨i, r, live, on⟩ => ?_
  rw [(Steady.acceptEdge s p).carousel] at on
  have nobody := runningOn_eq_none none
  rw [acceptEdge_pass, nobody, if_neg (by simp)] at live
  exact none ⟨i, r, live, on⟩

end

/-- Settles O30: the blocks an accepted edge writes, and the flag of the one pass on the platen. -/
theorem acceptedEdgeActs : Obligations.AcceptedEdgeActs := by
  intro s p t x ratio run short onPlaten
  have closed : x.close = { x with demanded := 0, granted := 0, lastRatio := ratio, shortRun := run, short } := x.close_eq
  have closesShort : s.closesShort p = short := congrArg PlatenSupply.short closed
  have eq : t = { s.edgeClosed p with passes := t.passes } := acceptEdge_passes s p
  have pass (i : PassSlot) := acceptEdge_pass s p i
  rw [closesShort] at pass
  refine ⟨(congrArg State.rotation eq :), fun h z => ?_, (congrArg State.arms eq :), ?_, ?_, fun i r live => ⟨?_, ?_⟩,
    fun i free => ?_, (congrArg State.items eq :), (congrArg State.channels eq :), (congrArg State.feeds eq :), .acceptEdge s p⟩
  · rw [(congrArg State.windows eq :)]
    show ((s.windows.set _ _).get h).get z = _
    rw [PerHead.get_set]
    by_cases above : headOver s.carousel.k p = h
    · subst above
      rw [if_pos rfl, if_pos ((platenUnder_eq_some_iff _ _ _).2 rfl), PerZone.get_tabulate]
      rfl
    · rw [if_neg (Ne.symm above), if_neg (mt (platenUnder_eq_some_iff _ _ _).1 above)]
  · rw [(congrArg State.supply eq :), ← closed]
    rfl
  · rw [(congrArg State.attnPending eq :)]
    show (if (s.closesShort p && !x.short) = true then _ else _) = _
    rw [closesShort]
    exact if_congr (by simp) rfl rfl
  · intro spared
    refine (pass i).trans ((if_neg ?_).trans live)
    rintro ⟨isShort, found⟩
    obtain ⟨q, hq, on⟩ := runningOn_some found
    rw [live] at hq
    cases hq
    rcases spared with long | off
    · exact Bool.noConfusion (long.symm.trans isShort)
    · exact off on
  · intro apart isShort on
    refine (pass i).trans ((if_pos ⟨isShort, runningOn_eq_some apart live on⟩).trans ?_)
    rw [live]
    rfl
  · refine (pass i).trans ?_
    rw [free]
    split <;> rfl

/-! ### The kinds of edge (R49 to R54) -/

section
variable {x : Rotation} {reference capture : Word32}

theorem edgeKind_first (unknown : x.reference = none) : edgeKind x capture = .first := by
  rw [edgeKind, unknown]

variable (known : x.reference = some reference)
include known

theorem edgeKind_stallClearing (stall : x.stall = true) : edgeKind x capture = .stallClearing (capture - reference) := by
  simp only [edgeKind, known, stall, if_true]

variable (clear : x.stall = false)
include clear

theorem edgeKind_bounce (short : (capture - reference).toNat < 100000) : edgeKind x capture = .bounce := by
  simp only [edgeKind, known, clear, Bool.false_eq_true, if_false, if_pos short]

theorem edgeKind_slow (long : 6000000 < (capture - reference).toNat) :
    edgeKind x capture = .slow (capture - reference) := by
  simp only [edgeKind, known, clear, Bool.false_eq_true, if_false, if_neg (Nat.not_lt.2 (by omega : 100000 ≤ (capture - reference).toNat)),
    if_neg (Nat.not_le.2 long)]

end

/-- The part when an edge of a platen has been seen, its period written and STALL left at a level (R51, R54). -/
def State.wroteEdge (s : State) (dt : Nat) (p : Platen) (period : Word32) (stall : Bool) : State :=
  { s with
    clock := s.clock + dt
    rotation := s.rotation.set p { s.rotation.get p with level := true, lastPeriod := some period, stall } }

section
variable (s : State) (dt : Nat) (p : Platen) (period : Word32)

theorem wroteEdge_eq_timedEdge {stall : Bool} (same : (s.rotation.get p).stall = stall) :
    s.wroteEdge dt p period stall = s.timedEdge dt p period := by
  subst same
  rfl

theorem writePeriod_clearsStall :
    (((s.elapse dt).setIndexLevel p true).writePeriod p period).setRotation p
      { (((s.elapse dt).setIndexLevel p true).writePeriod p period).rotation.get p with stall := false } =
      s.wroteEdge dt p period false := by
  rw [writePeriod_setIndexLevel]
  simp [State.timedEdge, State.setRotation, State.wroteEdge, PerPlaten.set_set]

end

theorem resumeSweeps_paused {s : State} {p : Platen} (paused : ∃ q, (s.arms.get p).service = .exSitu q ∧ (s.arms.get p).sweeping = false) :
    s.resumeSweeps p = { s with arms := s.arms.set p ((s.arms.get p).swept s.clock (s.armProfile p)) } := by
  obtain ⟨q, served, still⟩ := paused
  have resumes : ((s.arms.get p).service.isExSitu && !(s.arms.get p).sweeping) = true := by
    rw [served, still]
    rfl
  exact (if_pos resumes).trans (beginSweep_eq s p)

theorem resumeSweeps_other {s : State} {p : Platen}
    (other : ¬∃ q, (s.arms.get p).service = .exSitu q ∧ (s.arms.get p).sweeping = false) : s.resumeSweeps p = s := by
  refine if_neg fun resumes => other ?_
  obtain ⟨exSitu, still⟩ := (Bool.and_eq_true _ _).mp resumes
  cases served : (s.arms.get p).service with
  | none | inSitu => simp [served, Service.isExSitu] at exSitu
  | exSitu q => exact ⟨q, rfl, by simpa using still⟩

/-- Settles O31: the edge by the reference, STALL and the period. -/
theorem indexEdgeKinds : Obligations.IndexEdgeKinds := by
  intro s dt p x seen wrote
  have rotation : seen.rotation.get p = { x with level := true } := PerPlaten.get_set_self _ _ _
  have edge (low : x.level = false) {t : State} (rises : seen.risingIndexEdge p = t) :
      exec (.platenIndexEdge dt p) s = .next t :=
    congrArg Host.Outcome.next ((if_neg (by simp [low, x] : ¬(s.rotation.get p).level = true)).trans rises)
  refine ⟨fun high => congrArg Host.Outcome.next (if_pos high), fun low unknown => edge low ?_, fun low reference known => ?_⟩
  · have kind : edgeKind (seen.rotation.get p) seen.timeBase = .first := by
      rw [rotation]
      exact edgeKind_first unknown
    simp only [State.risingIndexEdge, kind]
  intro period
  have written (stall : Bool) (same : x.stall = stall) :
      seen.writePeriod p period = wrote period stall :=
    (writePeriod_setIndexLevel s dt p period).trans (wroteEdge_eq_timedEdge s dt p period same).symm
  refine ⟨fun clear short => edge low ?_, fun clear long => edge low ?_, fun clear long short none => edge low ?_, fun stall => ?_⟩
  · have kind : edgeKind (seen.rotation.get p) seen.timeBase = .bounce := by
      rw [rotation]
      exact edgeKind_bounce known clear short
    simp only [State.risingIndexEdge, kind]
  · have kind : edgeKind (seen.rotation.get p) seen.timeBase = .slow period := by
      rw [rotation]
      exact edgeKind_slow known clear long
    simp only [State.risingIndexEdge, kind]
    rw [written false clear]
  · have kind : edgeKind (seen.rotation.get p) seen.timeBase = .normal period := by
      rw [rotation]
      exact edgeKind_normal known clear long short
    have nobody : ((wrote period false).acceptEdge p).runningOn p = Option.none := by
      refine acceptEdge_runningOn_none _ p fun ⟨i, r, live, running, h, st, hh, hst, seat, under⟩ => ?_
      exact none ⟨i, r, h, st, live, running, hh, hst, seat, under⟩
    simp only [State.risingIndexEdge, kind]
    rw [written false clear, nobody]
  · intro tried a
    have kind : edgeKind (seen.rotation.get p) seen.timeBase = .stallClearing period := by
      rw [rotation]
      exact edgeKind_stallClearing known stall
    have rises : seen.risingIndexEdge p = tried.resumeSweeps p := by
      simp only [State.risingIndexEdge, kind]
      exact congrArg (fun t => ((State.acceptEdge t p).attemptOver p).resumeSweeps p)
        (writePeriod_clearsStall s dt p (stallPeriod period))
    exact ⟨fun paused => edge low (rises.trans (resumeSweeps_paused paused)),
      fun other => edge low (rises.trans (resumeSweeps_other other))⟩

end Sys2Proof.Machine

/-! SUPPORT. The wear stop, and the dwell expiry that takes an arm to its next segment or completes its sweep (R128, R129, R135,
R137). -/

namespace Sys2Proof.Machine

/-! ### The wear stop (R137) -/

section
variable {s : State} {p : Platen}

theorem wearStop_none (unserved : (s.arms.get p).service = .none) : s.wearStop p = s := by
  rw [State.wearStop, unserved]

theorem wearStop_exSitu {q : Fin 4} (served : (s.arms.get p).service = .exSitu q) : s.wearStop p = s.endExSitu p := by
  rw [State.wearStop, served]

theorem updateLiveOn_nobody (none : ∀ i r, s.pass i = some r → ¬r.onPlaten s.carousel.k p)
    (f : LiveProgress → LiveProgress) : s.updateLiveOn p f = s := by
  rw [State.updateLiveOn, runningOn_eq_none fun ⟨i, r, live, on⟩ => none i r live on]

theorem updateLiveOn_running {i : PassSlot} {r : Pass} (apart : s.passesApart) (live : s.pass i = some r)
    (on : r.onPlaten s.carousel.k p) (f : LiveProgress → LiveProgress) :
    s.updateLiveOn p f = s.setPass i (some { r with live := r.live.map f }) := by
  simp only [State.updateLiveOn, runningOn_eq_some apart live on, State.updateLive, live]

theorem armProfile_congr {t u : State} {p : Platen} (service : (t.arms.get p).service = (u.arms.get p).service)
    (profiles : t.profiles = u.profiles) : t.armProfile p = u.armProfile p := by
  simp only [State.armProfile, State.profile, service, profiles]

/-! ### A dwell expiry (R128, R129) -/

theorem dwellExpires_next {g : Segment}
    (next : sweepSegment (s.armProfile p) (s.arms.get p).direction ((s.arms.get p).segment + 1) = some g) :
    s.dwellExpires p = s.setArm p
      { s.arms.get p with
        segment := (s.arms.get p).segment + 1, dwell := some (s.clock + g.dwell * 1000)
        advances := (s.arms.get p).advances + 1 } := by
  have inside : (s.arms.get p).segment + 1 < (s.armProfile p).length := by
    rw [sweepSegment_eq] at next
    cases e : (s.arms.get p).direction <;> rw [e] at next <;> simpa using (List.getElem?_eq_some_iff.1 next).1
  refine (if_pos inside).trans (congrArg (s.setArm p) ?_)
  rw [Arm.enterSegment, next]
  rfl

/-- The sweep completes on the state that counted the disk's usage (R129). -/
theorem dwellExpires_last (last : (s.armProfile p).length ≤ (s.arms.get p).segment + 1) {counted : State}
    (usage : s.addUsageOf (s.mounted .disk (.platen p)) 1 = counted) (arms : counted.arms = s.arms) :
    s.dwellExpires p = State.goOnSweeping { counted with arms := s.arms.set p (s.arms.get p).completed } p := by
  refine (if_neg (Nat.not_lt.2 last)).trans ?_
  subst usage
  rw [State.completeSweep, State.setArm, arms]

theorem goOnSweeping_worn (worn : s.diskWorn p = true) : s.goOnSweeping p = s.wearStop p := if_pos worn

theorem goOnSweeping_sound (sound : s.diskWorn p = false) : s.goOnSweeping p =
    if (s.arms.get p).service.isExSitu = true ∧ (s.arms.get p).exSitu = 0 then s.endExSitu p else s.beginSweep p := by
  refine (if_neg (by simp [sound])).trans (if_congr ?_ rfl rfl)
  rw [Bool.and_eq_true, decide_eq_true_iff]

end

theorem Service.isExSitu_iff (x : Service) : x.isExSitu = true ↔ ∃ q, x = .exSitu q := by
  cases x <;> simp [Service.isExSitu]

/-- The last sweep of an EX_SITU count is the one that leaves it at 0 (R129, R135). -/
theorem Arm.completed_last_iff (a : Arm) :
    a.completed.service.isExSitu = true ∧ a.completed.exSitu = 0 ↔ (∃ q, a.service = .exSitu q) ∧ a.exSitu ≤ 1 := by
  rw [← Service.isExSitu_iff]
  refine and_congr_right fun exSitu => ?_
  have exSitu : a.service.isExSitu = true := exSitu
  simp only [Arm.completed, exSitu, if_true]
  omega

/-- An arm after a completed sweep, with the direction and the count written out (R129). -/
theorem Arm.completed_eq (a : Arm) : a.completed =
    { a with
      glaze := 0
      direction := (match a.direction with | .outward => .inward | .inward => .outward)
      exSitu := (match a.service with | .exSitu _ => a.exSitu - 1 | _ => a.exSitu) } := by
  unfold Arm.completed
  cases a.direction <;> cases a.service <;> rfl

/-- How an arm goes on after a completed sweep, on a state that has turned it round (R129, R135, R137). -/
theorem goOnSweeping_turned {c : State} {p : Platen} {a : Arm} (arm : c.arms.get p = a.completed)
    (sound : c.diskWorn p = false) :
    ((∃ q, a.service = .exSitu q) ∧ a.exSitu ≤ 1 → c.goOnSweeping p = c.endExSitu p) ∧
      (¬((∃ q, a.service = .exSitu q) ∧ a.exSitu ≤ 1) → c.goOnSweeping p = c.beginSweep p) := by
  have last := a.completed_last_iff
  rw [goOnSweeping_sound sound, arm]
  exact ⟨fun isLast => if_pos (last.2 isLast), fun more => if_neg (mt last.1 more)⟩

/-- Settles O49: the wear stop by the service, and the expiry by the segment, the disk and the ex-situ count. -/
theorem wearStopAndDwell : Obligations.WearStopAndDwell := by
  intro s p a ended
  have profiles : s.armProfile p =
      (match a.service with | .none => [] | .inSitu q => s.profile q | .exSitu q => s.profile q) := by
    show s.armProfile p = (match (s.arms.get p).service with | .none => [] | .inSitu q => s.profile q | .exSitu q => s.profile q)
    unfold State.armProfile
    cases (s.arms.get p).service <;> rfl
  refine ⟨profiles, wearStop_none, fun ⟨q, served⟩ => wearStop_exSitu served, fun ⟨q, served⟩ => ?_, fun stopped => ?_,
    fun moment due => ?_⟩
  · intro off
    have inSitu : s.wearStop p = off.updateLiveOn p fun l => { l with conditioningIncomplete := true } :=
      wearStop_inSitu (by rw [show (s.arms.get p).service = .inSitu q from served]; rfl)
    exact ⟨fun none => inSitu.trans (updateLiveOn_nobody (s := off) none _),
      fun apart i r live on => inSitu.trans (updateLiveOn_running (s := off) apart live on _)⟩
  · have stopped : (s.arms.get p).dwell = none := stopped
    show Host.Outcome.next _ = _
    rw [stopped]
  intro now profile
  have due : (s.arms.get p).dwell = some moment := due
  have expiry {t : State} (expires : now.dwellExpires p = t) : exec (.dwellExpiry p) s = .next t := by
    show Host.Outcome.next _ = _
    rw [due]
    exact congrArg Host.Outcome.next expires
  have profile_eq : now.armProfile p = profile := profiles
  refine ⟨fun g next => expiry (dwellExpires_next ?_), fun beyond => ?_⟩
  · rw [profile_eq, sweepSegment_eq]
    exact next
  intro turned last goesOn turnedIn
  have turnedEq : (now.arms.get p).completed = turned := Arm.completed_eq a
  have arm (t : State) : (turnedIn t).arms.get p = a.completed := (PerPlaten.get_set_self _ _ _).trans turnedEq.symm
  have completes {counted : State} (usage : now.addUsageOf (now.mounted .disk (.platen p)) 1 = counted)
      (arms : counted.arms = s.arms) : now.dwellExpires p = (turnedIn counted).goOnSweeping p := by
    refine (dwellExpires_last (profile_eq ▸ beyond) usage arms).trans ?_
    rw [turnedEq]
  have sweeps (t : State) (clock : t.clock = now.clock) (profiles : t.profiles = s.profiles) :
      (turnedIn t).beginSweep p = goesOn t := by
    have same : (turnedIn t).armProfile p = profile :=
      (armProfile_congr (t := turnedIn t) (u := now) (congrArg Arm.service (arm t) :) profiles).trans profile_eq
    rw [beginSweep_eq, same, arm t, turnedEq]
    show { turnedIn t with arms := (s.arms.set p turned).set p (turned.swept t.clock profile) } = _
    rw [PerPlaten.set_set, clock]
  refine ⟨fun empty => ?_, fun wf j x hx kind here => ?_⟩
  · have unmounted : now.mounted .disk (.platen p) = none := mounted_eq_none empty
    have usage : now.addUsageOf (now.mounted .disk (.platen p)) 1 = now := by rw [unmounted]; rfl
    have sound : (turnedIn now).diskWorn p = false := by
      refine Bool.eq_false_iff.2 fun worn => ?_
      obtain ⟨y, hy, -⟩ := (diskWorn_iff _ p).1 worn
      rw [mountedItem_congr (s := now) (t := turnedIn now) rfl, (mountedItem_eq_none_iff _ _ _).2 unmounted] at hy
      cases hy
    obtain ⟨ends, continues⟩ := goOnSweeping_turned (arm now) sound
    exact ⟨fun isLast => expiry ((completes usage rfl).trans (ends isLast)),
      fun more => expiry ((completes usage rfl).trans ((continues more).trans (sweeps now rfl rfl)))⟩
  · intro used y counted
    have mounted : now.mounted .disk (.platen p) = some j := kind ▸ mounted_eq_some (s := now) wf hx here
    have gained : x.flagsGained y = true ↔
        decide (0 < x.limit ∧ x.limit ≤ used.usage) = true ∧ x.flags.worn = false := by
      simp only [Item.flagsGained, y]
      cases x.flags.worn <;> cases x.flags.expired <;> cases x.flags.empty <;> simp
    have usage : now.addUsageOf (now.mounted .disk (.platen p)) 1 = counted := by
      rw [mounted, addUsageOf_of_ne_lot (s := now) hx (by simp [kind]) 1]
      refine congrArg (fun n => { now with items := putAt s.items j (some y), attnPending := n }) ?_
      exact if_congr gained.symm rfl rfl
    have wf' : counted.itemsWf := by
      rw [← usage]
      exact State.itemsWf.addUsageOf (s := now) wf _ 1
    have item : counted.item j = some y := item_setItem_self now j (some y)
    have disk : (turnedIn counted).mountedItem .disk (.platen p) = some y := by
      have mounted : counted.mounted y.kind (.platen p) = some j := mounted_eq_some wf' item here
      rw [show y.kind = .disk from kind] at mounted
      rw [mountedItem_congr (s := counted) (t := turnedIn counted) rfl, mountedItem_of_mounted mounted, item]
    have going {t : State} (goes : (turnedIn counted).goOnSweeping p = t) : exec (.dwellExpiry p) s = .next t :=
      expiry ((completes usage rfl).trans goes)
    have sound (unworn : y.flags.worn = false) : (turnedIn counted).diskWorn p = false := by
      refine Bool.eq_false_iff.2 fun worn => ?_
      obtain ⟨z, hz, wornz⟩ := (diskWorn_iff _ p).1 worn
      rw [disk] at hz
      cases hz
      exact Bool.noConfusion (unworn.symm.trans wornz)
    refine ⟨fun worn => going (goOnSweeping_worn ((diskWorn_iff _ p).2 ⟨y, disk, worn⟩)), fun unworn isLast => going ?_,
      fun unworn more => going ?_⟩
    · exact (goOnSweeping_turned (arm counted) (sound unworn)).1 isLast
    · exact ((goOnSweeping_turned (arm counted) (sound unworn)).2 more).trans (sweeps counted rfl rfl)

end Sys2Proof.Machine

/-! SUPPORT. A start attempt reads and writes only its own pass, head and platen, so attempts for passes apart from one another
are made as if alone (R28 to R31, R34, R35). -/

namespace Sys2Proof.Machine

/-! ### The two outcomes of an attempt -/

/-- A start condition that is met: the ring of the head is at hand (R30). -/
theorem ring_of_startFailure {s : State} {h : Head} {st : StepProgram} (met : s.startFailure h st = none) :
    ∃ j ring, s.mounted .ring (.head h) = some j ∧ s.item j = some ring := by
  rw [startFailure_eq_find?, List.find?_eq_none] at met
  have sound : s.sound .ring (.head h) = true := by simpa [State.blocks] using met .ring (by decide)
  cases there : s.mountedItem .ring (.head h) with
  | none => simp [State.sound, there] at sound
  | some ring =>
    obtain ⟨j, on, hj⟩ := mountedItem_some there
    exact ⟨j, ring, on, hj⟩

theorem startStep_channel (s : State) (i : PassSlot) (r : Pass) (h k : Head) (st : StepProgram) (c : Chan) :
    (s.startStep i r h st).channel k c =
      if k = h then (s.channel k c).enterDrive s.clock
        (startingSetpoint ((s.headSettings.get h).chans.get c) st (PerZone.all false) c)
      else s.channel k c := by
  have channels : (s.startStep i r h st).channels =
      ((s.setPass i (some (s.startedPass r h st))).driveHead h st (PerZone.all false)).channels := by
    rw [startStep_eq_addUsageOf, (Plain.addUsageOf _ _ 1).channels]
    exact (conditionStart_others _ st).1
  have driven := channel_updateHead (s.setPass i (some (s.startedPass r h st))) h k
    (fun c x => x.enterDrive s.clock (startingSetpoint ((s.headSettings.get h).chans.get c) st (PerZone.all false) c)) c
  unfold State.channel at driven ⊢
  rw [channels]
  exact driven

/-! ### What an attempt leaves alone -/

/-- A change of one pass, the channels of one head, the supply and the arm of one platen and the ring on the head. -/
structure Within (i : PassSlot) (h : Head) (p : Platen) (s t : State) : Prop where
  pass : ∀ j, j ≠ i → t.pass j = s.pass j
  channel : ∀ k c, k ≠ h → t.channel k c = s.channel k c
  supply : ∀ q, q ≠ p → t.supply.get q = s.supply.get q
  arm : ∀ q, q ≠ p → t.arms.get q = s.arms.get q
  item : ∀ j, s.mounted .ring (.head h) ≠ some j → t.item j = s.item j
  mounted : ∀ kind pos, t.mounted kind pos = s.mounted kind pos
  station : KeptStation s t

theorem mounted_eq_of_places {s t : State}
    (places : ∀ j, (t.item j).map (fun x => (x.kind, x.position)) = (s.item j).map fun x => (x.kind, x.position))
    (kind : ItemKind) (pos : Position) : t.mounted kind pos = s.mounted kind pos := by
  have has (j : ItemSlot) : t.itemHas j (fun r => decide (r.kind = kind ∧ r.position = some pos)) =
      s.itemHas j fun r => decide (r.kind = kind ∧ r.position = some pos) := by
    have same := places j
    unfold State.itemHas
    cases a : t.item j with
    | none =>
      cases b : s.item j with
      | none => rfl
      | some y => simp [a, b] at same
    | some x =>
      cases b : s.item j with
      | none => simp [a, b] at same
      | some y =>
        rw [a, b] at same
        obtain ⟨kinds, positions⟩ := Prod.mk.inj (Option.some.inj same)
        simp only [kinds, positions]
  simp only [State.mounted, State.findItem, has]

/-- What is mounted elsewhere than on the head is as it was. -/
theorem Within.mountedItem {i : PassSlot} {h : Head} {p : Platen} {s t : State} (w : Within i h p s t) {kind : ItemKind}
    {pos : Position} (elsewhere : kind = .ring → pos ≠ .head h) : t.mountedItem kind pos = s.mountedItem kind pos := by
  cases on : s.mounted kind pos with
  | none =>
    rw [(mountedItem_eq_none_iff _ _ _).2 on, (mountedItem_eq_none_iff _ _ _).2 ((w.mounted kind pos).trans on)]
  | some j =>
    rw [mountedItem_of_mounted on, mountedItem_of_mounted ((w.mounted kind pos).trans on)]
    refine w.item j fun ring => ?_
    obtain ⟨x, hx, kx, px⟩ := mounted_some on
    obtain ⟨y, hy, ky, py⟩ := mounted_some ring
    cases hx.symm.trans hy
    exact elsewhere (kx.symm.trans ky) (Option.some.inj (px.symm.trans py))

section
variable {s : State} {i : PassSlot} {r : Pass} {h : Head} {st : StepProgram}

theorem startStep_within {j : ItemSlot} {ring : Item} (on : s.mounted .ring (.head h) = some j) (hj : s.item j = some ring) :
    Within i h st.platen s (s.startStep i r h st) := by
  have item (k : ItemSlot) : (s.startStep i r h st).item k = if k = j then some (ring.addUsage 1) else s.item k := by
    rw [State.item, startStep_items on hj, slotAt_putAt]
    rfl
  refine ⟨fun k other => ?_, fun k c other => ?_, fun q other => ?_, fun q other => ?_, fun k other => ?_, ?_, .startStep s i r h st⟩
  · rw [startStep_pass, if_neg other]
  · rw [startStep_channel, if_neg other]
  · rw [startStep_supply on hj, PerPlaten.get_set, if_neg other]
  · rw [startStep_arms]
    cases st.conditioning with
    | none | exSitu => rfl
    | inSitu profile => exact (PerPlaten.get_set _ _ _ _).trans (if_neg other)
  · rw [item, if_neg]
    rintro rfl
    exact other on
  · refine mounted_eq_of_places fun k => ?_
    rw [item]
    by_cases same : k = j
    · subst same
      rw [if_pos rfl, hj]
      rfl
    · rw [if_neg same]

variable (live : s.pass i = some r) (able : r.mayStart s.carousel.k) (hh : r.head = some h) (hst : r.step = some st)
include live able hh hst

theorem attempt_within : Within i h st.platen s (s.attempt i) := by
  cases e : s.startFailure h st with
  | some reason =>
    rw [attempt_blocked live able hh hst e]
    exact ⟨fun j other => by rw [pass_setPass, if_neg other], fun _ _ _ => rfl, fun _ _ => rfl, fun _ _ => rfl, fun _ _ => rfl,
      mounted_congr rfl, .setPass s i _⟩
  | none =>
    obtain ⟨j, ring, on, hj⟩ := ring_of_startFailure e
    rw [attempt_starts live able hh hst e]
    exact startStep_within on hj

end

/-! ### What an attempt reads -/

/-- A state that looks to a pass on a head over a platen as another does. -/
structure SameFor (h : Head) (p : Platen) (s t : State) : Prop where
  channel : ∀ c, t.channel h c = s.channel h c
  supply : t.supply.get p = s.supply.get p
  arm : t.arms.get p = s.arms.get p
  mounted : ∀ kind pos, t.mounted kind pos = s.mounted kind pos
  mountedItem : ∀ kind pos, (kind = .ring → pos = .head h) → t.mountedItem kind pos = s.mountedItem kind pos
  station : KeptStation s t

section
variable {s t : State} {h : Head} {st : StepProgram} (same : SameFor h st.platen s t)
include same

theorem SameFor.stepUses (f : Feed) : t.stepUses st f = s.stepUses st f := by
  have row : t.row st.blendRow = s.row st.blendRow := congrArg (slotAt · _) same.station.outside.rows
  rw [State.stepUses, row]
  rfl

theorem SameFor.lotRecordOn (f : Feed) : t.lotRecordOn f = s.lotRecordOn f := by
  cases f with
  | a => exact same.mountedItem .lot .feedA (by simp)
  | b => exact same.mountedItem .lot .feedB (by simp)
  | c => rfl

theorem SameFor.goodLot (f : Feed) : t.goodLot st f = s.goodLot st f := by
  simp only [State.goodLot, same.stepUses, same.lotRecordOn]

theorem SameFor.sound {kind : ItemKind} {pos : Position} (here : kind = .ring → pos = .head h) :
    t.sound kind pos = s.sound kind pos := by
  simp only [State.sound, same.mountedItem kind pos here]

theorem SameFor.headFault : t.headFault h = s.headFault h := by
  rw [Bool.eq_iff_iff, headFault_iff, headFault_iff]
  simp only [same.channel]

theorem SameFor.blocks (b : StartBlock) : t.blocks h st b = s.blocks h st b := by
  cases b with
  | trip => exact same.station.tripLatch
  | carousel => simp only [State.blocks, same.station.carousel]
  | fault => simp only [State.blocks, same.station.rotation, same.headFault]
  | pad => simp only [State.blocks, same.sound (kind := .pad) (by simp)]
  | ring => simp only [State.blocks, same.sound (kind := .ring) (pos := .head h) (by simp)]
  | disk => simp only [State.blocks, same.sound (kind := .disk) (by simp)]
  | conditioning => simp only [State.blocks, same.arm]
  | lot => simp only [State.blocks, same.goodLot]

theorem SameFor.startFailure : t.startFailure h st = s.startFailure h st := by
  rw [startFailure_eq_find?, startFailure_eq_find?, funext same.blocks]

theorem SameFor.freshLive : t.freshLive h st = s.freshLive h st := by
  simp only [State.freshLive, State.mountedId, State.captureLot, same.stepUses, same.lotRecordOn,
    same.mountedItem .pad (.platen st.platen) (by simp), same.mountedItem .ring (.head h) (by simp),
    same.station.outside.clock]

theorem SameFor.ring {j : ItemSlot} {ring : Item} (on : s.mounted .ring (.head h) = some j) (hj : s.item j = some ring) :
    t.mounted .ring (.head h) = some j ∧ t.item j = some ring := by
  have on' := (same.mounted .ring (.head h)).trans on
  refine ⟨on', ?_⟩
  rw [← mountedItem_of_mounted on', same.mountedItem _ _ (fun _ => rfl), mountedItem_of_mounted on, hj]

/-! ### An attempt made where another state is the same -/

/-- Two states after an attempt for one pass, made on two states: its pass, its head, its platen and its ring are alike, and ITEM
was raised in both or in neither. -/
structure Alike (i : PassSlot) (h : Head) (p : Platen) (s t s' t' : State) : Prop where
  pass : t'.pass i = s'.pass i
  channel : ∀ c, t'.channel h c = s'.channel h c
  supply : t'.supply.get p = s'.supply.get p
  arm : t'.arms.get p = s'.arms.get p
  item : ∀ j, s.mounted .ring (.head h) = some j → t'.item j = s'.item j
  attnPending : (t'.attnPending = t.attnPending ∧ s'.attnPending = s.attnPending) ∨
    (t'.attnPending = t.attnPending ||| 16#9 ∧ s'.attnPending = s.attnPending ||| 16#9)

theorem SameFor.ringItem {j : ItemSlot} (on : s.mounted .ring (.head h) = some j) : t.item j = s.item j := by
  obtain ⟨x, hx, -, -⟩ := mounted_some on
  exact (same.ring on hx).2.trans hx.symm

theorem SameFor.startStep {i : PassSlot} {r : Pass} {j : ItemSlot} {ring : Item} (on : s.mounted .ring (.head h) = some j)
    (hj : s.item j = some ring) :
    Alike i h st.platen s t (s.startStep i r h st) (t.startStep i r h st) := by
  obtain ⟨on', hj'⟩ := same.ring on hj
  refine ⟨?_, fun c => ?_, ?_, ?_, fun k here => ?_, ?_⟩
  · rw [startStep_pass, startStep_pass, if_pos rfl, if_pos rfl, same.freshLive]
  · rw [startStep_channel, startStep_channel, if_pos rfl, if_pos rfl, same.channel, same.station.outside.clock,
      same.station.outside.headSettings]
  · rw [startStep_supply on hj, startStep_supply on' hj', PerPlaten.get_set_self, PerPlaten.get_set_self, same.supply]
  · rw [startStep_arms, startStep_arms]
    cases st.conditioning with
    | none | exSitu => exact same.arm
    | inSitu q =>
      refine (PerPlaten.get_set_self _ _ _).trans (Eq.trans ?_ (PerPlaten.get_set_self _ _ _).symm)
      rw [same.arm, same.station.outside.clock, State.profile, same.station.outside.profiles]
      rfl
  · cases on.symm.trans here
    rw [State.item, startStep_items on' hj', State.item, startStep_items on hj, slotAt_putAt_self, slotAt_putAt_self]
  · rw [startStep_attnPending on hj, startStep_attnPending on' hj']
    split
    · exact .inr ⟨rfl, rfl⟩
    · exact .inl ⟨rfl, rfl⟩

theorem SameFor.attempt {i : PassSlot} {r : Pass} (live : s.pass i = some r) (live' : t.pass i = some r)
    (able : r.mayStart s.carousel.k) (hh : r.head = some h) (hst : r.step = some st) :
    Alike i h st.platen s t (s.attempt i) (t.attempt i) := by
  have able' : r.mayStart t.carousel.k := by rwa [same.station.carousel]
  cases e : s.startFailure h st with
  | some reason =>
    rw [attempt_blocked live able hh hst e, attempt_blocked live' able' hh hst (same.startFailure.trans e)]
    exact ⟨(pass_setPass_self _ _ _).trans (pass_setPass_self _ _ _).symm, same.channel, same.supply, same.arm,
      fun j on => same.ringItem on, .inl ⟨rfl, rfl⟩⟩
  | none =>
    obtain ⟨j, ring, on, hj⟩ := ring_of_startFailure e
    rw [attempt_starts live able hh hst e, attempt_starts live' able' hh hst (same.startFailure.trans e)]
    exact same.startStep on hj

end

/-! ### One attempt after others -/

/-- A part of the state after one more attempt: the attempt writes it as it would alone and none before it did, or it leaves the
part as it is. -/
theorem AsAlone.next {α : Type} {s t u : State} {made : PassSlot → Prop} {i : PassSlot} {part : State → α}
    (before : AsAlone s t made part)
    (step : (part u = part (s.attempt i) ∧ ∀ j, made j → part (s.attempt j) = part s) ∨
      (part u = part t ∧ part (s.attempt i) = part s)) : AsAlone s u (fun j => made j ∨ j = i) part := by
  obtain ⟨kept, written⟩ := before
  rcases step with ⟨own, others⟩ | ⟨left', alone⟩
  · refine ⟨fun all => own.trans (all i (.inr rfl)), ?_⟩
    rintro j (earlier | rfl) changes
    · exact absurd (others j earlier) changes
    · exact own
  · refine ⟨fun all => left'.trans (kept fun j earlier => all j (.inl earlier)), ?_⟩
    rintro j (earlier | rfl) changes
    · exact left'.trans (written j earlier changes)
    · exact absurd alone changes

/-- ITEM was raised by one of the attempts made, or by none, and no other cause (R93). -/
def Raised (s t : State) (made : PassSlot → Prop) : Prop :=
  (∀ i, made i → (s.attempt i).attnPending = s.attnPending ∨ (s.attempt i).attnPending = s.attnPending ||| 16#9) ∧
    ((t.attnPending = s.attnPending ∧ ∀ i, made i → (s.attempt i).attnPending = s.attnPending) ∨
      (t.attnPending = s.attnPending ||| 16#9 ∧ ∃ i, made i ∧ (s.attempt i).attnPending = s.attnPending ||| 16#9))

theorem Raised.asAlone {s t : State} {made : PassSlot → Prop} (raised : Raised s t made) :
    AsAlone s t made State.attnPending := by
  obtain ⟨each, ⟨quiet, all⟩ | ⟨loud, i, mi, one⟩⟩ := raised
  · exact ⟨fun _ => quiet, fun j mj changes => absurd (all j mj) changes⟩
  · refine ⟨fun all => (loud.trans one.symm).trans (all i mi), fun j mj changes => ?_⟩
    exact loud.trans ((each j mj).resolve_left changes).symm

theorem Raised.next {s t u : State} {made : PassSlot → Prop} {i : PassSlot} (before : Raised s t made)
    (step : (u.attnPending = t.attnPending ∧ (s.attempt i).attnPending = s.attnPending) ∨
      (u.attnPending = t.attnPending ||| 16#9 ∧ (s.attempt i).attnPending = s.attnPending ||| 16#9)) :
    Raised s u fun j => made j ∨ j = i := by
  obtain ⟨each, overall⟩ := before
  have twice : s.attnPending ||| 16#9 ||| 16#9 = s.attnPending ||| 16#9 := by rw [BitVec.or_assoc, BitVec.or_self]
  refine ⟨?_, ?_⟩
  · rintro j (earlier | rfl)
    · exact each j earlier
    · exact step.imp And.right And.right
  · rcases step with ⟨kept, alone⟩ | ⟨raised, alone⟩
    · rcases overall with ⟨quiet, all⟩ | ⟨loud, j, mj, one⟩
      · refine .inl ⟨kept.trans quiet, ?_⟩
        rintro j (earlier | rfl)
        · exact all j earlier
        · exact alone
      · exact .inr ⟨kept.trans loud, j, .inl mj, one⟩
    · refine .inr ⟨raised.trans ?_, i, .inr rfl, alone⟩
      rcases overall with ⟨quiet, -⟩ | ⟨loud, -⟩
      · rw [quiet]
      · rw [loud, twice]

/-! ### Attempts for passes apart -/

/-- A pass that may start stands on a head over a platen (R28). -/
def State.stands (s : State) (i : PassSlot) (h : Head) (p : Platen) : Prop :=
  ∃ r st, s.pass i = some r ∧ r.mayStart s.carousel.k ∧ r.head = some h ∧ r.step = some st ∧ st.platen = p

/-- No two slots' passes stand on one head, or over one platen. -/
theorem stands_apart {s : State} (apart : s.passesApart) {i j : PassSlot} {h k : Head} {p q : Platen} (a : s.stands i h p)
    (b : s.stands j k q) (other : j ≠ i) : k ≠ h ∧ q ≠ p := by
  obtain ⟨r, st, live, ⟨-, h', st', hh', hst', under⟩, hh, hst, rfl⟩ := a
  obtain ⟨r', st'', live', ⟨-, k', st''', hk', hst''', above⟩, hk, hst'', rfl⟩ := b
  cases hh.symm.trans hh'
  cases hst.symm.trans hst'
  cases hk.symm.trans hk'
  cases hst''.symm.trans hst'''
  have heads : k ≠ h := by
    obtain ⟨-, none | apart⟩ := apart j i r' r live' live other
    · exact absurd (none.symm.trans hk) (by simp)
    · exact fun same => apart (hk.trans (same ▸ hh.symm))
  refine ⟨heads, fun same => heads ?_⟩
  rw [platenUnder_eq_some_iff] at under above
  exact above.symm.trans ((congrArg _ same).trans under)

/-- A state after attempts for some passes, each made as if alone. -/
structure AttemptsAlone (s t : State) (made : PassSlot → Prop) : Prop where
  pass : ∀ i, (made i → t.pass i = (s.attempt i).pass i) ∧ (¬made i → t.pass i = s.pass i)
  channel : ∀ h c, AsAlone s t made fun u => u.channel h c
  supply : ∀ p, AsAlone s t made fun u => u.supply.get p
  arm : ∀ p, AsAlone s t made fun u => u.arms.get p
  item : ∀ j, AsAlone s t made fun u => u.item j
  raised : Raised s t made
  mounted : ∀ kind pos, t.mounted kind pos = s.mounted kind pos
  mountedItem : ∀ kind pos, (∀ i h p, made i → s.stands i h p → kind = .ring → pos ≠ .head h) →
    t.mountedItem kind pos = s.mountedItem kind pos
  station : KeptStation s t

theorem AttemptsAlone.none {s : State} {made : PassSlot → Prop} (nobody : ∀ i, ¬made i) : AttemptsAlone s s made where
  pass i := ⟨fun m => absurd m (nobody i), fun _ => rfl⟩
  channel _ _ := ⟨fun _ => rfl, fun i m => absurd m (nobody i)⟩
  supply _ := ⟨fun _ => rfl, fun i m => absurd m (nobody i)⟩
  arm _ := ⟨fun _ => rfl, fun i m => absurd m (nobody i)⟩
  item _ := ⟨fun _ => rfl, fun i m => absurd m (nobody i)⟩
  raised := ⟨fun i m => absurd m (nobody i), .inl ⟨rfl, fun i m => absurd m (nobody i)⟩⟩
  mounted _ _ := rfl
  mountedItem _ _ _ := rfl
  station := .same s

theorem AttemptsAlone.congr {s t : State} {made made' : PassSlot → Prop} (a : AttemptsAlone s t made)
    (same : ∀ i, made' i ↔ made i) : AttemptsAlone s t made' := by
  obtain rfl : made' = made := funext fun i => propext (same i)
  exact a

section
variable {s t : State} {made : PassSlot → Prop} {i : PassSlot} {h : Head} {p : Platen} (apart : s.passesApart)
  (able : ∀ j, made j → ∃ k q, s.stands j k q) (before : AttemptsAlone s t made) (fresh : ¬made i) (stands : s.stands i h p)
include apart able before fresh stands

omit before in
/-- What the attempts before it wrote is of other heads and platens. -/
theorem within_earlier {j : PassSlot} (earlier : made j) : ∃ k q, k ≠ h ∧ q ≠ p ∧ Within j k q s (s.attempt j) := by
  obtain ⟨k, q, there⟩ := able j earlier
  obtain ⟨heads, platens⟩ := stands_apart apart stands there fun same => fresh (same ▸ earlier)
  obtain ⟨r, st, live, may, hk, hst, rfl⟩ := there
  exact ⟨k, _, heads, platens, attempt_within live may hk hst⟩

theorem AttemptsAlone.sameFor : SameFor h p s t where
  channel c := (before.channel h c).1 fun j earlier => by
    obtain ⟨k, q, heads, -, within⟩ := within_earlier apart able fresh stands earlier
    exact within.channel h c (Ne.symm heads)
  supply := (before.supply p).1 fun j earlier => by
    obtain ⟨k, q, -, platens, within⟩ := within_earlier apart able fresh stands earlier
    exact within.supply p (Ne.symm platens)
  arm := (before.arm p).1 fun j earlier => by
    obtain ⟨k, q, -, platens, within⟩ := within_earlier apart able fresh stands earlier
    exact within.arm p (Ne.symm platens)
  mounted := before.mounted
  mountedItem kind pos here := before.mountedItem kind pos fun j k q earlier there ring at' => by
    have heads := (stands_apart apart stands there fun same => fresh (same ▸ earlier)).1
    cases (here ring).symm.trans at'
    exact heads rfl
  station := before.station

theorem AttemptsAlone.next : AttemptsAlone s (t.attempt i) fun j => made j ∨ j = i := by
  have same := before.sameFor apart able fresh stands
  have others {j : PassSlot} (earlier : made j) := within_earlier apart able fresh stands earlier
  have stands' := stands
  obtain ⟨r, st, live, may, hh, hst, rfl⟩ := stands
  have live' : t.pass i = some r := ((before.pass i).2 fresh).trans live
  have alike := same.attempt live live' may hh hst
  have alone := attempt_within live may hh hst
  have here : Within i h st.platen t (t.attempt i) :=
    attempt_within live' (by rwa [same.station.carousel]) hh hst
  refine ⟨fun j => ⟨?_, fun no => ?_⟩, fun k c => (before.channel k c).next ?_, fun q => (before.supply q).next ?_,
    fun q => (before.arm q).next ?_, fun j => (before.item j).next ?_, before.raised.next alike.attnPending,
    fun kind pos => (here.mounted kind pos).trans (before.mounted kind pos), fun kind pos away => ?_,
    before.station.then here.station⟩
  · rintro (earlier | rfl)
    · exact (here.pass j fun same => fresh (same ▸ earlier)).trans ((before.pass j).1 earlier)
    · exact alike.pass
  · rw [not_or] at no
    exact (here.pass j no.2).trans ((before.pass j).2 no.1)
  · by_cases own : k = h
    · subst own
      refine .inl ⟨alike.channel c, fun j earlier => ?_⟩
      obtain ⟨k', q, heads, -, within⟩ := others earlier
      exact within.channel k c (Ne.symm heads)
    · exact .inr ⟨here.channel k c own, alone.channel k c own⟩
  · by_cases own : q = st.platen
    · subst own
      refine .inl ⟨alike.supply, fun j earlier => ?_⟩
      obtain ⟨k', q, -, platens, within⟩ := others earlier
      exact within.supply _ (Ne.symm platens)
    · exact .inr ⟨here.supply q own, alone.supply q own⟩
  · by_cases own : q = st.platen
    · subst own
      refine .inl ⟨alike.arm, fun j earlier => ?_⟩
      obtain ⟨k', q, -, platens, within⟩ := others earlier
      exact within.arm _ (Ne.symm platens)
    · exact .inr ⟨here.arm q own, alone.arm q own⟩
  · by_cases own : s.mounted .ring (.head h) = some j
    · refine .inl ⟨alike.item j own, fun j' earlier => ?_⟩
      obtain ⟨k', q, heads, -, within⟩ := others earlier
      refine within.item j fun there => heads ?_
      obtain ⟨x, hx, -, px⟩ := mounted_some own
      obtain ⟨y, hy, -, py⟩ := mounted_some there
      cases hx.symm.trans hy
      cases px.symm.trans py
      rfl
    · exact .inr ⟨here.item j (by rwa [before.mounted]), alone.item j own⟩
  · rw [here.mountedItem fun ring => away i h _ (.inr rfl) stands' ring]
    exact before.mountedItem kind pos fun j k q earlier => away j k q (.inl earlier)

end

/-! ### The attempts of an event (R28, R29) -/

section
variable {s : State} {reaches : Pass → Bool} {reached : Pass → Prop}
  (reached_iff : ∀ r, reached r ↔ reaches r = true ∧ r.mayStart s.carousel.k)
include reached_iff

/-- One step of an event's round over the slots: an attempt when the slot's pass is reached, else nothing. -/
theorem attemptStep {t : State} {i : PassSlot} (pass : t.pass i = s.pass i) (carousel : t.carousel = s.carousel) :
    ((∃ r, s.pass i = some r ∧ reached r) → (if t.passHas i reaches then t.attempt i else t) = t.attempt i) ∧
      (¬(∃ r, s.pass i = some r ∧ reached r) → (if t.passHas i reaches then t.attempt i else t) = t) := by
  refine ⟨fun ⟨r, live, yes⟩ => if_pos ((passHas_iff _ _ _).2 ⟨r, pass.trans live, ((reached_iff r).1 yes).1⟩), fun no => ?_⟩
  by_cases has : t.passHas i reaches = true
  · rw [if_pos has]
    obtain ⟨r, live, yes⟩ := (passHas_iff _ _ _).1 has
    refine attempt_eq_self fun q hq may => no ⟨r, pass.symm.trans live, (reached_iff r).2 ⟨yes, ?_⟩⟩
    cases live.symm.trans hq
    rwa [← carousel]
  · exact if_neg has

/-- The round over some slots, from the state before it. -/
def State.attemptsFor (s : State) (reaches : Pass → Bool) (slots : List PassSlot) : State :=
  slots.foldl (fun t i => if t.passHas i reaches then t.attempt i else t) s

omit reached_iff in
theorem attemptsFor_concat (s : State) (reaches : Pass → Bool) (slots : List PassSlot) (i : PassSlot) :
    s.attemptsFor reaches (slots ++ [i]) =
      if (s.attemptsFor reaches slots).passHas i reaches then (s.attemptsFor reaches slots).attempt i
      else s.attemptsFor reaches slots := List.foldl_append

/-- The records after a round over some slots, whether or not the passes are apart. -/
structure Attempts (s t : State) (made : PassSlot → Prop) : Prop where
  other : ∀ i, ¬made i → t.pass i = s.pass i
  made : ∀ i r, s.pass i = some r → made i → ∃ q, t.pass i = some q ∧ Attempted r q
  station : KeptStation s t

theorem attemptsFor_records {slots : List PassSlot} (distinct : slots.Nodup) :
    Attempts s (s.attemptsFor reaches slots) fun i => i ∈ slots ∧ ∃ r, s.pass i = some r ∧ reached r := by
  induction slots using List.reverseRecOn with
  | nil => exact ⟨fun _ _ => rfl, fun _ _ _ ⟨m, _⟩ => (nomatch m), .same s⟩
  | append_singleton slots i ih =>
    have new : i ∉ slots := fun m => (List.nodup_append.1 distinct).2.2 i m i (List.mem_singleton_self i) rfl
    have ih := ih (List.nodup_append.1 distinct).1
    rw [attemptsFor_concat]
    generalize s.attemptsFor reaches slots = t at ih
    obtain ⟨one, nothing⟩ := attemptStep reached_iff (ih.other i fun m => new m.1) ih.station.carousel
    by_cases yes : ∃ r, s.pass i = some r ∧ reached r
    · rw [one yes]
      refine ⟨fun j no => ?_, fun j r live ⟨mem, made⟩ => ?_, ih.station.then (.attempt t i)⟩
      · have apart : j ≠ i := by
          rintro rfl
          exact no ⟨List.mem_append_right _ (List.mem_singleton_self _), yes⟩
        exact (attempt_pass_other t apart).trans (ih.other j fun m => no ⟨List.mem_append_left _ m.1, m.2⟩)
      · rcases List.mem_append.1 mem with earlier | last
        · have apart : j ≠ i := fun same => new (same ▸ earlier)
          rw [attempt_pass_other t apart]
          exact ih.made j r live ⟨earlier, made⟩
        · cases List.mem_singleton.1 last
          obtain ⟨q, hq, reach⟩ := made
          cases live.symm.trans hq
          exact attempt_attempted ((ih.other _ fun m => new m.1).trans live)
            (by rw [ih.station.carousel]; exact ((reached_iff r).1 reach).2)
    · rw [nothing yes]
      refine ⟨fun j no => ih.other j fun m => no ⟨List.mem_append_left _ m.1, m.2⟩, fun j r live ⟨mem, made⟩ => ?_, ih.station⟩
      rcases List.mem_append.1 mem with earlier | last
      · exact ih.made j r live ⟨earlier, made⟩
      · cases List.mem_singleton.1 last
        exact absurd made yes

theorem stands_of_reached {i : PassSlot} (made : ∃ r, s.pass i = some r ∧ reached r) : ∃ h p, s.stands i h p := by
  obtain ⟨r, live, yes⟩ := made
  have may := ((reached_iff r).1 yes).2
  have ⟨_, h, st, hh, hst, _⟩ := may
  exact ⟨h, _, r, st, live, may, hh, hst, rfl⟩

theorem attemptsFor_alone (apart : s.passesApart) {slots : List PassSlot} (distinct : slots.Nodup) :
    AttemptsAlone s (s.attemptsFor reaches slots) fun i => i ∈ slots ∧ ∃ r, s.pass i = some r ∧ reached r := by
  induction slots using List.reverseRecOn with
  | nil => exact .none fun _ ⟨m, _⟩ => (nomatch m)
  | append_singleton slots i ih =>
    have new : i ∉ slots := fun m => (List.nodup_append.1 distinct).2.2 i m i (List.mem_singleton_self i) rfl
    have ih := ih (List.nodup_append.1 distinct).1
    rw [attemptsFor_concat]
    generalize s.attemptsFor reaches slots = t at ih
    have fresh : ¬(i ∈ slots ∧ ∃ r, s.pass i = some r ∧ reached r) := fun m => new m.1
    obtain ⟨one, nothing⟩ := attemptStep reached_iff ((ih.pass i).2 fresh) ih.station.carousel
    by_cases yes : ∃ r, s.pass i = some r ∧ reached r
    · rw [one yes]
      obtain ⟨h, p, stands⟩ := stands_of_reached reached_iff yes
      refine (ih.next apart (fun j m => stands_of_reached reached_iff m.2) fresh stands).congr fun j => ?_
      rw [List.mem_append, List.mem_singleton, or_and_right]
      refine or_congr Iff.rfl (and_iff_left_of_imp ?_)
      rintro rfl
      exact yes
    · rw [nothing yes]
      refine ih.congr fun j => ?_
      rw [List.mem_append, List.mem_singleton, or_and_right]
      refine or_iff_left ?_
      rintro ⟨rfl, made⟩
      exact yes made

/-- With one pass reached the round is its attempt, with none it is nothing. -/
theorem attemptsFor_few {slots : List PassSlot} (distinct : slots.Nodup) :
    ((∀ j ∈ slots, ¬∃ r, s.pass j = some r ∧ reached r) → s.attemptsFor reaches slots = s) ∧
      ∀ i, (∃ r, s.pass i = some r ∧ reached r) → i ∈ slots →
        (∀ j ∈ slots, (∃ r, s.pass j = some r ∧ reached r) → j = i) → s.attemptsFor reaches slots = s.attempt i := by
  induction slots using List.reverseRecOn with
  | nil => exact ⟨fun _ => rfl, fun _ _ m => (nomatch m)⟩
  | append_singleton slots k ih =>
    have new : k ∉ slots := fun m => (List.nodup_append.1 distinct).2.2 k m k (List.mem_singleton_self k) rfl
    have front := (List.nodup_append.1 distinct).1
    obtain ⟨nobody, alone⟩ := ih front
    have records := attemptsFor_records reached_iff front
    obtain ⟨one, nothing⟩ := attemptStep reached_iff (records.other k fun m => new m.1) records.station.carousel
    have early {P : PassSlot → Prop} (all : ∀ j ∈ slots ++ [k], P j) : ∀ j ∈ slots, P j :=
      fun j m => all j (List.mem_append_left _ m)
    have last : k ∈ slots ++ [k] := List.mem_append_right _ (List.mem_singleton_self k)
    rw [attemptsFor_concat]
    refine ⟨fun none => (nothing (none k last)).trans (nobody (early none)), fun i made mem only => ?_⟩
    rcases List.mem_append.1 mem with earlier | here
    · have spared : ¬∃ r, s.pass k = some r ∧ reached r := fun yes => new (only k last yes ▸ earlier)
      exact (nothing spared).trans (alone i made earlier (early only))
    · cases List.mem_singleton.1 here
      rw [one made, nobody fun j m yes => new (only j (List.mem_append_left _ m) yes ▸ m)]

theorem attemptEach_made : AttemptsMade s (s.attemptEach reaches) reached := by
  have all : s.attemptEach reaches = s.attemptsFor reaches passSlots := rfl
  have records := attemptsFor_records reached_iff passSlots_nodup
  obtain ⟨nobody, alone⟩ := attemptsFor_few reached_iff passSlots_nodup
  rw [all]
  refine ⟨fun none => nobody fun j _ => none j, fun i made only => alone i made (mem_passSlots i) fun j _ => only j,
    fun i no => records.other i fun m => no m.2,
    fun i r live yes => records.made i r live ⟨mem_passSlots i, r, live, yes⟩, fun apart => ?_, records.station⟩
  have each := (attemptsFor_alone reached_iff apart passSlots_nodup).congr (made' := fun i => ∃ r, s.pass i = some r ∧ reached r)
    fun i => (and_iff_right (mem_passSlots i)).symm
  exact ⟨fun i => (each.pass i).1, each.channel, each.supply, each.arm, each.item, each.raised.asAlone⟩

/-- An event that reaches one pass makes its attempt. -/
theorem attemptEach_one {i : PassSlot} {r : Pass} (live : s.pass i = some r) (yes : reached r)
    (only : ∀ j q, s.pass j = some q → reached q → j = i) : s.attemptEach reaches = s.attempt i :=
  (attemptEach_made reached_iff).2.1 i ⟨r, live, yes⟩ fun j ⟨q, hq, also⟩ => only j q hq also

end

/-- Settles O22: each event's attempts, and the one attempt of an event at a platen or a head. -/
theorem attemptsReachTheEligible : Obligations.AttemptsReachTheEligible := by
  intro s eligible eligibleOver eligibleOn
  have over_iff (p : Platen) (r : Pass) :
      eligibleOver p r ↔ decide (r.seat s.carousel.k = some p) = true ∧ r.mayStart s.carousel.k := by
    rw [decide_eq_true_iff, Pass.seat_eq_some_iff]
    constructor
    · rintro ⟨may, st, hst, rfl⟩
      have ⟨_, h, st', hh, hst', under⟩ := may
      cases hst.symm.trans hst'
      exact ⟨⟨h, st, hh, hst, rfl, under⟩, may⟩
    · rintro ⟨⟨h, st, hh, hst, seat, under⟩, may⟩
      exact ⟨may, st, hst, seat⟩
  have on_iff (h : Head) (r : Pass) :
      eligibleOn h r ↔ decide (r.head = some h) = true ∧ r.mayStart s.carousel.k := by
    rw [decide_eq_true_iff]
    exact and_comm
  have stand {i : PassSlot} {r : Pass} {p : Platen} (live : s.pass i = some r) (yes : eligibleOver p r) :
      ∃ h, s.stands i h p := by
    obtain ⟨may, st, hst, rfl⟩ := yes
    have ⟨_, h, _, hh, _, _⟩ := may
    exact ⟨h, r, st, live, may, hh, hst, rfl⟩
  refine ⟨attemptEach_made fun r => (and_iff_right rfl).symm, fun p => attemptEach_made (over_iff p),
    fun h => attemptEach_made (on_iff h), fun apart i r live => ⟨fun p yes => ?_, fun h yes => ?_⟩⟩
  · refine attemptEach_one (over_iff p) live yes fun j q hq also => ?_
    obtain ⟨h, here⟩ := stand live yes
    obtain ⟨k, there⟩ := stand hq also
    by_contra other
    exact (stands_apart apart here there other).2 rfl
  · refine attemptEach_one (on_iff h) live yes fun j q hq also => ?_
    by_contra other
    obtain ⟨-, none | apart⟩ := apart j i q r hq live other
    · exact absurd (none.symm.trans also.2) (by simp)
    · exact apart (also.2.trans yes.2.symm)

end Sys2Proof.Machine

/-! SUPPORT. A stroke slot: the candidate, the debit of the lot and the grant (R112, R114 to R116, R120, R121). -/

namespace Sys2Proof.Machine

/-! ### The debit of a lot (R96) -/

/-- A lot that a stroke was drawn from (R96). -/
def Item.drawn (v : Nat) (lot : Item) : Item :=
  { lot with
    usage := min 4294967295 (lot.usage + v), volume := lot.volume - v
    flags := { lot.flags with empty := decide (lot.volume = v) } }

/-- A lot that a stroke emptied without its being granted (R96). -/
def Item.drained (lot : Item) : Item := { lot with volume := 0, flags := { lot.flags with empty := true } }

section
variable {s : State} {f : Feed} {v : Nat}

theorem debit_unmounted (none : s.lotOn f = none) : s.debit f v = ⟨s, false, true⟩ := by
  rw [State.debit, none]

variable {j : ItemSlot} {lot : Item} (on : s.lotOn f = some j) (hj : s.item j = some lot)
include on hj

theorem debit_refused (short : lot.volume < v) : s.debit f v = ⟨s.rewriteItem j lot lot.drained, false, true⟩ := by
  simp only [State.debit, on, hj, if_neg (Nat.not_le.2 short)]
  rfl

theorem debit_accepted (wf : lot.wf) (enough : v ≤ lot.volume) :
    s.debit f v = ⟨s.rewriteItem j lot (lot.drawn v), true, lot.flagsGained (lot.drawn v)⟩ := by
  have kind : lot.kind = .lot := lotOn_kind on hj
  obtain ⟨-, -, -, flags⟩ := wf
  have empty : lot.flags.empty = decide (lot.volume = 0) := by
    rw [flags]
    simp [Item.rightFlags, kind]
  have drained : (decide (lot.volume = 0) || decide (lot.volume - v = 0)) = decide (lot.volume = v) := by
    rw [Bool.eq_iff_iff]
    simp only [Bool.or_eq_true, decide_eq_true_iff]
    omega
  have after (taken : Item) (is : taken = { lot.addUsage v with volume := lot.volume - v }) :
      { taken with flags := { taken.flags with empty := taken.flags.empty || taken.isEmpty } } = lot.drawn v := by
    subst is
    simp [Item.addUsage, Item.isWorn, Item.isEmpty, Item.drawn, kind, empty, drained, maxWord]
  have gained : lot.flagsGained (lot.drawn v) = ((lot.drawn v).flags.empty && !lot.flags.empty) := by
    simp [Item.flagsGained, Item.drawn]
  simp only [State.debit, on, hj, if_pos enough]
  rw [gained]
  exact congrArg (fun z : Item => Debit.mk (s.rewriteItem j lot z) true (z.flags.empty && !lot.flags.empty)) (after _ rfl)

end

/-! ### The candidate of a slot (R114) -/

section
variable {s : State} {f : Feed}

theorem candidate_eq_none
    (nobody : (∀ p, (s.feeds.get f).active[(s.feeds.get f).pointer]? ≠ some (some p)) ∨
      ∀ p, ¬0 < (s.supply.get p).strokes.get f) : s.candidate f = none := by
  unfold State.candidate
  cases e : (s.feeds.get f).entry with
  | none => rfl
  | some first =>
    rcases nobody with idle | still
    · unfold FeedUnit.entry at e
      split at e
      · rename_i entry here
        exact absurd (e ▸ here) (idle first)
      · cases e
    · exact List.find?_eq_none.2 fun p _ has => still p (of_decide_eq_true has)

theorem candidate_eq_some {first c : Platen} {before rest : List Platen}
    (entry : (s.feeds.get f).active[(s.feeds.get f).pointer]? = some (some first))
    (cycle : platenCycle first = before ++ c :: rest) (passed : ∀ p ∈ before, ¬0 < (s.supply.get p).strokes.get f)
    (pends : 0 < (s.supply.get c).strokes.get f) : s.candidate f = some c := by
  have named : (s.feeds.get f).entry = some first := by
    rw [FeedUnit.entry, entry]
  rw [State.candidate, named]
  show (platenCycle first).find? (s.hasStroke f) = some c
  have passed : before.find? (s.hasStroke f) = none :=
    List.find?_eq_none.2 fun p m has => passed p m (of_decide_eq_true has)
  have found : (c :: rest).find? (s.hasStroke f) = some c := List.find?_cons_of_pos (decide_eq_true pends)
  rw [cycle, List.find?_append, passed, found]
  rfl

end

/-! ### The slot (R112, R115, R116, R120, R121) -/

section
variable (s : State) (f : Feed)

theorem exec_strokeSlot_loading (loading : s.startUp = .loading) : exec (.strokeSlot f) s = .next (s.beginSlot f) :=
  congrArg Host.Outcome.next (if_pos loading)

theorem exec_strokeSlot_ready (ready : s.startUp = .ready) :
    exec (.strokeSlot f) s = .next (((s.beginSlot f).slotGrant f).advancePointer f) :=
  congrArg Host.Outcome.next (if_neg fun (loading : s.startUp = .loading) => by simp [ready] at loading)

variable {s f}

theorem slotGrant_latched (latch : s.tripLatch = true) : s.slotGrant f = s := if_pos latch

theorem slotGrant_nobody (clear : s.tripLatch = false) (nobody : (s.slotDemand f).candidate f = none) :
    s.slotGrant f = s.slotDemand f := by
  refine (if_neg (by simp [clear])).trans ?_
  simp only [nobody]

theorem slotGrant_grantTo {c : Platen} (clear : s.tripLatch = false)
    (candidate : (s.slotDemand f).candidate f = some c) : s.slotGrant f = (s.slotDemand f).grantTo f c := by
  refine (if_neg (by simp [clear])).trans ?_
  simp only [candidate]

theorem grantTo_free (free : feedPosition f = none) {c : Platen} : s.grantTo f c = s.grant f c := by
  simp only [State.grantTo, free]

section
variable {pos : Position} (here : feedPosition f = some pos) {v : Nat} (volume : (s.feeds.get f).volume = v) {c : Platen} {t : State}
include here volume

theorem grantTo_debited {accepted loss : Bool} (debit : s.debit f v = ⟨t, accepted, loss⟩) :
    s.grantTo f c = (if accepted then t.grant f c else t).supplyLossIf loss f := by
  simp only [State.grantTo, here, volume, debit]

/-- A refused debit is a supply loss (R96, R116). -/
theorem grantTo_refused (debit : s.debit f v = ⟨t, false, true⟩) : s.grantTo f c = t.supplyLoss f := by
  rw [grantTo_debited here volume debit]
  simp only [State.supplyLossIf, Bool.false_eq_true, if_false, if_true]

/-- An accepted debit that leaves the lot stocked only grants (R115). -/
theorem grantTo_stocked {u : State} (debit : s.debit f v = ⟨t, true, false⟩) (grant : t.grant f c = u) :
    s.grantTo f c = u := by
  rw [grantTo_debited here volume debit, ← grant]
  simp only [State.supplyLossIf, Bool.false_eq_true, if_false, if_true]

/-- An accepted debit that empties the lot grants, and is a supply loss (R115, R116). -/
theorem grantTo_emptied {u : State} (debit : s.debit f v = ⟨t, true, true⟩) (grant : t.grant f c = u) :
    s.grantTo f c = u.supplyLoss f := by
  rw [grantTo_debited here volume debit, ← grant]
  simp only [State.supplyLossIf, if_true]

end

/-- A grant, written out for a state that has the supply of another (R115). -/
theorem grant_eq {t : State} {c : Platen} (supply : t.supply = s.supply) (feeds : t.feeds = s.feeds) (rows : t.rows = s.rows) :
    t.grant f c =
      { t with
        supply := t.supply.set c
          { s.supply.get c with
            demand := (s.supply.get c).demand.set f ((s.supply.get c).demand.get f - s.thresholdOn f c)
            strokes := (s.supply.get c).strokes.set f ((s.supply.get c).strokes.get f - 1)
            granted := if f = .a then min 65535 ((s.supply.get c).granted + 1) else (s.supply.get c).granted }
        feeds := t.feeds.set f { t.feeds.get f with diverter := c, pulse := true } } := by
  have threshold : t.thresholdOn f c = s.thresholdOn f c := by
    simp only [State.thresholdOn, State.row, supply, feeds, rows]
  rw [State.grant, threshold, show t.supply.get c = s.supply.get c from congrArg (·.get c) supply]
  rfl

end

/-- Settles O47: the slot by the start-up and the latch, the candidate by the cyclic order, the grant by the debit. -/
theorem strokeSlotGrants : Obligations.StrokeSlotGrants := by
  intro s f wf _ x begun asked pends after
  have began : s.beginSlot f = begun := rfl
  have feed : begun.feeds.get f = { x with nextSlot := x.nextSlot + 5000, pulse := false } := PerFeed.get_set_self _ _ _
  have askedEq : asked = { begun with supply := asked.supply } := by simp only [asked, slotDemand_eq]
  have feeds : asked.feeds = begun.feeds := (congrArg State.feeds askedEq :)
  have items : asked.items = s.items := (congrArg State.items askedEq :)
  have volume : (asked.feeds.get f).volume = x.volume := by rw [feeds, feed]
  have entry : (asked.feeds.get f).active[(asked.feeds.get f).pointer]? = x.active[x.pointer]? := by rw [feeds, feed]
  have slot (ready : s.startUp = .ready) {t : State} (grants : begun.slotGrant f = t) :
      exec (.strokeSlot f) s = .next (t.advancePointer f) :=
    (exec_strokeSlot_ready s f ready).trans (congrArg (fun t => Host.Outcome.next (State.advancePointer t f)) grants)
  refine ⟨exec_strokeSlot_loading s f, fun ready latch => slot ready (slotGrant_latched latch), fun ready clear =>
    ⟨fun nobody => slot ready (slotGrant_nobody (s := begun) clear (candidate_eq_none (s := asked) (entry.symm ▸ nobody))), ?_⟩⟩
  intro first c before rest named cycle passed pending y granted
  have order : platenCycle first = before ++ c :: rest := by
    refine Eq.trans ?_ cycle
    cases first <;> rfl
  have candidate : asked.candidate f = some c := candidate_eq_some (entry.trans named) order passed pending
  have grants : begun.slotGrant f = asked.grantTo f c := slotGrant_grantTo (s := begun) clear candidate
  have threshold : asked.thresholdOn f c = (match y.dispensing with
      | some row => x.volume * ((s.row row).partA + (s.row row).partB + (s.row row).partC) * 12
      | none => 0) := by
    have rows : asked.rows = s.rows := (congrArg State.rows askedEq :)
    unfold State.thresholdOn
    rw [volume]
    show _ = (match (asked.supply.get c).dispensing with | some row => _ | none => _)
    cases (asked.supply.get c).dispensing with
    | none => rfl
    | some row =>
      show threshold x.volume (slotAt asked.rows row) = _
      rw [rows]
      rfl
  have given {t : State} (supply : t.supply = asked.supply) (feeds : t.feeds = asked.feeds) (rows : t.rows = asked.rows) :
      t.grant f c = granted t := by
    rw [grant_eq supply feeds rows, threshold] <;> rfl
  refine ⟨?_, ?_⟩
  · intro isC
    exact slot ready (grants.trans ((grantTo_free (isC ▸ rfl)).trans (given rfl rfl rfl)))
  intro pos which
  have here : feedPosition f = some pos := by
    rcases which with ⟨feed, place⟩ | ⟨feed, place⟩ <;> rw [feed, place] <;> rfl
  have lots (t : State) : t.lotOn f = t.mounted .lot pos := by rw [State.lotOn, here]
  have refused {t : State} (debit : asked.debit f x.volume = ⟨t, false, true⟩) : begun.slotGrant f = t.supplyLoss f :=
    grants.trans (grantTo_refused here volume debit)
  refine ⟨fun empty => slot ready (refused (debit_unmounted ?_)), fun j lot hj at' => ?_⟩
  · rw [lots, mounted_congr items]
    exact mounted_eq_none fun k z hz _ => empty k z hz
  intro rewritten
  have isLot : lot.kind = .lot := by
    have takes := wf.takes hj at'
    rcases which with ⟨-, place⟩ | ⟨-, place⟩ <;> rw [place] at takes <;> exact of_decide_eq_true takes
  have on : asked.lotOn f = some j := by
    rw [lots, mounted_congr items]
    exact isLot ▸ mounted_eq_some wf hj at'
  have hj' : asked.item j = some lot := (item_eq_of_items items j).trans hj
  have rewrite (z : Item) : asked.rewriteItem j lot z = rewritten z := by
    have attn : asked.attnPending = s.attnPending := (congrArg State.attnPending askedEq :)
    rw [rewriteItem_eq, items, attn]
    rfl
  refine ⟨fun enough => ?_, fun short => ?_⟩
  · intro z
    have debit : asked.debit f x.volume = ⟨rewritten z, true, lot.flagsGained z⟩ :=
      (debit_accepted on hj' (wf.1 j lot hj) enough).trans (congrArg (Debit.mk · true _) (rewrite z))
    have grant : (rewritten z).grant f c = granted (rewritten z) := given rfl rfl rfl
    refine ⟨fun stocked => ?_, fun gained => ?_⟩
    · rw [stocked] at debit
      exact slot ready (grants.trans (grantTo_stocked here volume debit grant))
    · rw [gained] at debit
      exact slot ready (grants.trans (grantTo_emptied here volume debit grant))
  · have debit := debit_refused on hj' short
    rw [rewrite] at debit
    exact slot ready (refused debit)

end Sys2Proof.Machine
